-- ==== Sys2Proof/Word.lean ====
section
/-! DEFINITION. Bytes, the eight lanes and eight tanks, sets of eight, and the container of eight like things. -/

namespace Sys2Proof

/-- One byte of a frame. -/
abbrev Byte := BitVec 8

/-- A lane, L0 to L7 (00_scope.md, Names). -/
abbrev Lane := Fin 8

/-- A tank, T0 to T7 (00_scope.md, Names). -/
abbrev Tank := Fin 8

/-- A set of lanes, in the form of R192: bit n stands for Ln. -/
abbrev LaneSet := BitVec 8

/-- A set of tanks, inlets or permits, in the form of R192: bit n stands for Tn. -/
abbrev TankSet := BitVec 8

/-- A machine tag, 6 bytes, the first byte the most significant (R93). -/
abbrev Tag := BitVec 48

/-- Lanes and tanks in order. -/
def allEight : List (Fin 8) := [0, 1, 2, 3, 4, 5, 6, 7]

/-- Eight like things, one for each lane or tank. -/
structure Eight (α : Type) where
  e0 : α
  e1 : α
  e2 : α
  e3 : α
  e4 : α
  e5 : α
  e6 : α
  e7 : α
  deriving DecidableEq, Repr

/-- The thing of one lane or tank. -/
def Eight.get {α : Type} (v : Eight α) (i : Fin 8) : α :=
  match i.val with
  | 0 => v.e0
  | 1 => v.e1
  | 2 => v.e2
  | 3 => v.e3
  | 4 => v.e4
  | 5 => v.e5
  | 6 => v.e6
  | _ => v.e7

/-- The eight with the thing of one lane or tank replaced. -/
def Eight.set {α : Type} (v : Eight α) (i : Fin 8) (x : α) : Eight α :=
  match i.val with
  | 0 => { v with e0 := x }
  | 1 => { v with e1 := x }
  | 2 => { v with e2 := x }
  | 3 => { v with e3 := x }
  | 4 => { v with e4 := x }
  | 5 => { v with e5 := x }
  | 6 => { v with e6 := x }
  | _ => { v with e7 := x }

/-- The eight whose i-th thing is f i. -/
def Eight.ofFn {α : Type} (f : Fin 8 → α) : Eight α :=
  ⟨f 0, f 1, f 2, f 3, f 4, f 5, f 6, f 7⟩

/-- Eight times the same thing. -/
def Eight.const {α : Type} (x : α) : Eight α :=
  ⟨x, x, x, x, x, x, x, x⟩

/-- Each of the eight changed alike. -/
def Eight.map {α β : Type} (f : α → β) (v : Eight α) : Eight β :=
  ⟨f v.e0, f v.e1, f v.e2, f v.e3, f v.e4, f v.e5, f v.e6, f v.e7⟩

/-- The eight in order. -/
def Eight.toList {α : Type} (v : Eight α) : List α :=
  [v.e0, v.e1, v.e2, v.e3, v.e4, v.e5, v.e6, v.e7]

/-- The set that holds one lane or tank. -/
def bit8 (i : Fin 8) : BitVec 8 := 1#8 <<< i.val

/-- Whether a set names a lane or tank. -/
def inSet (s : BitVec 8) (i : Fin 8) : Bool := s.getLsbD i.val

/-- The set of the lanes or tanks that satisfy p. -/
def setOf (p : Fin 8 → Bool) : BitVec 8 :=
  allEight.foldl (fun s i => if p i then s ||| bit8 i else s) 0#8

/-- How many lanes or tanks a set names. -/
def setCount (s : BitVec 8) : Nat :=
  (allEight.filter (inSet s)).length

end Sys2Proof
end

