-- ==== Sys2Proof/Machine/Crc.lean ====
section
/-! DEFINITION. The CRC-16 of R94, used for the bucket hash and for frames (R175), and big-endian bytes (R192). -/

namespace Sys2Proof.Machine

/-- One step of the register: shift left by one place; a 1 dropped combines 0x1021 (R94). -/
def crcStep (r : BitVec 16) : BitVec 16 := if r.msb then (r <<< 1) ^^^ 0x1021#16 else r <<< 1

/-- One byte taken into the register: combined into the upper 8 bits, then eight steps (R94). -/
def crcByte (r : BitVec 16) (b : Byte) : BitVec 16 :=
  let r0 := r ^^^ (b.setWidth 16 <<< 8)
  crcStep (crcStep (crcStep (crcStep (crcStep (crcStep (crcStep (crcStep r0)))))))

/-- The CRC-16 of a run of bytes, from 0xFFFF (R94, R175). -/
def crc16 (bytes : List Byte) : BitVec 16 := bytes.foldl crcByte 0xFFFF#16

/-- The n low bytes of v, high byte first (R192). -/
def bytesOf : Nat → Nat → List Byte
  | 0, _ => []
  | n + 1, v => BitVec.ofNat 8 (v / 256 ^ n) :: bytesOf n v

/-- The n low bytes of z in two's complement, high byte first (R192). -/
def bytesOfInt (n : Nat) (z : Int) : List Byte := bytesOf n (z % (256 ^ n : Nat)).toNat

/-- The value of bytes, high byte first (R192). -/
def valueOf (bytes : List Byte) : Nat := bytes.foldl (fun v b => v * 256 + b.toNat) 0

/-- The value of bytes in two's complement, high byte first (R192). -/
def signedOf (bytes : List Byte) : Int :=
  let v := valueOf bytes
  if 2 * v < 256 ^ bytes.length then (v : Int) else (v : Int) - (256 ^ bytes.length : Nat)

/-- The six bytes of a tag in order (R192). -/
def tagBytes (t : Tag) : List Byte := bytesOf 6 t.toNat

/-- The bucket of a tag: the top 6 bits of its CRC (R94). -/
def bucketOf (t : Tag) : Nat := (crc16 (tagBytes t)).toNat / 1024

end Sys2Proof.Machine
end

