-- ==== Sys2Proof/Syntax.lean ====
section
/-! DEFINITION. The commands: one constructor of Instr for each row of spec/opcode_table.json.
Field events name a lane or tank of the device; requests carry their values as the wire carries them (R192, R194), so
that a value may lie outside its range and is then judged by the owning block. -/

namespace Sys2Proof

/-- The three link ports (10, Ports and the line). R194 gives their order. -/
inductive PortId where
  | dispatch
  | console
  | receipt
  deriving DecidableEq, Repr

/-- Where a request came from: its port and the sequence byte of its frame (R178, R193). -/
structure Frame where
  port : PortId
  seq : Byte
  deriving DecidableEq, Repr

/-- The thirty spill sources (R142). -/
inductive SourceId where
  | sump (n : Fin 4)
  | estop
  | hose (l : Lane)
  | overfill (t : Tank)
  | loss (t : Tank)
  | manual
  deriving DecidableEq, Repr

/-- What holds the device in reset: the RESET pin low, or a supply below 2.7 V (R197). -/
inductive ResetCause where
  | pin
  | lowSupply
  deriving DecidableEq, Repr

/-- The values SET_LANE carries (R31). -/
structure LaneSetting where
  tank : Nat
  slowStart : Nat
  slowdown : Nat
  authTime : Nat
  noFlowTime : Nat
  settleTime : Nat
  overrunLimit : Nat
  miscountLimit : Nat
  reverseLimit : Nat
  creepLimit : Nat
  deriving DecidableEq, Repr

/-- The values SET_TANK carries (R55). -/
structure TankSetting where
  cls : Nat
  capacity : Nat
  gaugeFitted : Nat
  lowLow : Nat
  low : Nat
  high : Nat
  highHigh : Nat
  zoneDebounce : Nat
  minFill : Nat
  lossLimit : Nat
  lossWindow : Nat
  deriving DecidableEq, Repr

/-- The values SET_SOURCE carries in its source form (R152). -/
structure SourceSetting where
  enable : Nat
  debounce : Nat
  hoseLimit : Nat
  lanes : LaneSet
  inlets : TankSet
  clearCount : Nat
  deriving DecidableEq, Repr

/-- The values SET_METER carries (R23). -/
structure MeterSetting where
  kx : Nat
  b1 : Nat
  b2 : Nat
  b3 : Nat
  c0 : Int
  c1 : Int
  c2 : Int
  c3 : Int
  epr : Nat
  deriving DecidableEq, Repr

/-- A service item as ENROL_MACHINE and SET_MACHINE carry it (R96). -/
structure ItemSetting where
  tank : Nat
  interval : Nat
  minimum : Nat
  base : Option Nat
  deriving DecidableEq, Repr

/-- The values SET_ACCESS carries (R184, R194): ports in the order Dispatch, Console, Receipt. -/
structure AccessSetting where
  dispatchLevel : Nat
  consoleLevel : Nat
  receiptLevel : Nat
  dispatchDenial : BitVec 32
  consoleDenial : BitVec 32
  receiptDenial : BitVec 32
  openLevel : Nat
  deriving DecidableEq, Repr

/-- The commands. Each constructor is one row of spec/opcode_table.json; its docstring names the row and its rule. -/
inductive Instr where
  /-- POWER_ON (R172), with the strap pins RATE1..0 read at the entry to RESTORING (R174). -/
  | powerOn (straps : BitVec 2)
  /-- RESET_ASSERTED (R197). -/
  | resetAsserted (cause : ResetCause)
  /-- RESET_RELEASED (R172), with the strap pins read. -/
  | resetReleased (straps : BitVec 2)
  /-- POWER_LOSS (R169). -/
  | powerLoss
  /-- RESTORE_COMPLETE (R172), with the levels of A and B of each lane at the first input sample in RUNNING (R1). -/
  | restoreComplete (aLevels bLevels : LaneSet)
  /-- QUADRATURE_EDGE (R2): a decoder input sample with the levels a and b. -/
  | quadratureEdge (l : Lane) (a b : Bool)
  /-- ILLEGAL_TRANSITION (R3): both channels changed. -/
  | illegalTransition (l : Lane)
  /-- METER_FAULT (R9). -/
  | meterFault (l : Lane)
  /-- INDEX_PULSE (R6). -/
  | indexPulse (l : Lane)
  /-- METER_SAMPLE (R15). -/
  | meterSample (l : Lane)
  /-- HOOK_SAMPLE (R30), level true is asserted. -/
  | hookSample (l : Lane) (level : Bool)
  /-- PUMP_RDY_SAMPLE (R68), level true is asserted. -/
  | pumpRdySample (t : Tank) (level : Bool)
  /-- PUMP_TIMER_EXPIRY (R68). -/
  | pumpTimerExpiry (t : Tank)
  /-- AUTHORIZATION_TIMER_EXPIRY (R37). -/
  | authorizationTimerExpiry (l : Lane)
  /-- NO_FLOW_TIMER_EXPIRY (R42). -/
  | noFlowTimerExpiry (l : Lane)
  /-- SETTLE_PERIOD_END (R45). -/
  | settlePeriodEnd (l : Lane)
  /-- ATTENTION_PULSE_EXPIRY (R187). -/
  | attentionPulseExpiry (p : PortId)
  /-- GAUGE_SAMPLE (R57), with the bytes the head sent within the poll window. -/
  | gaugeSample (t : Tank) (reply : List Byte)
  /-- GAUGE_STALE (R58): the tenth consecutive invalid sample. -/
  | gaugeStale (t : Tank)
  /-- STALE_END (R87): the tenth invalid sample while a delivery waits for its closing gauge. -/
  | staleEnd (t : Tank)
  /-- NO_GAUGE_TANK_TIMER (R144). -/
  | noGaugeTankTimer (t : Tank)
  /-- DISCRETE_INPUT_SAMPLE (R144): bit n of sumpLow is SUMPn at low level; loopOpen is the emergency-stop loop. -/
  | discreteInputSample (sumpLow : BitVec 4) (loopOpen : Bool)
  /-- SOURCE_TRIP (R147): the debounced condition of a source rises. -/
  | sourceTrip (src : SourceId)
  /-- CAPTURE_SAMPLE_TIMER_EXPIRY (R157). -/
  | captureSampleTimerExpiry
  /-- ANNOUNCEMENT_TIMER_EXPIRY (R81) of the delivery with this number. -/
  | announcementTimerExpiry (n : Nat)
  /-- DELIVERY_SETTLE_TIMER_EXPIRY (R87) of the delivery with this number. -/
  | deliverySettleTimerExpiry (n : Nat)
  /-- ORDER_DEADLINE (R117) of the order with this number. -/
  | orderDeadline (n : Nat)
  /-- FRAME_REJECTED (R175): characters received one after another, and whether the last one's stop bit was low. -/
  | frameRejected (p : PortId) (bytes : List Byte) (stopLow : Bool)
  /-- FRAME_GAP_TIMEOUT (R175): more than 5 ms with no character in a frame. -/
  | frameGapTimeout (p : PortId)
  /-- OVERLAPPING_FRAME (R176). -/
  | overlappingFrame (p : PortId)
  /-- SHUNNING_IDLE_END (R176). -/
  | shunningIdleEnd (p : PortId)
  /-- REPLY_COMPLETE (R176). -/
  | replyComplete (p : PortId)
  /-- UNKNOWN_REQUEST (R177), with the code and the payload received. -/
  | unknownRequest (f : Frame) (code : Byte) (payload : List Byte)
  /-- READ_EVENTS (R188). -/
  | readEvents (f : Frame)
  /-- CLEAR_EVENTS (R188), with an event set (R195). -/
  | clearEvents (f : Frame) (kinds : BitVec 16)
  /-- SET_ATTENTION (R189). -/
  | setAttention (f : Frame) (mask : BitVec 16) (mode width : Nat)
  /-- READ_PORT (R179). -/
  | readPort (f : Frame)
  /-- READ_LANE (R52). -/
  | readLane (f : Frame) (lane : Nat)
  /-- READ_STOCK (R76). -/
  | readStock (f : Frame)
  /-- READ_TANK (R77). -/
  | readTank (f : Frame) (tank : Nat)
  /-- READ_ACCOUNT (R110). -/
  | readAccount (f : Frame) (tag : Tag)
  /-- READ_ACCOUNTS (R111): direction 0 UP, 1 DOWN. -/
  | readAccounts (f : Frame) (direction count : Nat)
  /-- SET_CURSOR (R112). -/
  | setCursor (f : Frame) (slot : Nat)
  /-- LIST_ORDERS (R122). -/
  | listOrders (f : Frame)
  /-- READ_DELIVERY (R91): a delivery number, or 0 for the list. -/
  | readDelivery (f : Frame) (number : Nat)
  /-- READ_TRIPS (R160), list form. -/
  | readTrips (f : Frame) (clearDropped : Nat)
  /-- READ_TRIPS (R160), source form. -/
  | readTripsSource (f : Frame) (index : Nat)
  /-- READ_CAPTURE (R159). -/
  | readCapture (f : Frame) (start : Nat)
  /-- READ_CAL (R168). -/
  | readCal (f : Frame)
  /-- READ_RECORD_STATUS (R140). -/
  | readRecordStatus (f : Frame) (clearDropped : Nat)
  /-- PLACE_ORDER (R116): priority 0 NORMAL, 1 PRIORITY. -/
  | placeOrder (f : Frame) (tag : Tag) (tank volume priority expiry : Nat)
  /-- CANCEL_ORDER (R118). -/
  | cancelOrder (f : Frame) (number : Nat)
  /-- OPEN_LANE (R32): order 0 is no order (R119). -/
  | openLane (f : Frame) (lane : Nat) (tag : Tag) (order : Nat) (preset hours : Option Nat) (override : Nat)
  /-- STOP_LANE (R50). -/
  | stopLane (f : Frame) (lane : Nat)
  /-- ENABLE_LANE (R50). -/
  | enableLane (f : Frame) (lane : Nat)
  /-- DISABLE_LANE (R50). -/
  | disableLane (f : Frame) (lane : Nat)
  /-- SET_TANK_RESERVE (R56). -/
  | setTankReserve (f : Frame) (tank reserve : Nat)
  /-- ADJUST_STOCK (R63). -/
  | adjustStock (f : Frame) (tank book clearShortage : Nat)
  /-- ACK_ALARMS (R73), one tank. -/
  | ackAlarms (f : Frame) (tank : Nat)
  /-- ACK_ALARMS (R73), ALL. -/
  | ackAlarmsAll (f : Frame)
  /-- ENROL_MACHINE (R96). -/
  | enrolMachine (f : Frame) (tag : Tag) (cls : Nat) (permits : TankSet) (capacity : Nat) (items : List ItemSetting)
  /-- RETIRE_MACHINE (R97). -/
  | retireMachine (f : Frame) (tag : Tag)
  /-- SET_MACHINE (R98): state 0 ACTIVE, 1 SUSPENDED. -/
  | setMachine (f : Frame) (tag : Tag) (cls state : Nat) (permits : TankSet) (capacity : Nat) (items : List ItemSetting)
  /-- ANNOUNCE_DELIVERY (R80). -/
  | announceDelivery (f : Frame) (tank : Nat) (identity : BitVec 64) (docket : Nat)
  /-- CONFIRM_DELIVERY (R82). -/
  | confirmDelivery (f : Frame) (number : Nat) (settle fixedTol propTol : Option Nat)
  /-- END_DELIVERY (R85). -/
  | endDelivery (f : Frame) (number : Nat)
  /-- WITHDRAW_DELIVERY (R81). -/
  | withdrawDelivery (f : Frame) (number : Nat)
  /-- RELEASE_DELIVERY (R89). -/
  | releaseDelivery (f : Frame) (number : Nat)
  /-- COLLECT_RECORDS (R138). -/
  | collectRecords (f : Frame) (count : Nat)
  /-- RELEASE_RECORDS (R139). -/
  | releaseRecords (f : Frame) (number : Nat)
  /-- REARM (R153), one source. -/
  | rearm (f : Frame) (index : Nat)
  /-- REARM ALL (R154). -/
  | rearmAll (f : Frame)
  /-- MANUAL_TRIP (R148). -/
  | manualTrip (f : Frame)
  /-- RELEASE_TRIPS (R156). -/
  | releaseTrips (f : Frame) (number : Nat)
  /-- RELEASE_CAPTURE (R158). -/
  | releaseCapture (f : Frame)
  /-- SET_LANE (R31). -/
  | setLane (f : Frame) (lane : Nat) (v : LaneSetting)
  /-- SET_TANK (R55). -/
  | setTank (f : Frame) (tank : Nat) (v : TankSetting)
  /-- SET_SOURCE (R152), source form. -/
  | setSource (f : Frame) (index : Nat) (v : SourceSetting)
  /-- SET_SOURCE (R152), unit form. -/
  | setSourceUnit (f : Frame) (count : Nat)
  /-- SET_CLASS (R100). -/
  | setClass (f : Frame) (cls hoursRequired ceiling : Nat)
  /-- SET_RECORD_POLICY (R137): policy 0 HOLD, 1 OVERWRITE. -/
  | setRecordPolicy (f : Frame) (policy threshold : Nat)
  /-- SET_CLOCK (R190). -/
  | setClock (f : Frame) (value : Nat)
  /-- SET_ACCESS (R184). -/
  | setAccess (f : Frame) (v : AccessSetting)
  /-- BAY_RESTART (R173), with the strap pins read at the entry to RESTORING. -/
  | bayRestart (f : Frame) (straps : BitVec 2)
  /-- SET_METER (R24). -/
  | setMeter (f : Frame) (lane : Nat) (v : MeterSetting)
  /-- SET_PRODUCT (R25). -/
  | setProduct (f : Frame) (tank alpha : Nat)
  /-- SET_STRAPPING (R61): (level, volume) points. -/
  | setStrapping (f : Frame) (tank : Nat) (points : List (Nat × Nat))
  /-- LOCK_CAL (R164). -/
  | lockCal (f : Frame) (code : Nat)
  /-- UNLOCK_CAL (R165). -/
  | unlockCal (f : Frame) (code : Nat)
  /-- WHOLE_SECOND (R190, R191). -/
  | wholeSecond
  deriving DecidableEq, Repr

end Sys2Proof
end

