-- ==== Sys2Proof/Decode.lean ====
section
/-! DEFINITION. Reading commands from bits: the table gives no row any bits, so no word spells a command; a request frame's
bytes are read by R175, R192, R193 and R194. -/

namespace Sys2Proof

/-- The command a table word spells: spec/opcode_table.json gives no row any bits, so no word spells one. -/
def decodeTableWord (_nbits _w : Nat) : Option Instr := none

/-- The request codes (R194). -/
def requestCode : Instr → Option Byte
  | .readEvents .. => some 0x01#8
  | .clearEvents .. => some 0x02#8
  | .setAttention .. => some 0x03#8
  | .readPort .. => some 0x04#8
  | .readLane .. => some 0x05#8
  | .readStock .. => some 0x06#8
  | .readTank .. => some 0x07#8
  | .readAccount .. => some 0x08#8
  | .readAccounts .. => some 0x09#8
  | .setCursor .. => some 0x0A#8
  | .listOrders .. => some 0x0B#8
  | .readDelivery .. => some 0x0C#8
  | .readTrips .. => some 0x0D#8
  | .readTripsSource .. => some 0x0E#8
  | .readCapture .. => some 0x0F#8
  | .readCal .. => some 0x10#8
  | .readRecordStatus .. => some 0x11#8
  | .placeOrder .. => some 0x20#8
  | .cancelOrder .. => some 0x21#8
  | .openLane .. => some 0x28#8
  | .stopLane .. => some 0x29#8
  | .enableLane .. => some 0x2A#8
  | .disableLane .. => some 0x2B#8
  | .setTankReserve .. => some 0x30#8
  | .adjustStock .. => some 0x31#8
  | .ackAlarms .. => some 0x32#8
  | .ackAlarmsAll .. => some 0x33#8
  | .enrolMachine .. => some 0x38#8
  | .retireMachine .. => some 0x39#8
  | .setMachine .. => some 0x3A#8
  | .announceDelivery .. => some 0x40#8
  | .confirmDelivery .. => some 0x41#8
  | .endDelivery .. => some 0x42#8
  | .withdrawDelivery .. => some 0x43#8
  | .releaseDelivery .. => some 0x44#8
  | .collectRecords .. => some 0x48#8
  | .releaseRecords .. => some 0x49#8
  | .rearm .. => some 0x50#8
  | .rearmAll .. => some 0x51#8
  | .manualTrip .. => some 0x52#8
  | .releaseTrips .. => some 0x53#8
  | .releaseCapture .. => some 0x54#8
  | .setLane .. => some 0x58#8
  | .setTank .. => some 0x59#8
  | .setSource .. => some 0x5A#8
  | .setSourceUnit .. => some 0x5B#8
  | .setClass .. => some 0x5C#8
  | .setRecordPolicy .. => some 0x5D#8
  | .setClock .. => some 0x5E#8
  | .setAccess .. => some 0x5F#8
  | .bayRestart .. => some 0x60#8
  | .setMeter .. => some 0x68#8
  | .setProduct .. => some 0x69#8
  | .setStrapping .. => some 0x6A#8
  | .lockCal .. => some 0x6B#8
  | .unlockCal .. => some 0x6C#8
  | _ => none

/-! ## Frames (R175, R193) -/

/-- What a port makes of the characters received from the start byte on (R175). -/
inductive FrameVerdict where
  | incomplete
  | rejected
  | accepted (seq code : Byte) (payload : List Byte)
  deriving DecidableEq, Repr

/-- R175: characters with good stop bits, the start byte first. A length outside 2 to 242 or a CRC mismatch rejects the frame;
a complete frame whose CRC matches is accepted. -/
def charsVerdict (bytes : List Byte) : FrameVerdict :=
  match bytes with
  | 0xC3#8 :: len :: rest =>
    let n := len.toNat
    if n < 2 ∨ 242 < n then .rejected
    else if rest.length < n + 2 then .incomplete
    else
      let body := rest.take n
      if valueOf16 ((rest.drop n).take 2) = Machine.crc16 (len :: body) then
        match body with
        | seq :: code :: payload => .accepted seq code payload
        | _ => .rejected
      else .rejected
  | _ => .incomplete
where
  /-- The check value, high byte first (R193). -/
  valueOf16 (bs : List Byte) : BitVec 16 := BitVec.ofNat 16 (Machine.valueOf bs)

/-- What one character makes of a port's buffer (R175): the character discarded or the frame rejected, in either case with an
empty buffer left; the buffer of a frame that goes on; or a frame accepted. -/
inductive Received where
  | discarded
  | rejected
  | receiving (buffer : List Byte)
  | accepted
  deriving DecidableEq, Repr

/-- R175, one character: in HUNTING, where the buffer is empty, all but a start byte with its stop bit high is discarded; in
RECEIVING a low stop bit rejects the frame, and any other character is appended and the frame judged. -/
def receiveChar (buffer : List Byte) (byte : Byte) (stopLow : Bool) : Received :=
  match buffer with
  | [] => if !stopLow && decide (byte = 0xC3#8) then .receiving [byte] else .discarded
  | _ :: _ =>
    if stopLow then .rejected
    else
      match charsVerdict (buffer ++ [byte]) with
      | .incomplete => .receiving (buffer ++ [byte])
      | .rejected => .rejected
      | .accepted .. => .accepted

/-- R175, characters one after another, the last perhaps with its stop bit low: the buffer they leave, empty in HUNTING, and
how many frames they reject. None where a frame is accepted on the way: that frame is a command of its own (log 23). -/
def receiveChars (buffer : List Byte) (bytes : List Byte) (stopLow : Bool) : Option (List Byte × Nat) :=
  match bytes with
  | [] => some (buffer, 0)
  | b :: rest =>
    match receiveChar buffer b (stopLow && rest.isEmpty) with
    | .discarded => receiveChars [] rest stopLow
    | .rejected => (receiveChars [] rest stopLow).map (fun r => (r.1, r.2 + 1))
    | .receiving buffer' => receiveChars buffer' rest stopLow
    | .accepted => none

/-! ## Payloads (R192, R194) -/

/-- A payload cut into fields of the given widths; none if its length is not their sum. -/
def fieldsOf : List Nat → List Byte → Option (List Nat)
  | [], [] => some []
  | [], _ :: _ => none
  | w :: ws, bs =>
    if bs.length < w then none
    else
      match fieldsOf ws (bs.drop w) with
      | some vs => some (Machine.valueOf (bs.take w) :: vs)
      | none => none

/-- An optional field of w bytes is absent when every bit is 1 (R192). -/
def optField (w v : Nat) : Option Nat := if v = 256 ^ w - 1 then none else some v

/-- A two-byte signed field (R192). -/
def signed16 (v : Nat) : Int := if v < 32768 then (v : Int) else (v : Int) - 65536

/-- A list of service items: n items of tank 1, interval 2, minimum 3, hours 3 bytes (R194). -/
def itemsFrom : Nat → List Byte → Option (List ItemSetting)
  | 0, [] => some []
  | 0, _ :: _ => none
  | n + 1, bs =>
    match fieldsOf [1, 2, 3, 3] (bs.take 9), itemsFrom n (bs.drop 9) with
    | some [t, i, m, h], some rest => some ({ tank := t, interval := i, minimum := m, base := optField 3 h } :: rest)
    | _, _ => none

/-- A list of strapping points: n points of level 3 and volume 4 bytes (R194). -/
def pointsFrom : Nat → List Byte → Option (List (Nat × Nat))
  | 0, [] => some []
  | 0, _ :: _ => none
  | n + 1, bs =>
    match fieldsOf [3, 4] (bs.take 7), pointsFrom n (bs.drop 7) with
    | some [l, v], some rest => some ((l, v) :: rest)
    | _, _ => none

/-- A count byte and that many service items. -/
def itemList : List Byte → Option (List ItemSetting)
  | n :: rest => itemsFrom n.toNat rest
  | [] => none

/-- A count byte and that many strapping points. -/
def pointList : List Byte → Option (List (Nat × Nat))
  | n :: rest => pointsFrom n.toNat rest
  | [] => none

/-- A request with a machine's values: the fields of the widths ws, then a list of service items. -/
def withItems (ws : List Nat) (payload : List Byte) : Option (List Nat × List ItemSetting) :=
  match fieldsOf ws (payload.take ws.sum), itemList (payload.drop ws.sum) with
  | some vs, some is => some (vs, is)
  | _, _ => none

/-- The request of a code and a payload, none where R177 answers BAD_REQUEST. straps are the rate straps a BAY_RESTART
reads. -/
def decodeRequest (straps : BitVec 2) (f : Frame) (code : Byte) (p : List Byte) : Option Instr :=
  match code.toNat with
  | 0x01 => match fieldsOf [] p with | some [] => some (.readEvents f) | _ => none
  | 0x02 => match fieldsOf [2] p with | some [s] => some (.clearEvents f (BitVec.ofNat 16 s)) | _ => none
  | 0x03 => match fieldsOf [2, 1, 1] p with | some [m, d, w] => some (.setAttention f (BitVec.ofNat 16 m) d w) | _ => none
  | 0x04 => match fieldsOf [] p with | some [] => some (.readPort f) | _ => none
  | 0x05 => match fieldsOf [1] p with | some [l] => some (.readLane f l) | _ => none
  | 0x06 => match fieldsOf [] p with | some [] => some (.readStock f) | _ => none
  | 0x07 => match fieldsOf [1] p with | some [t] => some (.readTank f t) | _ => none
  | 0x08 => match fieldsOf [6] p with | some [g] => some (.readAccount f (BitVec.ofNat 48 g)) | _ => none
  | 0x09 => match fieldsOf [1, 1] p with | some [d, c] => some (.readAccounts f d c) | _ => none
  | 0x0A => match fieldsOf [1] p with | some [i] => some (.setCursor f i) | _ => none
  | 0x0B => match fieldsOf [] p with | some [] => some (.listOrders f) | _ => none
  | 0x0C => match fieldsOf [2] p with | some [n] => some (.readDelivery f n) | _ => none
  | 0x0D => match fieldsOf [1] p with | some [c] => some (.readTrips f c) | _ => none
  | 0x0E => match fieldsOf [1] p with | some [i] => some (.readTripsSource f i) | _ => none
  | 0x0F => match fieldsOf [1] p with | some [i] => some (.readCapture f i) | _ => none
  | 0x10 => match fieldsOf [] p with | some [] => some (.readCal f) | _ => none
  | 0x11 => match fieldsOf [1] p with | some [c] => some (.readRecordStatus f c) | _ => none
  | 0x20 =>
    match fieldsOf [6, 1, 3, 1, 3] p with
    | some [g, t, v, pr, e] => some (.placeOrder f (BitVec.ofNat 48 g) t v pr e)
    | _ => none
  | 0x21 => match fieldsOf [2] p with | some [n] => some (.cancelOrder f n) | _ => none
  | 0x28 =>
    match fieldsOf [1, 6, 2, 3, 3, 1] p with
    | some [l, g, o, pr, h, ov] => some (.openLane f l (BitVec.ofNat 48 g) o (optField 3 pr) (optField 3 h) ov)
    | _ => none
  | 0x29 => match fieldsOf [1] p with | some [l] => some (.stopLane f l) | _ => none
  | 0x2A => match fieldsOf [1] p with | some [l] => some (.enableLane f l) | _ => none
  | 0x2B => match fieldsOf [1] p with | some [l] => some (.disableLane f l) | _ => none
  | 0x30 => match fieldsOf [1, 4] p with | some [t, r] => some (.setTankReserve f t r) | _ => none
  | 0x31 => match fieldsOf [1, 4, 1] p with | some [t, b, c] => some (.adjustStock f t b c) | _ => none
  | 0x32 => match fieldsOf [1] p with | some [t] => some (.ackAlarms f t) | _ => none
  | 0x33 => match fieldsOf [] p with | some [] => some (.ackAlarmsAll f) | _ => none
  | 0x38 =>
    match withItems [6, 1, 1, 3] p with
    | some ([g, c, pm, cap], is) => some (.enrolMachine f (BitVec.ofNat 48 g) c (BitVec.ofNat 8 pm) cap is)
    | _ => none
  | 0x39 => match fieldsOf [6] p with | some [g] => some (.retireMachine f (BitVec.ofNat 48 g)) | _ => none
  | 0x3A =>
    match withItems [6, 1, 1, 1, 3] p with
    | some ([g, c, st, pm, cap], is) => some (.setMachine f (BitVec.ofNat 48 g) c st (BitVec.ofNat 8 pm) cap is)
    | _ => none
  | 0x40 => match fieldsOf [1, 8, 4] p with | some [t, i, d] => some (.announceDelivery f t (BitVec.ofNat 64 i) d) | _ => none
  | 0x41 =>
    match fieldsOf [2, 2, 3, 3] p with
    | some [n, s, a, b] => some (.confirmDelivery f n (optField 2 s) (optField 3 a) (optField 3 b))
    | _ => none
  | 0x42 => match fieldsOf [2] p with | some [n] => some (.endDelivery f n) | _ => none
  | 0x43 => match fieldsOf [2] p with | some [n] => some (.withdrawDelivery f n) | _ => none
  | 0x44 => match fieldsOf [2] p with | some [n] => some (.releaseDelivery f n) | _ => none
  | 0x48 => match fieldsOf [1] p with | some [c] => some (.collectRecords f c) | _ => none
  | 0x49 => match fieldsOf [4] p with | some [n] => some (.releaseRecords f n) | _ => none
  | 0x50 => match fieldsOf [1] p with | some [i] => some (.rearm f i) | _ => none
  | 0x51 => match fieldsOf [] p with | some [] => some (.rearmAll f) | _ => none
  | 0x52 => match fieldsOf [] p with | some [] => some (.manualTrip f) | _ => none
  | 0x53 => match fieldsOf [4] p with | some [n] => some (.releaseTrips f n) | _ => none
  | 0x54 => match fieldsOf [] p with | some [] => some (.releaseCapture f) | _ => none
  | 0x58 =>
    match fieldsOf [1, 1, 3, 3, 2, 1, 1, 2, 1, 2, 3] p with
    | some [l, t, ss, sd, au, nf, se, ov, mi, rv, cr] =>
      some (.setLane f l
        { tank := t, slowStart := ss, slowdown := sd, authTime := au, noFlowTime := nf, settleTime := se, overrunLimit := ov,
          miscountLimit := mi, reverseLimit := rv, creepLimit := cr })
    | _ => none
  | 0x59 =>
    match fieldsOf [1, 1, 4, 1, 3, 3, 3, 3, 1, 3, 3, 2] p with
    | some [t, c, cap, g, ll, lo, hi, hh, zd, mf, lim, win] =>
      some (.setTank f t
        { cls := c, capacity := cap, gaugeFitted := g, lowLow := ll, low := lo, high := hi, highHigh := hh, zoneDebounce := zd,
          minFill := mf, lossLimit := lim, lossWindow := win })
    | _ => none
  | 0x5A =>
    match fieldsOf [1, 1, 1, 2, 1, 1, 1] p with
    | some [i, en, de, hl, ls, ins, cl] =>
      some (.setSource f i
        { enable := en, debounce := de, hoseLimit := hl, lanes := BitVec.ofNat 8 ls, inlets := BitVec.ofNat 8 ins,
          clearCount := cl })
    | _ => none
  | 0x5B => match fieldsOf [1] p with | some [m] => some (.setSourceUnit f m) | _ => none
  | 0x5C => match fieldsOf [1, 1, 3] p with | some [c, h, b] => some (.setClass f c h b) | _ => none
  | 0x5D => match fieldsOf [1, 1] p with | some [po, th] => some (.setRecordPolicy f po th) | _ => none
  | 0x5E => match fieldsOf [4] p with | some [v] => some (.setClock f v) | _ => none
  | 0x5F =>
    match fieldsOf [1, 1, 1, 4, 4, 4, 1] p with
    | some [ld, lc, lr, dd, dc, dr, op] =>
      some (.setAccess f
        { dispatchLevel := ld, consoleLevel := lc, receiptLevel := lr, dispatchDenial := BitVec.ofNat 32 dd,
          consoleDenial := BitVec.ofNat 32 dc, receiptDenial := BitVec.ofNat 32 dr, openLevel := op })
    | _ => none
  | 0x60 => match fieldsOf [] p with | some [] => some (.bayRestart f straps) | _ => none
  | 0x68 =>
    match fieldsOf [1, 3, 2, 2, 2, 2, 2, 2, 2, 2] p with
    | some [l, kx, b1, b2, b3, c0, c1, c2, c3, epr] =>
      some (.setMeter f l
        { kx := kx, b1 := b1, b2 := b2, b3 := b3, c0 := signed16 c0, c1 := signed16 c1, c2 := signed16 c2, c3 := signed16 c3,
          epr := epr })
    | _ => none
  | 0x69 => match fieldsOf [1, 2] p with | some [t, a] => some (.setProduct f t a) | _ => none
  | 0x6A =>
    match p with
    | t :: rest => match pointList rest with | some ps => some (.setStrapping f t.toNat ps) | none => none
    | [] => none
  | 0x6B => match fieldsOf [4] p with | some [c] => some (.lockCal f c) | _ => none
  | 0x6C => match fieldsOf [4] p with | some [c] => some (.unlockCal f c) | _ => none
  | _ => none

/-- Whether R177's step 1 passes a code and payload: the code is known and the payload length is one it allows. -/
def requestKnown (f : Frame) (code : Byte) (p : List Byte) : Bool := (decodeRequest 0#2 f code p).isSome

/-- The command that characters from a start byte on stand for at a port in HUNTING: an accepted request, an unknown one, or
the characters of a frame that is rejected or not finished (R175, R177). -/
def decodeFrame (straps : BitVec 2) (port : PortId) (bytes : List Byte) (stopLow : Bool) : Instr :=
  match if stopLow then .incomplete else charsVerdict bytes with
  | .incomplete => .frameRejected port bytes stopLow
  | .rejected => .frameRejected port bytes stopLow
  | .accepted seq code payload =>
    match decodeRequest straps ⟨port, seq⟩ code payload with
    | some i => i
    | none => .unknownRequest ⟨port, seq⟩ code payload

end Sys2Proof
end

