-- ==== Sys2Proof/Config.lean ====
section
/-! DEFINITION. The constants of the spec that no command changes: lengths, limits and counts. -/

namespace Sys2Proof.Config

/-- Largest net volume of a book, reserve, shortage or saturating sum, 2,000,000,000 cL (R62). -/
def maxVolume : Nat := 2000000000

/-- Largest preset, order volume, service minimum and fuel capacity, 2,000,000 cL (R33, R93, R114). -/
def maxPreset : Nat := 2000000

/-- The limit of A and N_micro, 9,223,372,036,854,775,807 (R13, R15). -/
def maxAccumulator : Int := 9223372036854775807

/-- The totalizer's modulus, 10^11 cL (R19). -/
def totalizerModulus : Nat := 100000000000

/-- The largest count of a 32-bit value, 4,294,967,295 (R131, R155, R190, R191). -/
def max32 : Nat := 4294967295

/-- The largest account total, 99,999,999,999 cL (R93). -/
def maxTotal : Nat := 99999999999

/-- The largest engine-hours reading, 9,999,999 tenths (R93, R101). -/
def maxHours : Nat := 9999999

/-- The pump-start timeout, 10 s (R68). -/
def pumpTimeout : Nat := 10

/-- The announcement timer, 1,800 s (R80). -/
def announcementTime : Nat := 1800

/-- The period of the capture's sample timer and of the timer of a tank with no gauge, 1 s (R144, R157). -/
def samplePeriod : Nat := 1

/-- Invalid samples that make a gauge STALE, and samples waited that abandon a delivery (R58, R87). -/
def staleCount : Nat := 10

/-- Own samples a blanking holds (R149). -/
def blankingCount : Nat := 4

/-- Slots of the record queue (R126). -/
def recordSlots : Nat := 64

/-- Places of the delivery list (R78). -/
def deliveryPlaces : Nat := 8

/-- Places of the order list (R114). -/
def orderPlaces : Nat := 16

/-- Places of the trip list (R155). -/
def tripPlaces : Nat := 16

/-- The reference temperature 15.0 degrees as T10 (00_scope.md; R14). -/
def referenceT10 : Int := 150

end Sys2Proof.Config
end

