-- ==== Sys2Proof/Machine/Parts.lean ====
section
/-! DEFINITION. The plain data of each block of the device: what its chapter says it owns. -/

namespace Sys2Proof.Machine

/-! ## Events, statuses, classes -/

/-- The 11 event kinds (R185, in the order of R195). -/
inductive EventKind where
  | records
  | laneEnd
  | laneFault
  | order
  | tankAlarm
  | trip
  | delivery
  | account
  | counter
  | started
  | cal
  deriving DecidableEq, Repr

/-- A set of event kinds in the two-byte form of R195. -/
abbrev EventSet := BitVec 16

/-- The 21 statuses (R178, codes in R193). -/
inductive Status where
  | ok
  | clamped
  | starting
  | denied
  | badRequest
  | range
  | wrongState
  | disabled
  | notFound
  | alreadyExists
  | full
  | noStock
  | tankLow
  | gauge
  | tooLate
  | locked
  | tripped
  | stillActive
  | hours
  | accountHeld
  | notPermitted
  deriving DecidableEq, Repr

/-- The ten request classes (R180). -/
inductive RequestClass where
  | read
  | order
  | lane
  | stock
  | account
  | delivery
  | records
  | safety
  | config
  | cal
  deriving DecidableEq, Repr

/-- A debounced input: its level, the sample before, and whether two samples of this run
have agreed yet (R30, R68). -/
structure Debounced where
  level : Bool
  last : Option Bool
  settled : Bool
  deriving DecidableEq, Repr

/-- A timer: the whole seconds left while it runs, none while it is stopped (log 3). -/
abbrev Timer := Option Nat

/-! ## Meter unit (Chapter 1) -/

/-- The calibration parameters of a lane's meter (R23). -/
abbrev MeterParams := MeterSetting

/-- The meter flags of a transaction (R16). -/
structure MeterFlags where
  miscountSeen : Bool
  overrange : Bool
  reverseSeen : Bool
  tempAssumed : Bool
  deriving DecidableEq, Repr

/-- A meter unit (R1). -/
structure Meter where
  params : MeterParams
  refA : Bool
  refB : Bool
  sampleAcc : Int
  edgeSeen : Bool
  missSeen : Bool
  ivCount : Int
  ivFwd : Bool
  ivRev : Bool
  ivExists : Bool
  consec : Nat
  rate : Nat
  band : Nat
  accA : Int
  gross : Int
  accN : Int
  net : Int
  revSum : Nat
  txnMiscounts : Nat
  lastT10 : Int
  flags : MeterFlags
  revGiven : Bool
  creepAcc : Int
  creepGross : Int
  creepCond : Bool
  creepTotal : Int
  totalizer : Nat
  deriving DecidableEq, Repr

/-! ## Lane controller (Chapter 2) -/

/-- Lane states, in the order of R196. -/
inductive LaneState where
  | disabled
  | idle
  | authorized
  | starting
  | delivering
  | settling
  deriving DecidableEq, Repr

/-- Valve stages (R28, R40). An absent stage at end is the NONE of R132. -/
inductive Stage where
  | lowStart
  | high
  | lowEnd
  deriving DecidableEq, Repr

/-- End reasons, in the order of R133. -/
inductive EndReason where
  | preset
  | full
  | noFlow
  | stopped
  | hook
  | expired
  | spill
  | tankLow
  | pumpLost
  | faultReverse
  | faultMeter
  | faultOverrun
  | powerLost
  deriving DecidableEq, Repr

/-- Lane faults (R48, R49). -/
inductive LaneFault where
  | reverse
  | meter
  | overrun
  deriving DecidableEq, Repr

/-- The set of held fault causes (R49). -/
structure HeldCauses where
  reverse : Bool
  meter : Bool
  overrun : Bool
  deriving DecidableEq, Repr

/-- The four event counters of a lane (R51). -/
structure LaneCounters where
  miscount : Nat
  reverse : Nat
  overrun : Nat
  trimmed : Nat
  deriving DecidableEq, Repr

/-- The lane configuration (R31). -/
structure LaneConfig where
  tank : Tank
  slowStart : Nat
  slowdown : Nat
  authTime : Nat
  noFlowTime : Nat
  settleTime : Nat
  overrunLimit : Nat
  miscountLimit : Nat
  reverseLimit : Nat
  creepLimit : Nat
  deriving DecidableEq, Repr

/-- The transaction flags a context holds (R34, R44, R134). -/
structure CtxFlags where
  clampedPreset : Bool
  hoursOverridden : Bool
  noHours : Bool
  priority : Bool
  clockUnset : Bool
  trimmed : Bool
  deriving DecidableEq, Repr

/-- The meter figures last written into a context (R17). -/
structure CtxFigures where
  gross : Int
  net : Int
  revSum : Nat
  miscounts : Nat
  lastT10 : Int
  flags : MeterFlags
  deriving DecidableEq, Repr

/-- An open transaction's context (R34, R53). faultTaken and overrunTaken are the marks R47 and R51 ask for. -/
structure Context where
  tag : Tag
  order : Nat
  preset : Nat
  effPreset : Int
  hours : Option Nat
  startTime : Nat
  flags : CtxFlags
  endReason : Option EndReason
  stageAtEnd : Option Stage
  figures : CtxFigures
  faultTaken : Bool
  overrunTaken : Bool
  deriving DecidableEq, Repr

/-- A lane: its meter unit and its lane controller (R28). -/
structure LaneUnit where
  meter : Meter
  state : LaneState
  stage : Option Stage
  pendingDisable : Bool
  held : HeldCauses
  counters : LaneCounters
  authTimer : Timer
  noFlowTimer : Timer
  settleTimer : Timer
  settleCap : Timer
  vlo : Bool
  vhi : Bool
  hook : Debounced
  ctx : Option Context
  cfg : LaneConfig
  deriving DecidableEq, Repr

/-! ## Tank stock unit (Chapter 3) -/

/-- Product classes, in the order of R55. -/
inductive ProductClass where
  | fuel
  | lube
  | coolant
  deriving DecidableEq, Repr

/-- The tank configuration (R55). -/
structure TankConfig where
  cls : ProductClass
  capacity : Nat
  gaugeFitted : Bool
  lowLow : Nat
  low : Nat
  high : Nat
  highHigh : Nat
  zoneDebounce : Nat
  minFill : Nat
  lossLimit : Nat
  lossWindow : Nat
  deriving DecidableEq, Repr

/-- An entry of a draw list (R64). -/
structure Draw where
  lane : Lane
  alloc : Int
  remaining : Nat
  deriving DecidableEq, Repr

/-- Pump states (R68). -/
inductive PumpState where
  | stopped
  | starting
  | running
  deriving DecidableEq, Repr

/-- Level zones, in the order of R196 (R70). -/
inductive Zone where
  | lowLow
  | low
  | normal
  | high
  | highHigh
  deriving DecidableEq, Repr

/-- The run counts of the four zones (R70). -/
structure ZoneRuns where
  lowLow : Nat
  low : Nat
  high : Nat
  highHigh : Nat
  deriving DecidableEq, Repr

/-- The four latched alarm flags (R73). -/
structure Alarms where
  lowLow : Bool
  low : Bool
  high : Bool
  highHigh : Bool
  deriving DecidableEq, Repr

/-- A loss window: start uptime, G0, B0 (R74). -/
structure LossWindow where
  start : Nat
  g0 : Nat
  b0 : Nat
  deriving DecidableEq, Repr

/-- A tank: the tank stock unit's state for it (R54), and the delivery unit's count and inlet for it (R83, R84). -/
structure TankUnit where
  cfg : TankConfig
  points : List (Nat × Nat)
  alpha : Nat
  book : Nat
  reserve : Nat
  shortage : Nat
  level : Option Nat
  t10 : Option Int
  invalid : Nat
  gaugeValid : Bool
  gaugedNet : Option Nat
  overTable : Bool
  draws : List Draw
  pump : PumpState
  pumpRun : Bool
  pumpTimer : Timer
  rdy : Debounced
  runs : ZoneRuns
  rawZone : Zone
  zone : Zone
  alarms : Alarms
  window : Option LossWindow
  lossCond : Bool
  lastLoss : Option Int
  lossHanded : Bool
  overfillHanded : Bool
  noGaugeTimer : Timer
  drawnSince : Int
  inlet : Bool
  deriving DecidableEq, Repr

/-- The output leads of the gauge bus (R57): the select lines, the poll byte last clocked out on SDO, and the levels of SCK
and SDO between polls (log 33). -/
structure GaugeBus where
  sel : BitVec 3
  poll : Option Byte
  sck : Bool
  sdo : Bool
  deriving DecidableEq, Repr

/-! ## Delivery unit (Chapter 4) -/

/-- Delivery states, in the order of R78. -/
inductive DeliveryState where
  | announced
  | filling
  | settling
  | complete
  | disputed
  | withdrawn
  | abandoned
  deriving DecidableEq, Repr

/-- Delivery flags, in the order of R78. -/
structure DeliveryFlags where
  interrupted : Bool
  negative : Bool
  expired : Bool
  staleEnd : Bool
  startUp : Bool
  overTable : Bool
  bookSaturated : Bool
  clockUnset : Bool
  deriving DecidableEq, Repr

/-- The fields an entry holds from its confirmation (R78, R82). -/
structure Confirmation where
  settle : Nat
  fixedTol : Nat
  propTol : Nat
  opening : Nat
  dispensed : Int
  confirmTime : Nat
  deriving DecidableEq, Repr

/-- A delivery entry (R78). timer is its announcement or settle timer; waited counts samples once the settle timer has
expired. -/
structure DeliveryEntry where
  number : Nat
  tank : Tank
  identity : BitVec 64
  docket : Nat
  state : DeliveryState
  flags : DeliveryFlags
  conf : Option Confirmation
  closing : Option Nat
  received : Option Int
  variance : Option Int
  announceTime : Nat
  endTime : Option Nat
  completeTime : Option Nat
  timer : Timer
  waited : Option Nat
  deriving DecidableEq, Repr

/-- The delivery unit: its list, oldest first, and the next number (R78, R79). -/
structure DeliveryUnit where
  entries : List DeliveryEntry
  next : Nat
  deriving DecidableEq, Repr

/-! ## Account table (Chapter 5) -/

/-- Machine classes, in the order of R93. -/
inductive MachineClass where
  | haul
  | loader
  | dozer
  | grader
  | service
  | light
  deriving DecidableEq, Repr

/-- A service item of an account (R93). -/
structure ServiceItem where
  tank : Tank
  interval : Nat
  minimum : Nat
  base : Option Nat
  due : Bool
  deriving DecidableEq, Repr

/-- An account entry (R93). -/
structure Account where
  tag : Tag
  cls : MachineClass
  suspended : Bool
  permits : TankSet
  capacity : Nat
  hoursLast : Option Nat
  lastFill : Option Nat
  fuelTotal : Nat
  lubeTotal : Nat
  fills : Nat
  burnRate : Option Nat
  burnHigh : Bool
  items : List ServiceItem
  deriving DecidableEq, Repr

/-- A class table entry (R100). -/
structure ClassEntry where
  hoursRequired : Bool
  ceiling : Nat
  deriving DecidableEq, Repr

/-- The class table (R100). -/
structure ClassTable where
  haul : ClassEntry
  loader : ClassEntry
  dozer : ClassEntry
  grader : ClassEntry
  service : ClassEntry
  light : ClassEntry
  deriving DecidableEq, Repr

/-- The account table: the occupied slots in slot order, each with its slot index (R93), and the class table. -/
structure AccountTable where
  slots : List (Nat × Account)
  classes : ClassTable
  deriving DecidableEq, Repr

/-! ## Order list (Chapter 6) -/

/-- A fill order (R114). A bound lane is the CLAIMED state, none is PENDING. -/
structure Order where
  number : Nat
  tag : Tag
  tank : Tank
  volume : Nat
  priority : Bool
  placedAt : Nat
  expiry : Nat
  claimedBy : Option Lane
  deriving DecidableEq, Repr

/-- The order list, oldest first, and the next number (R114, R115). -/
structure OrderList where
  orders : List Order
  next : Nat
  deriving DecidableEq, Repr

/-! ## Record queue (Chapter 7) -/

/-- The flags of a record, in the order of R134. -/
structure RecordFlags where
  clampedPreset : Bool
  hoursOverridden : Bool
  noHours : Bool
  tempAssumed : Bool
  reverseSeen : Bool
  miscountSeen : Bool
  overrange : Bool
  trimmed : Bool
  service : Bool
  priority : Bool
  clockUnset : Bool
  deriving DecidableEq, Repr

/-- A completed transaction record (R132). -/
structure Record where
  number : Nat
  lane : Lane
  tank : Tank
  endReason : EndReason
  flags : RecordFlags
  order : Nat
  tag : Tag
  startTime : Nat
  endTime : Nat
  hours : Option Nat
  preset : Int
  gross : Int
  net : Int
  overrun : Nat
  lastT10 : Int
  totalizer : Nat
  calChanges : Nat
  miscounts : Nat
  stageAtEnd : Option Stage
  deriving DecidableEq, Repr

/-- What OPEN_LANE does on a full queue (R126). -/
inductive RecordPolicy where
  | hold
  | overwrite
  deriving DecidableEq, Repr

/-- The record queue: completed records oldest first, and the lanes that hold a reservation (R126). -/
structure RecordQueue where
  completed : List Record
  reserved : LaneSet
  policy : RecordPolicy
  threshold : Nat
  next : Nat
  dropped : Nat
  deriving DecidableEq, Repr

/-! ## Spill shutdown unit (Chapter 8) -/

/-- A spill source (R143). -/
structure Source where
  isTripped : Bool
  enabled : Bool
  debounce : Nat
  hoseLimit : Nat
  lanes : LaneSet
  inlets : TankSet
  tripCount : Nat
  run : Nat
  blanking : Nat
  creepTaken : Bool
  lastCond : Bool
  deriving DecidableEq, Repr

/-- The thirty sources (R142). -/
structure Sources where
  sump0 : Source
  sump1 : Source
  sump2 : Source
  sump3 : Source
  estop : Source
  hose : Eight Source
  overfill : Eight Source
  loss : Eight Source
  manual : Source
  deriving DecidableEq, Repr

/-- A trip entry (R155). -/
structure TripEntry where
  number : Nat
  source : SourceId
  time : Nat
  clockUnset : Bool
  lanesEnded : LaneSet
  inletsClosed : TankSet
  captured : Bool
  deriving DecidableEq, Repr

/-- A post-trip sample (R157). -/
structure PostSample where
  levels : Eight (Option Nat)
  rateSum : Nat
  deriving DecidableEq, Repr

/-- A capture (R157). -/
structure CaptureData where
  tripNumber : Nat
  m : Nat
  rates : Eight Nat
  states : Eight LaneState
  levels : Eight (Option Nat)
  samples : List PostSample
  deriving DecidableEq, Repr

/-- The capture buffer (R157). -/
inductive Capture where
  | empty
  | filling (c : CaptureData)
  | full (c : CaptureData)
  deriving DecidableEq, Repr

/-- The spill shutdown unit (R143, R155), with the capture and its 1 s sample timer, which runs while it is FILLING (R157). -/
structure SpillUnit where
  sources : Sources
  trips : List TripEntry
  tripsDropped : Nat
  nextTrip : Nat
  captureCount : Nat
  capture : Capture
  captureTimer : Timer
  deriving DecidableEq, Repr

/-! ## Calibration lock (Chapter 9) -/

/-- The lock state; the code is present only while LOCKED (R163). -/
inductive LockState where
  | unlocked
  | locked (code : Nat)
  | permanent
  deriving DecidableEq, Repr

/-- The calibration lock (R163). -/
structure CalLock where
  lock : LockState
  failed : Nat
  changes : Nat
  deriving DecidableEq, Repr

/-! ## Time and device (Chapters 9 and 10) -/

/-- Bay clock, its set flag, and uptime (R190, R191). -/
structure BayTime where
  clock : Nat
  isSet : Bool
  uptime : Nat
  deriving DecidableEq, Repr

/-- What the device is doing: held in reset or without power, RESTORING, or RUNNING (R171, R197). -/
inductive Phase where
  | held
  | restoring
  | running
  deriving DecidableEq, Repr

/-- The device's own state (R170, R171, R174, R197). -/
structure Device where
  phase : Phase
  powered : Bool
  resetHeld : Bool
  formatMarker : Bool
  lineRate : BitVec 2
  deriving DecidableEq, Repr

/-! ## Replies (R178) -/

/-- What READ_LANE says of an open transaction (R52). -/
structure TxnReport where
  tag : Tag
  order : Nat
  preset : Nat
  effPreset : Int
  hours : Option Nat
  startTime : Nat
  flags : CtxFlags
  endReason : Option EndReason
  stageAtEnd : Option Stage
  deriving DecidableEq, Repr

/-- The meter figures of R27. -/
structure MeterReport where
  totalizer : Nat
  rate : Nat
  band : Nat
  consec : Nat
  creepGross : Int
  creepCond : Bool
  creepTotal : Int
  gross : Int
  net : Int
  revSum : Nat
  txnMiscounts : Nat
  lastT10 : Int
  flags : MeterFlags
  deriving DecidableEq, Repr

/-- The reply to READ_LANE (R52). -/
structure LaneReport where
  state : LaneState
  stage : Option Stage
  hook : Bool
  vlo : Bool
  vhi : Bool
  pendingDisable : Bool
  held : HeldCauses
  counters : LaneCounters
  blocked : Bool
  cfg : LaneConfig
  meter : MeterReport
  txn : Option TxnReport
  deriving DecidableEq, Repr

/-- A tank summary (R76). -/
structure TankSummary where
  book : Nat
  allocated : Nat
  available : Nat
  gaugedNet : Option Nat
  level : Option Nat
  t10 : Option Int
  gaugeValid : Bool
  zone : Zone
  alarms : Alarms
  activeDelivery : Bool
  shortage : Nat
  deriving DecidableEq, Repr

/-- The reply to READ_TANK (R77). -/
structure TankReport where
  summary : TankSummary
  cfg : TankConfig
  reserve : Nat
  alpha : Nat
  points : List (Nat × Nat)
  overTable : Bool
  invalid : Nat
  rawZone : Zone
  runs : ZoneRuns
  draws : List Draw
  pump : PumpState
  pumpRun : Bool
  rdy : Bool
  pumpTimer : Timer
  watchRuns : Bool
  window : Option LossWindow
  lastLoss : Option Int
  lossHanded : Bool
  overfillHanded : Bool
  deriving DecidableEq, Repr

/-- The reply to READ_PORT (R179). lineRate is the rate in baud (R174). -/
structure PortReport where
  port : PortId
  lineRate : Nat
  gapCount : Nat
  crcCount : Nat
  overlapCount : Nat
  dispatchLevel : Nat
  consoleLevel : Nat
  receiptLevel : Nat
  openLevel : Nat
  deniedClasses : BitVec 10
  deniedLanes : LaneSet
  deniedTanks : TankSet
  pendingSet : EventSet
  mask : EventSet
  mode : Nat
  width : Nat
  cursor : Nat
  clock : Nat
  clockSet : Bool
  uptime : Nat
  deriving DecidableEq, Repr

/-- The reply to READ_TRIPS, list form (R160). -/
structure TripsReport where
  trips : List TripEntry
  dropped : Nat
  next : Nat
  trippedSources : List SourceId
  blockedLanes : LaneSet
  blockedInlets : TankSet
  deriving DecidableEq, Repr

/-- A source as READ_TRIPS returns it (R160): the hose limit and the creep-taken mark are present for a HOSE source, and the
debounce count for every source but MANUAL, which has none (R143). -/
structure SourceReport where
  id : SourceId
  isTripped : Bool
  enabled : Bool
  debounce : Option Nat
  hoseLimit : Option Nat
  lanes : LaneSet
  inlets : TankSet
  tripCount : Nat
  run : Nat
  blanking : Nat
  lastCond : Bool
  debounced : Bool
  creepTaken : Option Bool
  deriving DecidableEq, Repr

/-- A source's values and state as SET_SOURCE returns them (R152): the debounce count and the hose limit of a source that has
them (R143). -/
structure SourceValues where
  enabled : Bool
  debounce : Option Nat
  hoseLimit : Option Nat
  lanes : LaneSet
  inlets : TankSet
  isTripped : Bool
  deriving DecidableEq, Repr

/-- The reply to READ_RECORD_STATUS (R140). -/
structure RecordStatusReport where
  policy : RecordPolicy
  threshold : Nat
  completed : Nat
  reservations : Nat
  free : Nat
  reserved : LaneSet
  oldest : Option Nat
  newest : Option Nat
  next : Nat
  dropped : Nat
  droppedFlag : Bool
  deriving DecidableEq, Repr

/-- The reply to READ_CAL (R168): it never carries the lock code. -/
structure CalReport where
  lockKind : Nat
  codeStored : Bool
  failed : Nat
  barred : Bool
  changes : Nat
  meters : Eight MeterParams
  alphas : Eight Nat
  deriving DecidableEq, Repr

/-- An order as LIST_ORDERS gives it (R122): the order, its machine's slot, and the time left to its deadline. -/
structure OrderReport where
  order : Order
  slot : Option Nat
  timeLeft : Option Nat
  deriving DecidableEq, Repr

/-- The payloads of replies: for each request, what its rule says the reply carries (R178). -/
inductive Payload where
  | nothing
  | events (pendingSet mask : EventSet) (mode : Nat)
  | eventsLeft (pendingSet : EventSet)
  | attention (mask : EventSet) (mode width : Nat)
  | port (r : PortReport)
  | lane (r : LaneReport)
  | stock (r : Eight TankSummary)
  | tank (r : TankReport)
  | account (slot : Nat) (a : Account) (cls : ClassEntry) (lanes : List Lane)
  | accounts (entries : List (Nat × Account)) (last : Bool)
  | orders (list : List OrderReport) (next uptime : Nat)
  | delivery (e : DeliveryEntry)
  | deliveries (list : List (Nat × Tank × DeliveryState)) (next : Nat)
  | trips (r : TripsReport)
  | source (r : SourceReport)
  | sourceSet (r : SourceValues)
  | capture (c : Capture) (samples : List PostSample)
  | cal (r : CalReport)
  | recordStatus (r : RecordStatusReport)
  | placed (number placedAt : Nat) (deadline : Option Nat)
  | opened (preset : Nat) (tank : Tank) (order : Nat) (flags : CtxFlags)
  | reserve (value : Nat)
  | stockSet (book shortage allocated : Nat)
  | alarms (list : List (Tank × Alarms))
  | slot (index : Nat)
  | announced (number : Nat)
  | confirmed (opening settle fixedTol propTol : Nat)
  | collected (records : List Record) (completed : Nat)
  | released (removed completed : Nat)
  | remaining (sources : List SourceId)
  | manual (didTrip : Bool) (number : Option Nat)
  | tripsReleased (removed : Nat)
  | captureCount (m : Nat)
  | policy (p : RecordPolicy) (threshold completed : Nat)
  | clock (value uptime : Nat)
  | access (v : AccessSetting)
  | calChanges (count : Nat)
  deriving DecidableEq, Repr

/-- A reply frame: the request's sequence byte, the code with its top bit set, the status and the payload (R178). -/
structure Reply where
  seq : Byte
  code : Byte
  status : Status
  payload : Payload
  deriving DecidableEq, Repr

/-! ## Link ports (Chapter 10) -/

/-- Receive states of a port (R175, R176). -/
inductive RxState where
  | hunting
  | receiving
  | busy
  | shunning
  deriving DecidableEq, Repr

/-- Latch modes, in the order of R195. -/
inductive LatchMode where
  | read
  | write
  | pulse
  deriving DecidableEq, Repr

/-- A denial map's 26 flags (R181). -/
structure DenialMap where
  classes : BitVec 10
  lanes : LaneSet
  tanks : TankSet
  deriving DecidableEq, Repr

/-- The TX lead of a port: at its released level, high, or driven with the characters of the reply (R174, R197). -/
inductive TxLead where
  | high
  | sending
  deriving DecidableEq, Repr

/-- A link port (R174). -/
structure Port where
  rx : RxState
  rxBuffer : List Byte
  overlapMark : Bool
  crossing : Bool
  de : Bool
  tx : TxLead
  rate : BitVec 2
  reply : Option Reply
  level : Nat
  denial : DenialMap
  pendingSet : EventSet
  mask : EventSet
  mode : LatchMode
  width : Nat
  pulse : Option Nat
  attn : Bool
  cursor : Nat
  gapCount : Nat
  crcCount : Nat
  overlapCount : Nat
  deriving DecidableEq, Repr

/-- The three ports and the bay's open level (R174). -/
structure Ports where
  dispatch : Port
  console : Port
  receipt : Port
  openLevel : Nat
  deriving DecidableEq, Repr

end Sys2Proof.Machine
end

