-- ==== Sys2Proof/Machine/Factory.lean ====
section
/-! DEFINITION. Factory values of the retained items (R170) and start-up values of the volatile ones, block by block. -/

namespace Sys2Proof.Machine

/-! ## Factory values -/

/-- R23. -/
def factoryMeter : MeterParams :=
  { kx := 100000, b1 := 100, b2 := 400, b3 := 800, c0 := 0, c1 := 0, c2 := 0, c3 := 0, epr := 0 }

/-- The tank each lane is bound to in the default bay (R31). -/
def factoryBinding (l : Lane) : Tank :=
  match l.val with
  | 0 => 0
  | 1 => 0
  | 2 => 1
  | 3 => 1
  | 4 => 2
  | 5 => 3
  | 6 => 4
  | _ => 5

/-- R31. -/
def factoryLane (l : Lane) : LaneConfig :=
  { tank := factoryBinding l, slowStart := 500, slowdown := 3000, authTime := 120, noFlowTime := 4, settleTime := 3,
    overrunLimit := 1000, miscountLimit := 3, reverseLimit := 200, creepLimit := 200 }

/-- The factory class of a tank (R55). -/
def factoryClass (t : Tank) : ProductClass :=
  match t.val with
  | 0 => .fuel
  | 1 => .fuel
  | 5 => .coolant
  | _ => .lube

/-- The factory capacity of a tank (R55). -/
def factoryCapacity (t : Tank) : Nat := if t.val ≤ 1 then 20000000 else 3000000

/-- R55. -/
def factoryTank (t : Tank) : TankConfig :=
  { cls := factoryClass t, capacity := factoryCapacity t, gaugeFitted := decide (t.val ≤ 5), lowLow := 5000, low := 15000,
    high := 170000, highHigh := 185000, zoneDebounce := 3, minFill := 5000, lossLimit := 20000, lossWindow := 600 }

/-- The factory α of a tank (R25). -/
def factoryAlpha (t : Tank) : Nat :=
  if t.val ≤ 1 then 830 else if t.val ≤ 4 then 700 else if t.val = 5 then 500 else 0

/-- The factory strapping table (R61). -/
def factoryPoints (t : Tank) : List (Nat × Nat) := [(0, 0), (200000, factoryCapacity t)]

/-- R100. -/
def factoryClasses : ClassTable :=
  { haul := ⟨true, 35000⟩, loader := ⟨true, 30000⟩, dozer := ⟨true, 15000⟩, grader := ⟨true, 6000⟩,
    service := ⟨false, 3000⟩, light := ⟨false, 1500⟩ }

/-- A CLEAR, enabled source with the given debounce count and map (R142, R143, R150). -/
def factorySource (debounce : Nat) (lanes : LaneSet) (inlets : TankSet) : Source :=
  { isTripped := false, enabled := true, debounce := debounce, hoseLimit := 1100, lanes := lanes, inlets := inlets,
    tripCount := 0, run := 0, blanking := 0, creepTaken := false, lastCond := false }

/-- The lanes bound to a tank in the default bay (R150, LOSS). -/
def factoryLossLanes (t : Tank) : LaneSet := setOf (fun l => decide (factoryBinding l = t))

/-- R142 and R150. -/
def factorySources : Sources :=
  { sump0 := factorySource 5 0xFF#8 0xFF#8
    sump1 := factorySource 5 0xFF#8 0xFF#8
    sump2 := factorySource 5 0xFF#8 0xFF#8
    sump3 := factorySource 5 0xFF#8 0xFF#8
    estop := factorySource 1 0xFF#8 0xFF#8
    hose := Eight.ofFn (fun l => factorySource 3 (bit8 l) 0#8)
    overfill := Eight.ofFn (fun t => factorySource 1 0#8 (bit8 t))
    loss := Eight.ofFn (fun t => factorySource 1 (factoryLossLanes t) (bit8 t))
    manual := factorySource 1 0xFF#8 0xFF#8 }

/-- The trip list of R155, with the capture sample count of R157, an EMPTY buffer and no sample timer running (R158). -/
def factorySpill : SpillUnit :=
  { sources := factorySources, trips := [], tripsDropped := 0, nextTrip := 1, captureCount := 16, capture := .empty,
    captureTimer := none }

/-- R127. -/
def factoryRecords : RecordQueue :=
  { completed := [], reserved := 0#8, policy := .hold, threshold := 16, next := 1, dropped := 0 }

/-- R163. -/
def factoryLock : CalLock := { lock := .unlocked, failed := 0, changes := 0 }

/-- R78, R79. -/
def factoryDeliveries : DeliveryUnit := { entries := [], next := 1 }

/-- R93, R100. -/
def factoryAccounts : AccountTable := { slots := [], classes := factoryClasses }

/-- The bit of a class in a denial map, in the order of R180 (R194). -/
def RequestClass.index : RequestClass → Nat
  | .read => 0
  | .order => 1
  | .lane => 2
  | .stock => 3
  | .account => 4
  | .delivery => 5
  | .records => 6
  | .safety => 7
  | .config => 8
  | .cal => 9

/-- A denial map that denies the named classes and no lane or tank. -/
def denyClasses (cs : List RequestClass) : DenialMap :=
  { classes := cs.foldl (fun m c => m ||| (1#10 <<< c.index)) 0#10, lanes := 0#8, tanks := 0#8 }

/-- R183: the factory level of each port. -/
def factoryLevel : PortId → Nat
  | .dispatch => 1
  | .console => 0
  | .receipt => 2

/-- R183: the factory denial map of each port. -/
def factoryDenial : PortId → DenialMap
  | .console => denyClasses []
  | .dispatch => denyClasses [.lane, .safety, .cal]
  | .receipt => denyClasses [.order, .lane, .stock, .account, .records, .safety, .config, .cal]

/-! ## Start-up values -/

/-- No meter flag set (R16). -/
def MeterFlags.clear : MeterFlags := ⟨false, false, false, false⟩

/-- An input before its first two agreeing samples: released (R30, R68). -/
def Debounced.fresh : Debounced := ⟨false, none, false⟩

/-- The set of all 11 kinds (R174). -/
def allKinds : EventSet := 0x07FF#16

/-- A meter unit at start-up: R1's table, keeping its parameters and its totalizer. -/
def Meter.atStartUp (params : MeterParams) (totalizer : Nat) : Meter :=
  { params := params, refA := false, refB := false, sampleAcc := 0, edgeSeen := false, missSeen := false, ivCount := 0,
    ivFwd := false, ivRev := false, ivExists := false, consec := 0, rate := 0, band := 0, accA := 0, gross := 0, accN := 0,
    net := 0, revSum := 0, txnMiscounts := 0, lastT10 := 0, flags := .clear, revGiven := false, creepAcc := 0,
    creepGross := 0, creepCond := false, creepTotal := 0, totalizer := totalizer }

/-- A lane at start-up: R28's table, keeping its configuration, its meter's retained items and its context. -/
def LaneUnit.atStartUp (u : LaneUnit) : LaneUnit :=
  { meter := Meter.atStartUp u.meter.params u.meter.totalizer, state := .disabled, stage := none, pendingDisable := false,
    held := ⟨false, false, false⟩, counters := ⟨0, 0, 0, 0⟩, authTimer := none, noFlowTimer := none, settleTimer := none,
    settleCap := none, vlo := false, vhi := false, hook := .fresh, ctx := u.ctx, cfg := u.cfg }

/-- A lane of a factory-written device. -/
def factoryLaneUnit (l : Lane) : LaneUnit :=
  { meter := Meter.atStartUp factoryMeter 0, state := .disabled, stage := none, pendingDisable := false,
    held := ⟨false, false, false⟩, counters := ⟨0, 0, 0, 0⟩, authTimer := none, noFlowTimer := none, settleTimer := none,
    settleCap := none, vlo := false, vhi := false, hook := .fresh, ctx := none, cfg := factoryLane l }

/-- A tank at start-up: R54's table, with the delivery unit's count and inlet (R83, R84). -/
def tankAtStartUp (cfg : TankConfig) (points : List (Nat × Nat)) (alpha book reserve shortage : Nat) : TankUnit :=
  { cfg := cfg, points := points, alpha := alpha, book := book, reserve := reserve, shortage := shortage, level := none,
    t10 := none, invalid := 0, gaugeValid := false, gaugedNet := none, overTable := false, draws := [], pump := .stopped,
    pumpRun := false, pumpTimer := none, rdy := .fresh, runs := ⟨0, 0, 0, 0⟩, rawZone := .normal, zone := .normal,
    alarms := ⟨false, false, false, false⟩, window := none, lossCond := false, lastLoss := none, lossHanded := false,
    overfillHanded := false, noGaugeTimer := none, drawnSince := 0, inlet := false }

/-- A tank at start-up keeps its retained items (R54). -/
def TankUnit.atStartUp (k : TankUnit) : TankUnit :=
  tankAtStartUp k.cfg k.points k.alpha k.book k.reserve k.shortage

/-- A tank of a factory-written device (R55, R61, R170). -/
def factoryTankUnit (t : Tank) : TankUnit :=
  tankAtStartUp (factoryTank t) (factoryPoints t) (factoryAlpha t) 0 0 0

/-- The gauge bus at rest: every output lead low and no poll clocked out (R197; the levels are log 33). -/
def GaugeBus.released : GaugeBus := { sel := 0#3, poll := none, sck := false, sdo := false }

/-- A source at start-up: R143's volatile items. -/
def Source.atStartUp (s : Source) : Source :=
  { s with run := 0, blanking := 0, creepTaken := false, lastCond := false }

/-- Every source changed alike. -/
def Sources.map (f : Source → Source) (s : Sources) : Sources :=
  { sump0 := f s.sump0, sump1 := f s.sump1, sump2 := f s.sump2, sump3 := f s.sump3, estop := f s.estop,
    hose := s.hose.map f, overfill := s.overfill.map f, loss := s.loss.map f, manual := f s.manual }

/-- The order list at start-up (R115, R124). -/
def ordersAtStartUp : OrderList := { orders := [], next := 1 }

/-- A port after power-on or pin reset: R174's table. -/
def portAtStartUp (level : Nat) (denial : DenialMap) (rate : BitVec 2) : Port :=
  { rx := .hunting, rxBuffer := [], overlapMark := false, crossing := false, de := false, tx := .high, rate := rate,
    reply := none,
    level := level, denial := denial, pendingSet := 0#16, mask := allKinds, mode := .read, width := 10, pulse := none,
    attn := false, cursor := 0, gapCount := 0, crcCount := 0, overlapCount := 0 }

/-- The ports of a factory-written device (R183). -/
def factoryPorts (rate : BitVec 2) : Ports :=
  { dispatch := portAtStartUp (factoryLevel .dispatch) (factoryDenial .dispatch) rate
    console := portAtStartUp (factoryLevel .console) (factoryDenial .console) rate
    receipt := portAtStartUp (factoryLevel .receipt) (factoryDenial .receipt) rate
    openLevel := 0 }

end Sys2Proof.Machine
end

