-- ==== Sys2Proof/Machine/State.lean ====
section
/-! DEFINITION. The state of the device as plain data, its queue of waiting commands, and the state after reset. -/

namespace Sys2Proof.Machine

/-- Faults: none. No rule of the spec stops the device: a request that cannot be carried out is answered with a status
(R178) and a field condition ends fills or trips sources. -/
inductive Fault where
  deriving DecidableEq, Repr

/-- Refusals. -/
inductive Refusal where
  /-- Raised by exec alone, for a command that has no meaning yet. Safe: nothing can be proved of what follows. -/
  | notModelled (mnemonic : String)
  deriving DecidableEq, Repr

/-- The whole device (00_scope.md, Functional block diagram), and the commands that wait, the first to run first. -/
structure State where
  device : Device
  time : BayTime
  ports : Ports
  lanes : Eight LaneUnit
  tanks : Eight TankUnit
  bus : GaugeBus
  deliveries : DeliveryUnit
  accounts : AccountTable
  orders : OrderList
  records : RecordQueue
  spill : SpillUnit
  cal : CalLock
  pending : List Instr
  deriving DecidableEq, Repr

/-- The device right after reset, at the entry to RESTORING, its store just factory-written (R170 to R174; log 1). -/
def State.reset : State :=
  { device := { phase := .restoring, powered := true, resetHeld := false, formatMarker := true, lineRate := 0#2 }
    time := { clock := 0, isSet := false, uptime := 0 }
    ports := factoryPorts 0#2
    lanes := Eight.ofFn factoryLaneUnit
    tanks := Eight.ofFn factoryTankUnit
    bus := .released
    deliveries := factoryDeliveries
    accounts := factoryAccounts
    orders := ordersAtStartUp
    records := factoryRecords
    spill := factorySpill
    cal := factoryLock
    pending := [] }

end Sys2Proof.Machine
end

