-- ==== Sys2Proof/Machine/Flags.lean ====
section
/-! DEFINITION. Flags and sets of flags: event sets (R195), meter, transaction and record flags (R134), alarm flags (R73). -/

namespace Sys2Proof.Machine

/-- The bit of an event kind in an event set (R195). -/
def EventKind.bit : EventKind → EventSet
  | .records => 0x0001#16
  | .laneEnd => 0x0002#16
  | .laneFault => 0x0004#16
  | .order => 0x0008#16
  | .tankAlarm => 0x0010#16
  | .trip => 0x0020#16
  | .delivery => 0x0040#16
  | .account => 0x0080#16
  | .counter => 0x0100#16
  | .started => 0x0200#16
  | .cal => 0x0400#16

/-- Whether an event set holds a kind. -/
def holdsKind (s : EventSet) (k : EventKind) : Bool := decide (s &&& k.bit ≠ 0#16)

/-- Whether an event set names only kinds there are: bits 11 to 15 stand for none (R195). -/
def kindsOnly (s : EventSet) : Bool := decide (s &&& 0xF800#16 = 0#16)

/-- No transaction flag set. -/
def CtxFlags.clear : CtxFlags := ⟨false, false, false, false, false, false⟩

/-- No delivery flag set. -/
def DeliveryFlags.clear : DeliveryFlags := ⟨false, false, false, false, false, false, false, false⟩

/-- A record's flags from the context, the meter unit and the close (R134). -/
def recordFlags (c : CtxFlags) (m : MeterFlags) (service unset : Bool) : RecordFlags :=
  { clampedPreset := c.clampedPreset, hoursOverridden := c.hoursOverridden, noHours := c.noHours,
    tempAssumed := m.tempAssumed, reverseSeen := m.reverseSeen, miscountSeen := m.miscountSeen, overrange := m.overrange,
    trimmed := c.trimmed, service := service, priority := c.priority, clockUnset := c.clockUnset || unset }

/-- A held cause added (R48, R49). -/
def HeldCauses.add (h : HeldCauses) : LaneFault → HeldCauses
  | .reverse => { h with reverse := true }
  | .meter => { h with meter := true }
  | .overrun => { h with overrun := true }

/-- No held cause. -/
def HeldCauses.empty : HeldCauses := ⟨false, false, false⟩

/-- The end reason of a fault (R48). -/
def LaneFault.reason : LaneFault → EndReason
  | .reverse => .faultReverse
  | .meter => .faultMeter
  | .overrun => .faultOverrun

/-- The flags of the zones that a debounced zone reaches (R73). -/
def Zone.reached : Zone → Alarms
  | .lowLow => ⟨true, true, false, false⟩
  | .low => ⟨false, true, false, false⟩
  | .normal => ⟨false, false, false, false⟩
  | .high => ⟨false, false, true, false⟩
  | .highHigh => ⟨false, false, true, true⟩

/-- The flags set in either (R73, setting). -/
def Alarms.union (a b : Alarms) : Alarms :=
  ⟨a.lowLow || b.lowLow, a.low || b.low, a.high || b.high, a.highHigh || b.highHigh⟩

/-- The flags set in both (R73, acknowledging). -/
def Alarms.inter (a b : Alarms) : Alarms :=
  ⟨a.lowLow && b.lowLow, a.low && b.low, a.high && b.high, a.highHigh && b.highHigh⟩

end Sys2Proof.Machine
end

