-- ==== Sys2Proof/Machine/Operands.lean ====
section
/-! DEFINITION. Operand forms: how a value a request carries is read, and the ranges it is judged against (R192). -/

namespace Sys2Proof.Machine

/-- Whether n lies from lo to hi. -/
def within (lo hi n : Nat) : Bool := decide (lo ≤ n) && decide (n ≤ hi)

/-- Whether z lies from lo to hi. -/
def withinInt (lo hi z : Int) : Bool := decide (lo ≤ z) && decide (z ≤ hi)

/-- A lane or tank number, if it is 0 to 7 (R192). -/
def eightOf (n : Nat) : Option (Fin 8) := if h : n < 8 then some ⟨n, h⟩ else none

/-- A flag byte: 0 clear, 1 set, and nothing else (R192, R194). The settings listed as enabled or disabled and as yes or no are read
as flags too, 1 for enabled or yes (DEDUCED, log 34). -/
def flagOf (n : Nat) : Option Bool :=
  match n with
  | 0 => some false
  | 1 => some true
  | _ => none

/-- A machine class, numbered in the order of R93. -/
def machineClassOf (n : Nat) : Option MachineClass :=
  match n with
  | 0 => some .haul
  | 1 => some .loader
  | 2 => some .dozer
  | 3 => some .grader
  | 4 => some .service
  | 5 => some .light
  | _ => none

/-- A product class, numbered in the order of R55. -/
def productClassOf (n : Nat) : Option ProductClass :=
  match n with
  | 0 => some .fuel
  | 1 => some .lube
  | 2 => some .coolant
  | _ => none

/-- A record policy: 0 HOLD, 1 OVERWRITE (R137). -/
def policyOf (n : Nat) : Option RecordPolicy :=
  match n with
  | 0 => some .hold
  | 1 => some .overwrite
  | _ => none

/-- A latch mode: 0 READ, 1 WRITE, 2 PULSE (R195). -/
def modeOf (n : Nat) : Option LatchMode :=
  match n with
  | 0 => some .read
  | 1 => some .write
  | 2 => some .pulse
  | _ => none

/-- The number of a latch mode (R195). -/
def LatchMode.code : LatchMode → Nat
  | .read => 0
  | .write => 1
  | .pulse => 2

/-- The line rate in baud that the strap pins RATE1..0 select (R174). -/
def lineRateBaud (straps : BitVec 2) : Nat :=
  match straps.toNat with
  | 0 => 9600
  | 1 => 19200
  | 2 => 57600
  | _ => 115200

/-- The pulse widths a port may have, in ms (R189). -/
def pulseWidths : List Nat := [1, 2, 5, 10, 20, 50, 100, 200]

/-- The index of a source (R142). -/
def sourceIndex : SourceId → Nat
  | .sump n => n.val
  | .estop => 4
  | .hose l => 5 + l.val
  | .overfill t => 13 + t.val
  | .loss t => 21 + t.val
  | .manual => 29

/-- The sources in index order (R142). -/
def allSources : List SourceId :=
  [.sump 0, .sump 1, .sump 2, .sump 3, .estop]
    ++ allEight.map SourceId.hose ++ allEight.map SourceId.overfill ++ allEight.map SourceId.loss ++ [.manual]

/-- The source with an index, if the index is 0 to 29 (R142). -/
def sourceOf (n : Nat) : Option SourceId := allSources[n]?

/-- Whether an optional value, when given, satisfies p. -/
def optAll {α : Type} (p : α → Bool) : Option α → Bool
  | none => true
  | some x => p x

/-- The range check of SET_METER's values (R23). -/
def meterInRange (v : MeterSetting) : Bool :=
  within 10000 4000000 v.kx
    && (decide (v.b3 ≤ 9999) && decide (v.b1 < v.b2) && decide (v.b2 < v.b3))
    && (withinInt (-5000) 5000 v.c0 && withinInt (-5000) 5000 v.c1 && withinInt (-5000) 5000 v.c2 && withinInt (-5000) 5000 v.c3)
    && (decide (v.epr = 0) || within 8 4096 v.epr)

/-- SET_LANE's values as a configuration, if each lies in its range (R31). -/
def laneConfigOf (v : LaneSetting) : Option LaneConfig :=
  match eightOf v.tank with
  | none => none
  | some t =>
    if decide (v.slowStart ≤ 100000) && decide (v.slowdown ≤ 100000) && within 10 600 v.authTime && within 1 30 v.noFlowTime
        && within 1 10 v.settleTime && decide (v.overrunLimit ≤ 10000) && within 1 15 v.miscountLimit
        && decide (v.reverseLimit ≤ 10000) && within 1 100000 v.creepLimit then
      some { tank := t, slowStart := v.slowStart, slowdown := v.slowdown, authTime := v.authTime, noFlowTime := v.noFlowTime,
             settleTime := v.settleTime, overrunLimit := v.overrunLimit, miscountLimit := v.miscountLimit,
             reverseLimit := v.reverseLimit, creepLimit := v.creepLimit }
    else none

/-- SET_TANK's values as a configuration, if each lies in its range and the thresholds rise strictly (R55). Gauge fitted is a
flag (log 34). -/
def tankConfigOf (v : TankSetting) : Option TankConfig :=
  match productClassOf v.cls, flagOf v.gaugeFitted with
  | some c, some g =>
    if within 1 Config.maxVolume v.capacity && decide (v.highHigh ≤ 200000) && decide (v.lowLow < v.low)
        && decide (v.low < v.high) && decide (v.high < v.highHigh) && decide (v.zoneDebounce ≤ 255)
        && decide (v.minFill ≤ Config.maxPreset) && decide (v.lossLimit ≤ 10000000) && within 60 3600 v.lossWindow then
      some { cls := c, capacity := v.capacity, gaugeFitted := g, lowLow := v.lowLow, low := v.low, high := v.high,
             highHigh := v.highHigh, zoneDebounce := v.zoneDebounce, minFill := v.minFill, lossLimit := v.lossLimit,
             lossWindow := v.lossWindow }
    else none
  | _, _ => none

/-- Whether a strapping table may be set: 2 to 16 points in range, levels strictly increasing, volumes not decreasing
(R61). -/
def pointsInRange (ps : List (Nat × Nat)) : Bool :=
  within 2 16 ps.length && ps.all (fun p => decide (p.1 ≤ 200000) && decide (p.2 ≤ Config.maxVolume)) && rising ps
where
  /-- Levels strictly increase and volumes do not decrease from each point to the next. -/
  rising : List (Nat × Nat) → Bool
    | [] => true
    | [_] => true
    | p :: q :: rest => decide (p.1 < q.1) && decide (p.2 ≤ q.2) && rising (q :: rest)

/-- A service item as step 1 of R96 checks it: tank, interval, minimum and hours in range. -/
def itemOf (v : ItemSetting) : Option ServiceItem :=
  match eightOf v.tank with
  | none => none
  | some t =>
    if within 10 50000 v.interval && within 1 Config.maxPreset v.minimum && optAll (fun h => decide (h ≤ Config.maxHours)) v.base then
      some { tank := t, interval := v.interval, minimum := v.minimum, base := v.base, due := false }
    else none

/-- Every item of a list read, or none if one is out of range. -/
def itemsRead : List ItemSetting → Option (List ServiceItem)
  | [] => some []
  | v :: rest =>
    match itemOf v, itemsRead rest with
    | some i, some is => some (i :: is)
    | _, _ => none

/-- Whether no two items name the same tank (R96). -/
def tanksDistinct : List ServiceItem → Bool
  | [] => true
  | i :: rest => rest.all (fun j => decide (j.tank ≠ i.tank)) && tanksDistinct rest

/-- The items of ENROL_MACHINE or SET_MACHINE, if they pass step 1 of R96. -/
def itemsOf (vs : List ItemSetting) : Option (List ServiceItem) :=
  match itemsRead vs with
  | none => none
  | some is => if decide (vs.length ≤ 4) && tanksDistinct is then some is else none

/-- Whether SET_SOURCE's values pass R152's checks for this source. The enable is a flag (log 34). -/
def sourceSettingOk (id : SourceId) (v : SourceSetting) : Bool :=
  match flagOf v.enable, flagOf v.clearCount with
  | some en, some _ =>
    match id with
    | .estop => en && decide (v.debounce = 1) && decide (v.lanes = 0xFF#8) && decide (v.inlets = 0xFF#8)
    | .manual => en
    | .hose _ => within 1 255 v.debounce && decide (v.hoseLimit ≤ 9999)
    | _ => within 1 255 v.debounce
  | _, _ => false

/-- A denial map from its four bytes: bits 0 to 9 classes, 10 to 17 lanes, 18 to 25 tanks; a higher bit stands for
nothing (R192, R194). -/
def denialOf (w : BitVec 32) : Option DenialMap :=
  if w.toNat < 2 ^ 26 then
    some { classes := w.extractLsb' 0 10, lanes := w.extractLsb' 10 8, tanks := w.extractLsb' 18 8 }
  else none

/-- The four bytes of a denial map (R194). -/
def denialWord (d : DenialMap) : BitVec 32 :=
  d.classes.setWidth 32 ||| (d.lanes.setWidth 32 <<< 10) ||| (d.tanks.setWidth 32 <<< 18)

end Sys2Proof.Machine
end

