-- ==== Sys2Proof/Machine/Ops.lean ====
section
/-! DEFINITION. The shared operations: reading and writing a unit of the state, posting an event, the attention line, the
access check, and answering a request. -/

namespace Sys2Proof.Machine

/-! ## Units of the state -/

/-- A lane's unit. -/
def State.lane (s : State) (l : Lane) : LaneUnit := s.lanes.get l

/-- The state with a lane's unit replaced. -/
def State.setLane (s : State) (l : Lane) (u : LaneUnit) : State := { s with lanes := s.lanes.set l u }

/-- A tank's unit. -/
def State.tank (s : State) (t : Tank) : TankUnit := s.tanks.get t

/-- The state with a tank's unit replaced. -/
def State.setTank (s : State) (t : Tank) (k : TankUnit) : State := { s with tanks := s.tanks.set t k }

/-- A port of the three. -/
def Ports.get (ps : Ports) : PortId → Port
  | .dispatch => ps.dispatch
  | .console => ps.console
  | .receipt => ps.receipt

/-- The ports with one replaced. -/
def Ports.set (ps : Ports) (i : PortId) (p : Port) : Ports :=
  match i with
  | .dispatch => { ps with dispatch := p }
  | .console => { ps with console := p }
  | .receipt => { ps with receipt := p }

/-- The three ports changed alike. -/
def Ports.map (f : Port → Port) (ps : Ports) : Ports :=
  { ps with dispatch := f ps.dispatch, console := f ps.console, receipt := f ps.receipt }

/-- A link port. -/
def State.port (s : State) (i : PortId) : Port := s.ports.get i

/-- The state with a link port replaced. -/
def State.setPort (s : State) (i : PortId) (p : Port) : State := { s with ports := s.ports.set i p }

/-- A source of the thirty. -/
def Sources.get (s : Sources) : SourceId → Source
  | .sump n =>
    match n.val with
    | 0 => s.sump0
    | 1 => s.sump1
    | 2 => s.sump2
    | _ => s.sump3
  | .estop => s.estop
  | .hose l => s.hose.get l
  | .overfill t => s.overfill.get t
  | .loss t => s.loss.get t
  | .manual => s.manual

/-- The sources with one replaced. -/
def Sources.set (s : Sources) (i : SourceId) (x : Source) : Sources :=
  match i with
  | .sump n =>
    match n.val with
    | 0 => { s with sump0 := x }
    | 1 => { s with sump1 := x }
    | 2 => { s with sump2 := x }
    | _ => { s with sump3 := x }
  | .estop => { s with estop := x }
  | .hose l => { s with hose := s.hose.set l x }
  | .overfill t => { s with overfill := s.overfill.set t x }
  | .loss t => { s with loss := s.loss.set t x }
  | .manual => { s with manual := x }

/-- A spill source. -/
def State.source (s : State) (i : SourceId) : Source := s.spill.sources.get i

/-- The state with a spill source replaced. -/
def State.setSource (s : State) (i : SourceId) (x : Source) : State :=
  { s with spill := { s.spill with sources := s.spill.sources.set i x } }

/-- The bay time for a stamp, and whether the clock is unset: then the stamp is 0 (R190). -/
def State.stamp (s : State) : Nat × Bool := if s.time.isSet then (s.time.clock, false) else (0, true)

/-- Field events and timers act only while RUNNING (R171). -/
def State.whenRunning (s : State) (f : State → State) : State :=
  match s.device.phase with
  | .running => f s
  | _ => s

/-! ## Saturation and rounding -/

/-- z held to lo to hi. -/
def clampInt (lo hi z : Int) : Int := max lo (min hi z)

/-- n plus k, stopping at top. -/
def satAdd (top n k : Nat) : Nat := min top (n + k)

/-! ## Timers (R191) -/

/-- Whether a timer's length has run: it runs and no whole second is left (R191). An expiry command before that comes too
early and changes nothing (log 3). -/
def ended (t : Timer) : Bool := decide (t = some 0)

/-- A running timer a second nearer its end; its expiry is a command of its own (log 3). -/
def tick (t : Timer) : Timer := t.map (fun n => n - 1)

/-! ## Debounced inputs (R30, R68) -/

/-- The input after a sample: two consecutive samples that agree make the debounced level. -/
def Debounced.sample (d : Debounced) (level : Bool) : Debounced :=
  if d.last = some level then { level := level, last := some level, settled := true } else { d with last := some level }

/-! ## Events and attention (R185 to R187) -/

/-- The attention line of R186, in modes READ and WRITE; in PULSE the line is the pulse's. -/
def Port.followSet (p : Port) : Port :=
  match p.mode with
  | .pulse => p
  | _ => { p with attn := decide (p.pendingSet &&& p.mask ≠ 0#16) }

/-- A kind posted to a port (R185), with R186's line or R187's pulse. -/
def Port.post (k : EventKind) (p : Port) : Port :=
  let fresh := !holdsKind p.pendingSet k
  let p' := { p with pendingSet := p.pendingSet ||| k.bit }
  match p.mode with
  | .pulse =>
    if fresh && holdsKind p.mask k && p.pulse.isNone then { p' with pulse := some p.width, attn := true } else p'
  | _ => p'.followSet

/-- A kind posted to the three ports (R185). -/
def post (k : EventKind) (s : State) : State := { s with ports := s.ports.map (Port.post k) }

/-- A kind posted when c holds. -/
def postIf (c : Bool) (k : EventKind) (s : State) : State := if c then post k s else s

/-! ## The access check (R180 to R182) -/

/-- What a request addresses: lanes and tanks (R182). -/
structure Addressed where
  lanes : LaneSet
  tanks : TankSet
  deriving DecidableEq, Repr

/-- A request that addresses no lane and no tank. -/
def Addressed.none : Addressed := ⟨0#8, 0#8⟩

/-- The set of the tank a number names, empty when it is out of range (R182). -/
def tankBits (n : Nat) : TankSet :=
  match eightOf n with
  | some t => bit8 t
  | none => 0#8

/-- A request that names a lane addresses it and the tank bound to it (R182). -/
def addressLane (s : State) (n : Nat) : Addressed :=
  match eightOf n with
  | some l => ⟨bit8 l, bit8 (s.lane l).cfg.tank⟩
  | none => .none

/-- SET_LANE addresses the lane it names, the tank bound to it and the tank it names; with either number out of range it
addresses nothing, and passes or fails on its class alone (R182). -/
def addressSetLane (s : State) (n tank : Nat) : Addressed :=
  match eightOf n, eightOf tank with
  | some l, some t => ⟨bit8 l, bit8 (s.lane l).cfg.tank ||| bit8 t⟩
  | _, _ => .none

/-- A request that names a tank addresses it (R182). -/
def addressTank (n : Nat) : Addressed := ⟨0#8, tankBits n⟩

/-- A request that names a delivery addresses its entry's tank (R92, R182). -/
def addressDelivery (s : State) (n : Nat) : Addressed :=
  match s.deliveries.entries.find? (fun e => decide (e.number = n)) with
  | some e => ⟨0#8, bit8 e.tank⟩
  | none => .none

/-- CANCEL_ORDER addresses the order's tank (R125, R182). -/
def addressOrder (s : State) (n : Nat) : Addressed :=
  match s.orders.orders.find? (fun o => decide (o.number = n)) with
  | some o => ⟨0#8, bit8 o.tank⟩
  | none => .none

/-- How a request is checked: the four level-0 requests, or by class and addresses (R181). -/
inductive Access where
  | levelZero
  | classed (c : RequestClass) (a : Addressed)
  deriving DecidableEq, Repr

/-- Whether a denial map denies a class or any lane or tank addressed (R181). -/
def DenialMap.denies (d : DenialMap) (c : RequestClass) (a : Addressed) : Bool :=
  d.classes.getLsbD c.index || decide (d.lanes &&& a.lanes ≠ 0#8) || decide (d.tanks &&& a.tanks ≠ 0#8)

/-- Whether a request from a port passes the access check (R181). -/
def accessPasses (s : State) (i : PortId) : Access → Bool
  | .levelZero => decide ((s.port i).level = 0)
  | .classed c a => decide ((s.port i).level ≤ s.ports.openLevel) || !(s.port i).denial.denies c a

/-! ## Answering a request (R176 to R178) -/

/-- What an owning block makes of a request: the state after it, the status, and the payload. -/
structure Answer where
  state : State
  status : Status
  payload : Payload

/-- A request carried out: OK with its payload. -/
def Answer.ok (s : State) (p : Payload) : Answer := ⟨s, .ok, p⟩

/-- A request refused: nothing changes and the payload is empty (R177, R178). -/
def Answer.refuse (s : State) (st : Status) : Answer := ⟨s, st, .nothing⟩

/-- Whether a port can take a frame: it is neither sending a reply nor shunning (R175, R176). -/
def Port.ready (p : Port) : Bool := decide (p.rx = .hunting) || decide (p.rx = .receiving)

/-- The port sends a reply on TX with DE asserted, and is BUSY until its end (R174, R176, R178). -/
def Port.send (p : Port) (r : Reply) : Port :=
  { p with rx := .busy, rxBuffer := [], overlapMark := false, de := true, tx := .sending, reply := some r }

/-- A reply goes out on the port the request came on (R178): the sequence byte echoed, the code with its top bit set. -/
def State.reply (s : State) (f : Frame) (code : Byte) (st : Status) (p : Payload) : State :=
  s.setPort f.port ((s.port f.port).send { seq := f.seq, code := code ||| 0x80#8, status := st, payload := p })

/-- A frame begun while the port is answering: the OVERLAP counter rises once and the port will shun (R176). -/
def Port.overlap (p : Port) : Port :=
  match p.rx with
  | .busy => if p.overlapMark then p else { p with overlapMark := true, overlapCount := satAdd 255 p.overlapCount 1 }
  | _ => p

/-- A frame that overlaps a port's reply. -/
def State.overlapAt (s : State) (i : PortId) : State := s.setPort i (s.port i).overlap

/-- A request frame on its port, through the checks of R177 in their order: lost if the port is not ready for a frame
(R176, log 6), STARTING while RESTORING, DENIED by the access check, or the owning block's answer. -/
def serve (f : Frame) (code : Byte) (a : Access) (act : State → Answer) (s : State) : State :=
  match s.device.phase with
  | .held => s
  | .restoring => if (s.port f.port).ready then s.reply f code .starting .nothing else s.overlapAt f.port
  | .running =>
    if (s.port f.port).ready then
      if accessPasses s f.port a then (act s).state.reply f code (act s).status (act s).payload
      else s.reply f code .denied .nothing
    else s.overlapAt f.port

/-- A request that addresses no lane and no tank, served under its class. -/
def serveClass (f : Frame) (code : Byte) (c : RequestClass) (act : State → Answer) (s : State) : State :=
  serve f code (.classed c .none) act s

end Sys2Proof.Machine
end

