-- ==== Sys2Proof/Machine/Accounts.lean ====
section
/-! DEFINITION. The account table's operations: finding, placing, the hours check, and booking at close (R93 to R109). -/

namespace Sys2Proof.Machine

/-- The class table's entry of a class (R100). -/
def ClassTable.get (c : ClassTable) : MachineClass → ClassEntry
  | .haul => c.haul
  | .loader => c.loader
  | .dozer => c.dozer
  | .grader => c.grader
  | .service => c.service
  | .light => c.light

/-- The class table with an entry replaced (R100). -/
def ClassTable.set (c : ClassTable) (k : MachineClass) (e : ClassEntry) : ClassTable :=
  match k with
  | .haul => { c with haul := e }
  | .loader => { c with loader := e }
  | .dozer => { c with dozer := e }
  | .grader => { c with grader := e }
  | .service => { c with service := e }
  | .light => { c with light := e }

/-- The slot and entry of a tag: the tag is compared in each occupied way of its bucket (R95). -/
def findAccount (slots : List (Nat × Account)) (tag : Tag) : Option (Nat × Account) :=
  slots.find? (fun e => decide (e.1 / 4 = bucketOf tag) && decide (e.2.tag = tag))

/-- The table with an entry written into a slot, in slot order. -/
def putSlot (slot : Nat) (a : Account) : List (Nat × Account) → List (Nat × Account)
  | [] => [(slot, a)]
  | e :: rest =>
    if slot < e.1 then (slot, a) :: e :: rest
    else if slot = e.1 then (slot, a) :: rest
    else e :: putSlot slot a rest

/-- The table with a slot freed (R97). -/
def freeSlot (slot : Nat) (slots : List (Nat × Account)) : List (Nat × Account) :=
  slots.filter (fun e => decide (e.1 ≠ slot))

/-- Whether a slot is occupied. -/
def slotTaken (slots : List (Nat × Account)) (slot : Nat) : Bool := slots.any (fun e => decide (e.1 = slot))

/-- The lowest-numbered free way of a tag's bucket, as a slot index (R96). -/
def freeWay (slots : List (Nat × Account)) (tag : Tag) : Option Nat :=
  [0, 1, 2, 3].map (fun w => bucketOf tag * 4 + w) |>.find? (fun i => !slotTaken slots i)

/-- A new entry with the enrolment values of R93. -/
def Account.enrolled (tag : Tag) (c : MachineClass) (permits : TankSet) (capacity : Nat) (items : List ServiceItem) : Account :=
  { tag := tag, cls := c, suspended := false, permits := permits, capacity := capacity, hoursLast := none, lastFill := none,
    fuelTotal := 0, lubeTotal := 0, fills := 0, burnRate := none, burnHigh := false, items := items }

/-- R99: an item of SET_MACHINE without a base takes the base and due flag of the present item for its tank. -/
def mergeItem (present : List ServiceItem) (i : ServiceItem) : ServiceItem :=
  match i.base with
  | some _ => i
  | none =>
    match present.find? (fun j => decide (j.tank = i.tank)) with
    | some j => { i with base := j.base, due := j.due }
    | none => i

/-! ## The hours check (R101, R102) -/

/-- What the hours check answers: refused, or passed with the flag it sets. -/
inductive HoursResult where
  | refused
  | pass
  | noHours
  | overridden
  deriving DecidableEq, Repr

/-- The gap test of R102 when the clock is set and a last fill time is present. -/
def gapAllowed (clock lastFill : Nat) : Nat := (clock - lastFill) / 360 + 10

/-- The hours check at step 7 of OPEN_LANE (R101, R102). clock is none while the bay clock is unset. -/
def hoursCheck (a : Account) (required : Bool) (reading : Option Nat) (clock : Option Nat) (override : Bool) : HoursResult :=
  match reading with
  | none => if required then .refused else .noHours
  | some h =>
    if Config.maxHours < h then .refused
    else
      match a.hoursLast with
      | none => .pass
      | some last =>
        if h < last then .refused
        else
          match clock, a.lastFill with
          | some now, some fill =>
            if h - last ≤ gapAllowed now fill then .pass else if override then .overridden else .refused
          | _, _ => .pass

/-! ## Booking at close (R103 to R107) -/

/-- What a booking changes beside the entry: whether a service item was satisfied (SERVICE), and whether ACCOUNT is
posted (R105, R107). -/
structure Booking where
  account : Account
  service : Bool
  alarm : Bool
  deriving DecidableEq, Repr

/-- R103: hours last, last fill time, fill count and totals. -/
def bookTotals (a : Account) (cls : ProductClass) (net : Int) (reading clock : Option Nat) : Account :=
  { a with
    hoursLast :=
      match reading with
      | none => a.hoursLast
      | some h => some (match a.hoursLast with | none => h | some last => max last h)
    lastFill := match clock with | none => a.lastFill | some now => some now
    fills := satAdd 65535 a.fills 1
    fuelTotal := if cls = .fuel ∧ 0 < net then satAdd Config.maxTotal a.fuelTotal net.toNat else a.fuelTotal
    lubeTotal := if cls ≠ .fuel ∧ 0 < net then satAdd Config.maxTotal a.lubeTotal net.toNat else a.lubeTotal }

/-- R104: the burn rate of a qualifying close; previous is hours last before the close. -/
def burnRateOf (previous : Option Nat) (cls : ProductClass) (net : Int) (reading : Option Nat) : Option Nat :=
  match cls, reading, previous with
  | .fuel, some h, some p => if p + 10 ≤ h ∧ 0 < net then some (net.toNat * 10 / (h - p)) else none
  | _, _, _ => none

/-- R106: an item at a close with a reading takes its base, and the item of the bound tank is satisfied at its minimum. -/
def serveItem (t : Tank) (net : Int) (h : Nat) (i : ServiceItem) : ServiceItem :=
  if i.tank = t ∧ (i.minimum : Int) ≤ net then { i with base := some h, due := false }
  else match i.base with | none => { i with base := some h } | some _ => i

/-- R107: an item whose interval has run since its base becomes due. -/
def dueItem (h : Nat) (i : ServiceItem) : ServiceItem :=
  match i.base with
  | none => i
  | some b => if b + i.interval ≤ h then { i with due := true } else i

/-- Whether an item is satisfied at a close of tank t (R106). -/
def itemSatisfied (t : Tank) (net : Int) (i : ServiceItem) : Bool := decide (i.tank = t) && decide ((i.minimum : Int) ≤ net)

/-- Whether R107 newly sets an item's due flag. -/
def newlyDue (h : Nat) (i : ServiceItem) : Bool := !i.due && (dueItem h i).due

/-- The booking of a close (R103 to R107), in that order. ceiling is the burn ceiling of the machine's class. -/
def bookClose (a : Account) (ceiling : Nat) (t : Tank) (cls : ProductClass) (net : Int) (reading clock : Option Nat) : Booking :=
  let a1 := bookTotals a cls net reading clock
  let burn := burnRateOf a.hoursLast cls net reading
  let high := match burn with | some r => decide (ceiling < r) | none => false
  let a2 := match burn with | some r => { a1 with burnRate := some r, burnHigh := high } | none => a1
  match reading with
  | none => { account := a2, service := false, alarm := high }
  | some h =>
    let served := a2.items.map (serveItem t net h)
    { account := { a2 with items := served.map (dueItem h) }
      service := a2.items.any (itemSatisfied t net)
      alarm := high || served.any (newlyDue h) }

/-- R108: the booking of a POWER_LOST record: no last fill time, no burn rate, no service evaluation. -/
def bookPowerLost (a : Account) (cls : ProductClass) (net : Int) (reading : Option Nat) : Account :=
  bookTotals a cls net reading none

/-- The number of service items due, of the short form (R111). -/
def dueCount (a : Account) : Nat := (a.items.filter (fun i => i.due)).length

/-! ## Walking the table (R111) -/

/-- The scan UP from a cursor: the entries returned, whether the reply carries END, and the cursor after. -/
def walkUp (slots : List (Nat × Account)) (cursor count : Nat) : List (Nat × Account) × Bool × Nat :=
  let met := (slots.filter (fun e => decide (cursor ≤ e.1))).take count
  match met.getLast? with
  | some e => if met.length = count ∧ e.1 < 255 then (met, false, e.1 + 1) else (met, true, 0)
  | none => (met, true, 0)

/-- The scan DOWN from a cursor: the entries returned, whether the reply carries END, and the cursor after. -/
def walkDown (slots : List (Nat × Account)) (cursor count : Nat) : List (Nat × Account) × Bool × Nat :=
  let met := (slots.filter (fun e => decide (e.1 ≤ cursor))).reverse.take count
  match met.getLast? with
  | some e => if met.length = count ∧ 0 < e.1 then (met, false, e.1 - 1) else (met, true, 255)
  | none => (met, true, 255)

end Sys2Proof.Machine
end

