-- ==== Sys2Proof/Machine/Metering.lean ====
section
/-! DEFINITION. The meter unit's own arithmetic: decoding, index check, miscounts, and the two paths of a sample (R2 to R22). -/

namespace Sys2Proof.Machine

/-- The three lane states of the metered phase (R8, R10). -/
def LaneState.metered : LaneState → Bool
  | .starting => true
  | .delivering => true
  | .settling => true
  | _ => false

/-- The lane states in which a transaction is open (R28). -/
def LaneState.isOpen : LaneState → Bool
  | .disabled => false
  | .idle => false
  | _ => true

/-! ## Decoding (R2, R3) -/

/-- What a decoder input sample shows against the reference pair (R2, R3). -/
inductive Transition where
  | unchanged
  | edge (sign : Int)
  | illegal
  deriving DecidableEq, Repr

/-- The decoder's comparison (R2's table, R3): from the reference pair to the levels now. -/
def transition (refA refB a b : Bool) : Transition :=
  match refA, refB, a, b with
  | false, false, true, false => .edge 1
  | true, false, true, true => .edge 1
  | true, true, false, true => .edge 1
  | false, true, false, false => .edge 1
  | false, false, false, true => .edge (-1)
  | false, true, true, true => .edge (-1)
  | true, true, true, false => .edge (-1)
  | true, false, false, false => .edge (-1)
  | _, _, _, _ => if refA = a ∧ refB = b then .unchanged else .illegal

/-- The index interval restarted from count 0 with both marks clear (R5). -/
def Meter.restartInterval (m : Meter) (existing : Bool) : Meter :=
  { m with ivCount := 0, ivFwd := false, ivRev := false, ivExists := existing }

/-- A counted edge: into the sample accumulator and, while EPR is not 0, into the index interval (R2, R5). -/
def Meter.countEdge (m : Meter) (a b : Bool) (sign : Int) : Meter :=
  let m1 := { m with refA := a, refB := b, sampleAcc := m.sampleAcc + sign, edgeSeen := true }
  if m.params.epr = 0 then m1
  else { m1 with ivCount := m.ivCount + sign, ivFwd := m.ivFwd || decide (0 < sign), ivRev := m.ivRev || decide (sign < 0) }

/-- Whether the interval count has passed the missing-index figure (R7). -/
def Meter.indexMissing (m : Meter) : Bool :=
  decide (m.params.epr ≠ 0) && decide (2 * m.params.epr + 2 < m.ivCount.natAbs)

/-- The judgement of an index pulse (R6). -/
inductive Judgement where
  | nothing
  | good
  | bad
  deriving DecidableEq, Repr

/-- R6's table: no interval, exempt, good, or bad. -/
def Meter.judge (m : Meter) : Judgement :=
  if !m.ivExists then .nothing
  else if m.ivFwd && m.ivRev then .nothing
  else if within (m.params.epr - 2) (m.params.epr + 2) m.ivCount.natAbs then .good
  else .bad

/-! ## Miscounts (R8, R9) -/

/-- A miscount event's effect on the meter unit (R8). -/
def Meter.miscount (m : Meter) (metered : Bool) : Meter :=
  let m1 := { m with consec := satAdd 15 m.consec 1, missSeen := true }
  if metered then
    { m1 with txnMiscounts := satAdd 15 m.txnMiscounts 1, flags := { m.flags with miscountSeen := true } }
  else m1

/-- Whether a miscount event brings the consecutive-miscount count to the limit (R9). -/
def Meter.reachesLimit (m : Meter) (limit : Nat) : Bool := decide (m.consec < limit) && decide (limit ≤ satAdd 15 m.consec 1)

/-! ## The sample (R4, R11 to R21) -/

/-- The clamped edge count of a sample (R4). -/
def Meter.deltaE (m : Meter) : Int := clampInt (-32767) 32767 m.sampleAcc

/-- Whether a sample is clamped (R4). -/
def Meter.clamps (m : Meter) : Bool := decide (m.deltaE ≠ m.sampleAcc)

/-- R11: the rate of a sample of dE edges. -/
def rateOf (kx : Nat) (dE : Int) : Nat := min 9999 (dE.natAbs * 600000 / kx)

/-- R12: the flow band of a rate. -/
def bandOf (p : MeterParams) (r : Nat) : Nat :=
  (if p.b1 ≤ r then 1 else 0) + (if p.b2 ≤ r then 1 else 0) + (if p.b3 ≤ r then 1 else 0)

/-- R12: the correction of a band. -/
def correctionOf (p : MeterParams) (b : Nat) : Int :=
  match b with
  | 0 => p.c0
  | 1 => p.c1
  | 2 => p.c2
  | _ => p.c3

/-- A, A_c and N_micro are held to ±9,223,372,036,854,775,807 (R13, R15). -/
def holdAccumulator (z : Int) : Int := clampInt (-Config.maxAccumulator) Config.maxAccumulator z

/-- R13: the corrected accumulator after dE edges in band b. -/
def accumulate (p : MeterParams) (acc dE : Int) (b : Nat) : Int := holdAccumulator (acc + dE * (1000000 + correctionOf p b))

/-- R13: the cumulative gross of an accumulator, truncated toward zero. -/
def grossOf (p : MeterParams) (acc : Int) : Int := acc.tdiv (10 * (p.kx : Int))

/-- R14: the volume correction factor, truncated toward zero and clamped. -/
def vcf (alpha : Nat) (t10 : Int) : Int :=
  clampInt 950000 1050000 (1000000 - ((alpha : Int) * (t10 - Config.referenceT10)).tdiv 10)

/-- R14: the temperature a sample uses; 150 while the tank holds none. -/
def sampleT10 (held : Option Int) : Int := held.getD Config.referenceT10

/-- R19: the totalizer after a gross change, modulo 10^11. -/
def totalize (total : Nat) (dG : Int) : Nat := (((total : Int) + dG) % (Config.totalizerModulus : Int)).toNat

/-- The start of every sample: the accumulator taken, the rate and band found, and the miscount of a clamped sample (R4,
R8, R11, R12). While EPR is 0, a sample with an edge and no miscount sets the consecutive count to 0 (R8). -/
def Meter.takeSample (m : Meter) (metered : Bool) : Meter :=
  let r := rateOf m.params.kx m.deltaE
  let m1 := { m with sampleAcc := 0, rate := r, band := bandOf m.params r, edgeSeen := false }
  let m2 := if m.clamps then m1.miscount metered else m1
  let quiet := decide (m.params.epr = 0) && m.edgeSeen && !m2.missSeen
  { m2 with consec := if quiet then 0 else m2.consec, missSeen := false }

/-- The transaction path (R13 to R16, R18, R19) of a sample of dE edges, clamped or not, in the band already taken. -/
def Meter.txnPath (m : Meter) (dE : Int) (clamped : Bool) (alpha : Nat) (held : Option Int) (reverseLimit : Nat) : Meter :=
  let a := accumulate m.params m.accA dE m.band
  let g := grossOf m.params a
  let dG := g - m.gross
  let nm := holdAccumulator (m.accN + dG * vcf alpha (sampleT10 held))
  let rs := if dG < 0 then satAdd Config.maxVolume m.revSum dG.natAbs else m.revSum
  { m with
    accA := a
    gross := g
    accN := nm
    net := nm.tdiv 1000000
    revSum := rs
    revGiven := m.revGiven || decide (reverseLimit < rs)
    lastT10 := sampleT10 held
    totalizer := totalize m.totalizer dG
    flags :=
      { m.flags with
        overrange := m.flags.overrange || clamped
        reverseSeen := m.flags.reverseSeen || decide (dE < 0)
        tempAssumed := m.flags.tempAssumed || held.isNone } }

/-- The creep path (R20, R21) of a sample of dE edges. The condition, once present, stays until A_c is cleared (log 11). -/
def Meter.creepPath (m : Meter) (dE : Int) (creepLimit : Nat) : Meter :=
  let a := accumulate m.params m.creepAcc dE m.band
  let g := grossOf m.params a
  let dG := g - m.creepGross
  { m with
    creepAcc := a
    creepGross := g
    creepCond := m.creepCond || decide (creepLimit < g.natAbs)
    creepTotal := clampInt (-(Config.maxVolume : Int)) Config.maxVolume (m.creepTotal + dG)
    totalizer := totalize m.totalizer dG }

/-- The creep accumulator cleared, which makes the condition absent (R10, R21, R24). -/
def Meter.clearCreep (m : Meter) : Meter := { m with creepAcc := 0, creepGross := 0, creepCond := false }

/-- The opening values of an accepted OPEN_LANE (R10, R16). -/
def Meter.opening (m : Meter) (held : Option Int) : Meter :=
  { m.clearCreep with
    accA := 0, gross := 0, accN := 0, net := 0, revSum := 0, revGiven := false, txnMiscounts := 0, flags := .clear,
    lastT10 := sampleT10 held }

/-- The figures R17 writes into the context. -/
def Meter.figures (m : Meter) : CtxFigures :=
  { gross := m.gross, net := m.net, revSum := m.revSum, miscounts := m.txnMiscounts, lastT10 := m.lastT10, flags := m.flags }

/-- An accepted SET_METER (R24). -/
def Meter.recalibrate (m : Meter) (p : MeterParams) : Meter :=
  { (m.restartInterval false).clearCreep with params := p, consec := 0 }

end Sys2Proof.Machine
end

