-- ==== Sys2Proof/Machine/Tanks.lean ====
section
/-! DEFINITION. The tank stock unit's operations on one tank: gauge, gauged net, book, admission, trim, zones, loss watch
(R57 to R75). -/

namespace Sys2Proof.Machine

/-! ## Gauge samples (R57, R58) -/

/-- A valid gauge reading: level and T10 (R57). -/
structure GaugeReading where
  level : Nat
  t10 : Int
  deriving DecidableEq, Repr

/-- The reading of a head's reply, if all of R57's conditions hold: seven bytes, the check value, the validity flag and
the ranges. -/
def gaugeReading (reply : List Byte) : Option GaugeReading :=
  match reply with
  | [l2, l1, l0, t1, t0, status, check] =>
    let level := valueOf [l2, l1, l0]
    let t10 := signedOf [t1, t0]
    if check = l2 + l1 + l0 + t1 + t0 + status ∧ status.getLsbD 0 = true ∧ level ≤ 200000 ∧ -400 ≤ t10 ∧ t10 ≤ 800 then
      some { level := level, t10 := t10 }
    else none
  | _ => none

/-! ## Gauged net (R59, R60) -/

/-- R59: the strapping volume at a level, from the first point and the points after it. -/
def strapFrom (level : Nat) : Nat × Nat → List (Nat × Nat) → Nat
  | p, [] => p.2
  | p, q :: rest =>
    if level ≤ p.1 then p.2
    else if level ≤ q.1 then p.2 + (level - p.1) * (q.2 - p.2) / (q.1 - p.1)
    else strapFrom level q rest

/-- R59: the strapping volume at a level. -/
def strapVolume (points : List (Nat × Nat)) (level : Nat) : Nat :=
  match points with
  | [] => 0
  | p :: rest => strapFrom level p rest

/-- R59: whether a level lies above the table's last point. -/
def aboveTable (points : List (Nat × Nat)) (level : Nat) : Bool :=
  match points.getLast? with
  | none => false
  | some p => decide (p.1 < level)

/-- R60: the gauged net of a level and a temperature. -/
def gaugedNetOf (points : List (Nat × Nat)) (alpha : Nat) (level : Nat) (t10 : Int) : Nat :=
  strapVolume points level * (vcf alpha t10).toNat / 1000000

/-- The gauge part of a gauge sample (R57, R58, R83): a valid sample replaces the held values, an invalid one counts. -/
def TankUnit.takeReading (k : TankUnit) (r : Option GaugeReading) : TankUnit :=
  match r with
  | some g => { k with level := some g.level, t10 := some g.t10, invalid := 0, gaugeValid := true, drawnSince := 0 }
  | none =>
    let n := satAdd Config.staleCount k.invalid 1
    { k with invalid := n, gaugeValid := k.gaugeValid && decide (n < Config.staleCount) }

/-- The gauged net at a gauge sample, valid or not, on the held values (R59, R60). -/
def TankUnit.computeNet (k : TankUnit) : TankUnit :=
  match k.level, k.t10 with
  | some l, some t =>
    { k with gaugedNet := some (gaugedNetOf k.points k.alpha l t), overTable := aboveTable k.points l }
  | _, _ => k

/-! ## Book, draw list and admission (R62 to R65) -/

/-- The allocated sum (R64). -/
def allocated (ds : List Draw) : Nat := (ds.map (fun d => d.remaining)).sum

/-- The remaining of an allocation at a cumulative net (R64). -/
def remainingOf (alloc net : Int) : Nat := (alloc - net).toNat

/-- The stock available to an admission (R65); PRIORITY does not hold back the reserve. -/
def TankUnit.available (k : TankUnit) (priority : Bool) : Nat :=
  if priority then k.book - allocated k.draws else k.book - allocated k.draws - k.reserve

/-- R65: the volume admitted, if any. -/
def TankUnit.grant (k : TankUnit) (priority : Bool) (preset : Nat) : Option Nat :=
  let avail := k.available priority
  if preset ≤ avail then some preset else if k.cfg.minFill ≤ avail ∧ 0 < avail then some avail else none

/-- R62: the book lowered by a net change, or raised when it is negative; what does not fit goes to the shortage. -/
def TankUnit.deduct (k : TankUnit) (dN : Int) : TankUnit :=
  if dN < 0 then { k with book := satAdd Config.maxVolume k.book dN.natAbs }
  else if dN.toNat ≤ k.book then { k with book := k.book - dN.toNat }
  else { k with book := 0, shortage := satAdd Config.maxVolume k.shortage (dN.toNat - k.book) }

/-- The draw list with a lane's remaining recomputed at its cumulative net (R64). -/
def recompute (l : Lane) (net : Int) (ds : List Draw) : List Draw :=
  ds.map (fun d => if d.lane = l then { d with remaining := remainingOf d.alloc net } else d)

/-- The draw list without a lane's entry (R46, R64). -/
def removeDraw (l : Lane) (ds : List Draw) : List Draw := ds.filter (fun d => decide (d.lane ≠ l))

/-! ## Trim (R66) -/

/-- R66's cutting, over the entries from the youngest on: the entries after it, and each entry cut with its new
allocation. -/
def cutYoungest : List Draw → Nat → List Draw × List (Lane × Int)
  | [], _ => ([], [])
  | d :: rest, excess =>
    let cut := min d.remaining excess
    let tail := cutYoungest rest (excess - cut)
    if cut = 0 then (d :: tail.1, tail.2)
    else
      ({ d with alloc := d.alloc - cut, remaining := d.remaining - cut } :: tail.1, (d.lane, d.alloc - cut) :: tail.2)

/-- The trim check of a tank (R66): the draw list after it, and the entries cut, youngest first. -/
def trimDraws (book : Nat) (ds : List Draw) : List Draw × List (Lane × Int) :=
  if allocated ds ≤ book then (ds, [])
  else
    let r := cutYoungest ds.reverse (allocated ds - book)
    (r.1.reverse, r.2)

/-! ## Zones (R70, R71, R73) -/

/-- R70: the raw zone of a level. -/
def zoneOf (c : TankConfig) (level : Nat) : Zone :=
  if level ≤ c.lowLow then .lowLow
  else if level ≤ c.low then .low
  else if c.highHigh ≤ level then .highHigh
  else if c.high ≤ level then .high
  else .normal

/-- A run at a sample that reaches its zone or not (R70). -/
def runOf (reaches : Bool) (n : Nat) : Nat := if reaches then satAdd 255 n 1 else 0

/-- R70: the four runs after a valid sample. -/
def ZoneRuns.update (r : ZoneRuns) (c : TankConfig) (level : Nat) : ZoneRuns :=
  { lowLow := runOf (decide (level ≤ c.lowLow)) r.lowLow
    low := runOf (decide (level ≤ c.low)) r.low
    high := runOf (decide (c.high ≤ level)) r.high
    highHigh := runOf (decide (c.highHigh ≤ level)) r.highHigh }

/-- The side of NORMAL and the severity of a zone: negative below, positive above. -/
def Zone.rank : Zone → Int
  | .lowLow => -2
  | .low => -1
  | .normal => 0
  | .high => 1
  | .highHigh => 2

/-- The first two steps of R71: back toward NORMAL at once. -/
def relaxZone (raw z : Zone) : Zone :=
  if raw.rank * z.rank ≤ 0 then .normal else if raw.rank.natAbs < z.rank.natAbs then raw else z

/-- The third step of R71: the most severe zone on the raw zone's side, more severe than the debounced zone, that the
level reaches and whose run is at the count. -/
def confirmZone (count : Nat) (r : ZoneRuns) (raw z : Zone) : Zone :=
  match raw with
  | .lowLow => if count ≤ r.lowLow then .lowLow else if z = .normal ∧ count ≤ r.low then .low else z
  | .low => if z = .normal ∧ count ≤ r.low then .low else z
  | .normal => z
  | .high => if z = .normal ∧ count ≤ r.high then .high else z
  | .highHigh => if count ≤ r.highHigh then .highHigh else if z = .normal ∧ count ≤ r.high then .high else z

/-- The zone part of a valid gauge sample (R70, R71). -/
def TankUnit.updateZone (k : TankUnit) (level : Nat) : TankUnit :=
  let raw := zoneOf k.cfg level
  let runs := k.runs.update k.cfg level
  { k with runs := runs, rawZone := raw, zone := confirmZone k.cfg.zoneDebounce runs raw (relaxZone raw k.zone) }

/-- R73: the flags of the zones reached set, when the debounced zone has changed. -/
def TankUnit.latch (k : TankUnit) (before : Zone) : TankUnit :=
  if k.zone = before then k else { k with alarms := k.alarms.union k.zone.reached }

/-! ## Loss watch (R74, R75) -/

/-- Whether the loss watch runs; discharging says a delivery of the tank is FILLING or SETTLING (R74). -/
def TankUnit.watchRuns (k : TankUnit) (discharging : Bool) : Bool :=
  k.cfg.gaugeFitted && k.gaugeValid && decide (k.cfg.lossLimit ≠ 0) && !discharging

/-- The window restarted from the present uptime, gauged net and book; the condition becomes absent (R74, R75). -/
def TankUnit.restartWindow (k : TankUnit) (uptime : Nat) : TankUnit :=
  match k.gaugedNet with
  | some g => { k with window := some { start := uptime, g0 := g, b0 := k.book }, lossCond := false }
  | none => k

/-- The window discarded and the condition absent (R55, R61). -/
def TankUnit.discardWindow (k : TankUnit) : TankUnit := { k with window := none, lossCond := false }

/-- R75: the unmetered loss. -/
def lossOf (w : LossWindow) (g b : Nat) : Int := ((w.g0 : Int) - g) - ((w.b0 : Int) - b)

/-- The loss test of a gauge sample, before the window's restart (R74, R75): the tank whose condition is handed. A failed
condition discards the window; the condition keeps its value. At an invalid sample nothing is tested or restarted
(log 12). -/
def TankUnit.testLoss (k : TankUnit) (valid discharging : Bool) (uptime : Nat) : TankUnit :=
  if !k.watchRuns discharging then { k with window := none }
  else if !valid then k
  else
    match k.window, k.gaugedNet with
    | some w, some g => { k with lossCond := decide ((k.cfg.lossLimit : Int) < lossOf w g k.book), lastLoss := some (lossOf w g k.book) }
    | none, some _ => { k.restartWindow uptime with lastLoss := some 0 }
    | _, none => k

/-- The restart of a window whose age has reached its length, after the condition has been handed (R74, R75). -/
def TankUnit.ageWindow (k : TankUnit) (valid : Bool) (uptime : Nat) : TankUnit :=
  match k.window with
  | none => k
  | some w => if valid ∧ w.start + k.cfg.lossWindow ≤ uptime then k.restartWindow uptime else k

/-- The conditions handed to the spill unit at a gauge sample (R72, R75, R77). -/
def TankUnit.hand (k : TankUnit) : TankUnit := { k with lossHanded := k.lossCond, overfillHanded := decide (k.zone = .highHigh) }

end Sys2Proof.Machine
end

