-- ==== Sys2Proof/Machine/Deliveries.lean ====
section
/-! DEFINITION. The delivery unit's operations: finding and changing entries, dispensed during, settling, reconciliation
(R78 to R90). -/

namespace Sys2Proof.Machine

/-- The active states (R78). -/
def DeliveryState.active : DeliveryState → Bool
  | .announced => true
  | .filling => true
  | .settling => true
  | _ => false

/-- Whether an entry is FILLING or SETTLING: a discharge in progress. -/
def DeliveryState.discharging : DeliveryState → Bool
  | .filling => true
  | .settling => true
  | _ => false

/-- The entry that carries a number (R79). -/
def findDelivery (es : List DeliveryEntry) (n : Nat) : Option DeliveryEntry := es.find? (fun e => decide (e.number = n))

/-- Whether a tank has a delivery FILLING or SETTLING. -/
def State.discharging (s : State) (t : Tank) : Bool :=
  s.deliveries.entries.any (fun e => decide (e.tank = t) && e.state.discharging)

/-- Whether a tank has a delivery in an active state (R76, R80). -/
def State.hasActiveDelivery (s : State) (t : Tank) : Bool :=
  s.deliveries.entries.any (fun e => decide (e.tank = t) && e.state.active)

/-- The entries that satisfy p changed by f. -/
def mapDeliveries (p : DeliveryEntry → Bool) (f : DeliveryEntry → DeliveryEntry) (s : State) : State :=
  { s with deliveries := { s.deliveries with entries := s.deliveries.entries.map (fun e => if p e then f e else e) } }

/-- Whether an entry carries a number. -/
def DeliveryEntry.numbered (n : Nat) (e : DeliveryEntry) : Bool := decide (e.number = n)

/-- An entry's CLOCK_UNSET after a stamp taken now (R78). -/
def DeliveryEntry.stamped (e : DeliveryEntry) (unset : Bool) : DeliveryEntry :=
  { e with flags := { e.flags with clockUnset := e.flags.clockUnset || unset } }

/-- An entry in a terminal state with its complete time; its timer and count stop (R81, R87 to R89). -/
def DeliveryEntry.finish (e : DeliveryEntry) (st : DeliveryState) (stamp : Nat × Bool) : DeliveryEntry :=
  { e.stamped stamp.2 with state := st, completeTime := some stamp.1, timer := none, waited := none }

/-- An entry that leaves FILLING for SETTLING: end time taken, settle timer started (R85 to R87). -/
def DeliveryEntry.startSettling (e : DeliveryEntry) (interrupted : Bool) (stamp : Nat × Bool) : DeliveryEntry :=
  let e1 := e.stamped stamp.2
  { e1 with
    state := .settling, endTime := some stamp.1, timer := e.conf.map (fun c => c.settle), waited := none
    flags := { e1.flags with interrupted := e1.flags.interrupted || interrupted } }

/-- The INLET output of a tank. -/
def State.setInlet (s : State) (t : Tank) (on : Bool) : State := s.setTank t { s.tank t with inlet := on }

/-- The discharge into a tank ends: the inlet is released and its FILLING entry enters SETTLING (R85, R86). -/
def endDischarge (t : Tank) (interrupted : Bool) (s : State) : State :=
  (mapDeliveries (fun e => decide (e.tank = t) && decide (e.state = .filling))
    (fun e => e.startSettling interrupted s.stamp) s).setInlet t false

/-- The sum of drawn volumes, held to ±2,000,000,000 (R78, R83, R88). -/
def holdVolume (z : Int) : Int := clampInt (-(Config.maxVolume : Int)) Config.maxVolume z

/-- A ΔN of the tank's lanes reaches its entry's dispensed during (R83). -/
def DeliveryEntry.dispense (dN : Int) (e : DeliveryEntry) : DeliveryEntry :=
  { e with conf := e.conf.map (fun c => { c with dispensed := holdVolume (c.dispensed + dN) }) }

/-- The delivery unit's part of a ΔN passed from a lane of tank t (R83). -/
def countDrawn (t : Tank) (dN : Int) (s : State) : State :=
  let k := s.tank t
  mapDeliveries (fun e => decide (e.tank = t) && e.state.discharging) (DeliveryEntry.dispense dN)
    (s.setTank t { k with drawnSince := holdVolume (k.drawnSince + dN) })

/-! ## Reconciliation (R88) -/

/-- R88: received, from the opening, the closing and dispensed during. -/
def receivedOf (c : Confirmation) (closing : Nat) : Int := holdVolume ((closing : Int) - c.opening + c.dispensed)

/-- R88: the tolerance of a docket. -/
def toleranceOf (c : Confirmation) (docket : Nat) : Nat := max c.fixedTol (docket * c.propTol / 1000000)

/-- R88's outcome: the state a reconciled entry takes. -/
def outcomeOf (received variance : Int) (tolerance : Nat) : DeliveryState :=
  if received < 0 then .disputed else if variance.natAbs ≤ tolerance then .complete else .disputed

/-- The entry reconciled at a closing gauged net (R88); book is the tank's book before the raise, which saturates when the
receipt would carry it past the limit (log 29). -/
def DeliveryEntry.reconcile (e : DeliveryEntry) (closing : Nat) (above : Bool) (book : Nat) (stamp : Nat × Bool) : DeliveryEntry :=
  match e.conf with
  | none => e
  | some c =>
    let r := receivedOf c closing
    let v := holdVolume (r - e.docket)
    let e1 := e.finish (outcomeOf r v (toleranceOf c e.docket)) stamp
    { e1 with
      closing := some closing, received := some r, variance := some v
      flags :=
        { e1.flags with
          negative := e1.flags.negative || decide (r < 0)
          overTable := e1.flags.overTable || above
          bookSaturated := e1.flags.bookSaturated || (decide (0 ≤ r) && decide ((Config.maxVolume : Int) < book + r)) } }

/-- The book after a receipt: raised when received is not negative (R62, R88). -/
def receiveInto (book : Nat) (received : Int) : Nat := if 0 ≤ received then satAdd Config.maxVolume book received.toNat else book

/-- Whether an entry waits for its closing gauge (R87). -/
def DeliveryEntry.waits (t : Tank) (e : DeliveryEntry) : Bool :=
  decide (e.tank = t) && decide (e.state = .settling) && e.waited.isSome

/-- The closing gauge at a valid sample of the tank (R87, R88): the waiting entry is reconciled, the book raised, DELIVERY
posted. -/
def closingGauge (t : Tank) (s : State) : State :=
  match s.deliveries.entries.find? (DeliveryEntry.waits t), (s.tank t).gaugedNet with
  | some e, some g =>
    match e.conf with
    | none => s
    | some c =>
      let k := s.tank t
      let s1 := mapDeliveries (DeliveryEntry.waits t) (fun e => e.reconcile g k.overTable k.book s.stamp) s
      post .delivery (s1.setTank t { k with book := receiveInto k.book (receivedOf c g) })
  | _, _ => s

/-- An invalid sample while an entry waits (R87): the count of samples waited rises; at 10 the entry is ABANDONED. -/
def DeliveryEntry.waitOn (stamp : Nat × Bool) (e : DeliveryEntry) : DeliveryEntry :=
  let n := (e.waited.getD 0) + 1
  if n < Config.staleCount then { e with waited := some n }
  else
    let e1 := e.finish .abandoned stamp
    { e1 with flags := { e1.flags with staleEnd := true } }

/-- Whether the next invalid sample abandons the entry that waits (R87). -/
def DeliveryEntry.lastWait (t : Tank) (e : DeliveryEntry) : Bool :=
  e.waits t && decide (Config.staleCount ≤ e.waited.getD 0 + 1)

/-- The delivery unit's part of an invalid sample (R87, R89). -/
def missedGauge (t : Tank) (s : State) : State :=
  postIf (s.deliveries.entries.any (DeliveryEntry.lastWait t)) .delivery
    (mapDeliveries (DeliveryEntry.waits t) (DeliveryEntry.waitOn s.stamp) s)

/-- R90: an active entry at start-up becomes ABANDONED with START_UP. -/
def DeliveryEntry.abandonAtStartUp (stamp : Nat × Bool) (e : DeliveryEntry) : DeliveryEntry :=
  if e.state.active then
    let e1 := e.finish .abandoned stamp
    { e1 with flags := { e1.flags with startUp := true } }
  else e

end Sys2Proof.Machine
end

