-- ==== Sys2Proof/Machine/Orders.lean ====
section
/-! DEFINITION. The order list's operations: numbering, deadlines, claim and settlement (R114 to R121). -/

namespace Sys2Proof.Machine

/-- The number after n in a run from 1 to top; 0 is never given (R79, R115, R131). -/
def nextNumber (top n : Nat) : Nat := if n < top then n + 1 else 1

/-- The first number from n on that is not in use, trying at most fuel numbers (R79, R115). -/
def freeNumber (inUse : Nat → Bool) : Nat → Nat → Nat
  | 0, n => n
  | fuel + 1, n => if inUse n then freeNumber inUse fuel (nextNumber 65535 n) else n

/-- The deadline of an order: none when its expiry is 0 (R116). -/
def Order.deadline (o : Order) : Option Nat := if o.expiry = 0 then none else some (o.placedAt + o.expiry)

/-- Whether the uptime has reached an order's deadline (R117, R121). -/
def Order.overdue (o : Order) (uptime : Nat) : Bool :=
  match o.deadline with
  | none => false
  | some d => decide (d ≤ uptime)

/-- The order that carries a number. -/
def findOrder (os : List Order) (n : Nat) : Option Order := os.find? (fun o => decide (o.number = n))

/-- The list without the order that carries a number; the others keep their order (R114). -/
def removeOrder (n : Nat) (os : List Order) : List Order := os.filter (fun o => decide (o.number ≠ n))

/-- The order claimed by a lane (R119). -/
def claimOrder (n : Nat) (l : Lane) (os : List Order) : List Order :=
  os.map (fun o => if o.number = n then { o with claimedBy := some l } else o)

/-- The order back in PENDING, in its place (R121). -/
def returnOrder (n : Nat) (os : List Order) : List Order :=
  os.map (fun o => if o.number = n then { o with claimedBy := none } else o)

/-- The settlement of a claimed order at a close (R120, R121): fulfilled when N is above 0, else returned, or expired if
the uptime has reached its deadline. -/
def settleOrder (n : Nat) (net : Int) (uptime : Nat) (os : List Order) : List Order :=
  if 0 < net then removeOrder n os
  else
    match findOrder os n with
    | some o => if o.overdue uptime then removeOrder n os else returnOrder n os
    | none => os

/-- The order list's part of a close (R120, R121): ORDER is posted once. A transaction that claimed no order does not
reach the list. -/
def closeOrder (n : Nat) (net : Int) (s : State) : State :=
  if n = 0 then s
  else post .order { s with orders := { s.orders with orders := settleOrder n net s.time.uptime s.orders.orders } }

end Sys2Proof.Machine
end

