-- ==== Sys2Proof/Machine/Records.lean ====
section
/-! DEFINITION. The record queue's operations: reservation, drop, filing, release (R126 to R139). -/

namespace Sys2Proof.Machine

/-- Completed records plus reservations (R126). -/
def RecordQueue.occupancy (q : RecordQueue) : Nat := q.completed.length + setCount q.reserved

/-- The free count (R126). -/
def RecordQueue.free (q : RecordQueue) : Nat := Config.recordSlots - q.occupancy

/-- The oldest completed record dropped (R129). -/
def RecordQueue.drop (q : RecordQueue) : RecordQueue :=
  { q with completed := q.completed.tail, dropped := satAdd 255 q.dropped 1 }

/-- A reservation for a lane at an accepted OPEN_LANE; a full queue first drops its oldest record (R128). Step 10 has
already refused a full queue under HOLD. -/
def RecordQueue.reserve (q : RecordQueue) (l : Lane) : RecordQueue :=
  let q' := if q.free = 0 then q.drop else q
  { q' with reserved := q'.reserved ||| bit8 l }

/-- A lane's reservation becomes a completed record with the next record number (R130, R131). -/
def RecordQueue.file (q : RecordQueue) (r : Record) : RecordQueue :=
  { q with
    completed := q.completed ++ [{ r with number := q.next }]
    reserved := q.reserved &&& ~~~(bit8 r.lane)
    next := nextNumber Config.max32 q.next }

/-- Whether a filing posts RECORDS: the count passes to the threshold (R136). -/
def RecordQueue.reachesThreshold (q : RecordQueue) : Bool :=
  decide (q.completed.length < q.threshold) && decide (q.threshold ≤ q.completed.length + 1)

/-- The filing of a close, with RECORDS when the count reaches the threshold (R130, R136). -/
def fileRecord (r : Record) (s : State) : State :=
  postIf s.records.reachesThreshold .records { s with records := s.records.file r }

/-- The completed records after those from the oldest through the one numbered n are removed, if one carries n (R139). -/
def releaseThrough (n : Nat) : List Record → Option (List Record)
  | [] => none
  | r :: rest => if r.number = n then some rest else releaseThrough n rest

end Sys2Proof.Machine
end

