-- ==== Sys2Proof/Machine/Lanes.lean ====
section
/-! DEFINITION. The lane controller's operations and what hangs on them: the close, the ends of a transaction, faults, the
tank pump, booking a sample and the trim (R28 to R51, R62 to R69). -/

namespace Sys2Proof.Machine

/-! ## Valves and states (R29) -/

/-- A lane out of DELIVERING: valves released, stage absent (R29). -/
def LaneUnit.shut (u : LaneUnit) : LaneUnit := { u with vlo := false, vhi := false, stage := none, noFlowTimer := none }

/-- A lane in a stage of DELIVERING, its valves as R29 drives them; the context holds the stage (R40, R53). -/
def LaneUnit.inStage (u : LaneUnit) (st : Stage) : LaneUnit :=
  { u with
    state := .delivering, stage := some st, vlo := true, vhi := decide (st = .high)
    ctx := u.ctx.map (fun c => { c with stageAtEnd := some st }) }

/-- R36: the entry to DELIVERING in LOW_START; the authorization timer stops and the no-flow timer starts. -/
def LaneUnit.deliver (u : LaneUnit) : LaneUnit :=
  { u.inStage .lowStart with authTimer := none, noFlowTimer := some u.cfg.noFlowTime }

/-- A transaction's end reason set (R43, R48). -/
def LaneUnit.setReason (u : LaneUnit) (r : EndReason) : LaneUnit :=
  { u with ctx := u.ctx.map (fun c => { c with endReason := some r }) }

/-- R43, R45: DELIVERING to SETTLING: valves closed, settle timer and its cap started. -/
def LaneUnit.settle (u : LaneUnit) (r : EndReason) : LaneUnit :=
  { (u.shut.setReason r) with
    state := .settling, settleTimer := some u.cfg.settleTime, settleCap := some (3 * u.cfg.settleTime) }

/-! ## The tank pump (R68, R69) -/

/-- Whether a lane is in its tank's pump demand (R68). -/
def LaneUnit.demands (u : LaneUnit) (t : Tank) : Bool :=
  decide (u.cfg.tank = t) && (decide (u.state = .starting) || decide (u.state = .delivering))

/-- Whether a tank's pump demand is not empty. -/
def State.pumpDemand (s : State) (t : Tank) : Bool := allEight.any (fun l => (s.lane l).demands t)

/-- The pump in a state, PUMP_RUN following it (R68), with its timer. -/
def TankUnit.setPump (k : TankUnit) (p : PumpState) (timer : Timer) : TankUnit :=
  { k with pump := p, pumpRun := decide (p ≠ .stopped), pumpTimer := timer }

/-- R68, last row: the pump stops when its demand becomes empty. -/
def dropDemand (t : Tank) (s : State) : State :=
  if s.pumpDemand t then s else s.setTank t ((s.tank t).setPump .stopped none)

/-- R36: a lane of the tank in STARTING enters DELIVERING; any other ignores the report. -/
def LaneUnit.hearRunning (u : LaneUnit) (t : Tank) : LaneUnit :=
  if u.cfg.tank = t ∧ u.state = .starting then u.deliver else u

/-- R36, R68: the pump enters RUNNING and reports it to the tank's lanes. -/
def pumpRunning (t : Tank) (s : State) : State :=
  { s.setTank t ((s.tank t).setPump .running none) with lanes := s.lanes.map (fun u => u.hearRunning t) }

/-- R68: a lane that has entered STARTING joins its tank's demand. -/
def joinDemand (l : Lane) (s : State) : State :=
  let t := (s.lane l).cfg.tank
  match (s.tank t).pump with
  | .running => s.setLane l (s.lane l).deliver
  | .starting => s
  | .stopped =>
    if (s.tank t).rdy.level then pumpRunning t s
    else s.setTank t ((s.tank t).setPump .starting (some Config.pumpTimeout))

/-- R35: HOOK asserted on an AUTHORIZED lane: STARTING, the consecutive-miscount count 0 (R8), the pump demanded. -/
def startLane (l : Lane) (s : State) : State :=
  let u := s.lane l
  joinDemand l (s.setLane l { u with state := .starting, meter := { u.meter with consec := 0 } })

/-! ## The close (R46, R47, R51) -/

/-- The account booking of a close (R103 to R107), and whether the record carries SERVICE. -/
def closeBooking (c : Context) (t : Tank) (net : Int) (s : State) : State × Bool :=
  match findAccount s.accounts.slots c.tag with
  | none => (s, false)
  | some (i, a) =>
    let clock := if s.time.isSet then some s.time.clock else none
    let b := bookClose a (s.accounts.classes.get a.cls).ceiling t (s.tank t).cfg.cls net c.hours clock
    (postIf b.alarm .account { s with accounts := { s.accounts with slots := putSlot i b.account s.accounts.slots } }, b.service)

/-- The record of a close (R46, R132): the number is given at filing. -/
def closeRecord (l : Lane) (u : LaneUnit) (c : Context) (service : Bool) (s : State) : Record :=
  { number := 0, lane := l, tank := u.cfg.tank, endReason := c.endReason.getD .stopped,
    flags := recordFlags c.flags u.meter.flags service s.stamp.2, order := c.order, tag := c.tag, startTime := c.startTime,
    endTime := s.stamp.1, hours := c.hours, preset := c.effPreset, gross := u.meter.gross, net := u.meter.net,
    overrun := (u.meter.net - c.effPreset).toNat, lastT10 := u.meter.lastT10, totalizer := u.meter.totalizer,
    calChanges := s.cal.changes, miscounts := u.meter.txnMiscounts, stageAtEnd := c.stageAtEnd }

/-- One event counter at a close (R51): it rises when its condition was met, saturating at 15. -/
def countUp (met : Bool) (n : Nat) : Nat := if met then satAdd 15 n 1 else n

/-- The event counters after a close (R51). -/
def LaneCounters.atClose (k : LaneCounters) (c : Context) (m : MeterFlags) : LaneCounters :=
  { miscount := countUp m.miscountSeen k.miscount, reverse := countUp m.reverseSeen k.reverse,
    overrun := countUp c.overrunTaken k.overrun, trimmed := countUp c.flags.trimmed k.trimmed }

/-- Whether a rise brings a counter to 15 (R51). -/
def counterFills (met : Bool) (n : Nat) : Bool := met && decide (n = 14)

/-- Whether a close posts COUNTER (R51). -/
def LaneCounters.posts (k : LaneCounters) (c : Context) (m : MeterFlags) : Bool :=
  counterFills m.miscountSeen k.miscount || counterFills m.reverseSeen k.reverse || counterFills c.overrunTaken k.overrun
    || counterFills c.flags.trimmed k.trimmed

/-- The lane after its close (R46, R47): context cleared, timers stopped, DISABLED on a fault or a pending disable. -/
def LaneUnit.afterClose (u : LaneUnit) (c : Context) : LaneUnit :=
  let off := u.pendingDisable || c.faultTaken
  { u.shut with
    state := if off then .disabled else .idle
    pendingDisable := if off then false else u.pendingDisable
    counters := u.counters.atClose c u.meter.flags
    authTimer := none, settleTimer := none, settleCap := none, ctx := none }

/-- The close of a lane's transaction (R46, R47, R51): account, order, draw list, record, counters, context, LANE_END, and
the pump demand it leaves (R68). -/
def closeLane (l : Lane) (s : State) : State :=
  let u := s.lane l
  match u.ctx with
  | none => s
  | some c =>
    let t := u.cfg.tank
    let b := closeBooking c t u.meter.net s
    let s1 := closeOrder c.order u.meter.net b.1
    let s2 := s1.setTank t { s1.tank t with draws := removeDraw l (s1.tank t).draws }
    let s3 := fileRecord (closeRecord l u c b.2 s) s2
    let s4 := postIf (u.counters.posts c u.meter.flags) .counter s3
    dropDemand t (post .laneEnd (s4.setLane l (u.afterClose c)))

/-! ## Ends of a transaction (R38, R43) -/

/-- An event that ends a transaction (R38, R43): AUTHORIZED and STARTING close at once, DELIVERING settles; in any other
state it has no effect. -/
def endLane (l : Lane) (r : EndReason) (s : State) : State :=
  let u := s.lane l
  match u.state with
  | .authorized => closeLane l (s.setLane l { u.setReason r with state := .settling })
  | .starting => closeLane l (s.setLane l { u.setReason r with state := .settling })
  | .delivering => dropDemand u.cfg.tank (s.setLane l (u.settle r))
  | _ => s

/-- Each named lane ended in lane order (R72, R151; log 10). -/
def endLanes (ls : LaneSet) (r : EndReason) (s : State) : State :=
  allEight.foldl (fun s l => if inSet ls l then endLane l r s else s) s

/-- The lanes bound to a tank. -/
def State.lanesOf (s : State) (t : Tank) : LaneSet := setOf (fun l => decide ((s.lane l).cfg.tank = t))

/-- The lanes whose state satisfies p. -/
def State.lanesIn (s : State) (p : LaneState → Bool) : LaneSet := setOf (fun l => p (s.lane l).state)

/-! ## Faults (R48, R49) -/

/-- The context marks of a fault taken (R47, R51). -/
def Context.markFault (f : LaneFault) (c : Context) : Context :=
  { c with faultTaken := true, overrunTaken := c.overrunTaken || decide (f = .overrun) }

/-- A fault taken by a lane in the metered phase (R48): the cause is held, LANE_FAULT posted, and the reason set. -/
def takeFault (l : Lane) (f : LaneFault) (s : State) : State :=
  let u := s.lane l
  if u.state.metered then
    let u1 := { u with held := u.held.add f, ctx := u.ctx.map (Context.markFault f) }
    let s1 := post .laneFault (s.setLane l u1)
    match u.state with
    | .settling => s1.setLane l (u1.setReason f.reason)
    | _ => endLane l f.reason s1
  else s

/-- A fault indication handed when c holds. -/
def faultIf (c : Bool) (l : Lane) (f : LaneFault) (s : State) : State := if c then takeFault l f s else s

/-- A miscount event between samples (R8), with the METER indication when it brings the count to the limit (R9). -/
def miscountEvent (l : Lane) (s : State) : State :=
  let u := s.lane l
  faultIf (u.state.metered && u.meter.reachesLimit u.cfg.miscountLimit) l .meter
    (s.setLane l { u with meter := u.meter.miscount u.state.metered })

/-! ## Stage and preset (R39 to R41, R44) -/

/-- R40: the stage after an evaluation at cumulative net n. -/
def nextStage (cfg : LaneConfig) (eff n : Int) : Stage → Stage
  | .lowStart =>
    if (cfg.slowStart : Int) ≤ n then
      if eff < (cfg.slowStart : Int) + cfg.slowdown ∨ eff - cfg.slowdown ≤ n then .lowEnd else .high
    else .lowStart
  | .high => if eff - cfg.slowdown ≤ n then .lowEnd else .high
  | .lowEnd => .lowEnd

/-- R40: a DELIVERING lane evaluates its stage. -/
def evaluateStage (l : Lane) (s : State) : State :=
  let u := s.lane l
  match u.state, u.stage, u.ctx with
  | .delivering, some st, some c => s.setLane l (u.inStage (nextStage u.cfg c.effPreset u.meter.net st))
  | _, _, _ => s

/-- R41: the preset test of a DELIVERING lane at a sample report, and else R40. -/
def testPreset (l : Lane) (s : State) : State :=
  let u := s.lane l
  match u.state, u.ctx with
  | .delivering, some c => if c.effPreset ≤ u.meter.net then endLane l .preset s else evaluateStage l s
  | _, _ => s

/-- R39, R44: a context whose allocation has been cut. -/
def Context.trim (alloc : Int) (c : Context) : Context :=
  { c with effPreset := min (c.preset : Int) alloc, flags := { c.flags with trimmed := true } }

/-- R44: a lane whose allocation has been cut to alloc. -/
def allocationCut (l : Lane) (alloc : Int) (s : State) : State :=
  let u := s.lane l
  match u.ctx with
  | none => s
  | some c =>
    let s1 := s.setLane l { u with ctx := some (c.trim alloc) }
    if (c.trim alloc).effPreset ≤ u.meter.net then endLane l .preset s1 else evaluateStage l s1

/-- The trim check of a tank (R66), each cut reported to its lane (R67), youngest first. -/
def trimTank (t : Tank) (s : State) : State :=
  let k := s.tank t
  let r := trimDraws k.book k.draws
  r.2.foldl (fun s c => allocationCut c.1 c.2 s) (s.setTank t { k with draws := r.1 })

/-- R62, R64, R83: a ΔN that lane l passes for its tank: the delivery unit's counts, the book, the lane's remaining, and
the trim check. -/
def bookDraw (l : Lane) (dN : Int) (s : State) : State :=
  let t := (s.lane l).cfg.tank
  let s1 := countDrawn t dN s
  let k := (s1.tank t).deduct dN
  trimTank t (s1.setTank t { k with draws := recompute l (s.lane l).meter.net k.draws })

/-- R45: the OVERRUN fault at the first sample of the transaction whose overrun exceeds the limit. -/
def testOverrun (l : Lane) (s : State) : State :=
  let u := s.lane l
  match u.ctx with
  | none => s
  | some c =>
    faultIf (u.state.metered && !c.overrunTaken && decide ((u.cfg.overrunLimit : Int) < u.meter.net - c.effPreset)) l .overrun s

end Sys2Proof.Machine
end

