-- ==== Sys2Proof/Machine/Spill.lean ====
section
/-! DEFINITION. The spill shutdown unit's operations: samples of a source, trips, blocking, the trip list, the capture
(R142 to R158). -/

namespace Sys2Proof.Machine

/-! ## Blocking (R150) -/

/-- Whether a source blocks a lane: it is TRIPPED and its lane set names it (R150). -/
def Source.blocksLane (x : Source) (l : Lane) : Bool := x.isTripped && inSet x.lanes l

/-- Whether a source blocks an inlet (R150). -/
def Source.blocksInlet (x : Source) (t : Tank) : Bool := x.isTripped && inSet x.inlets t

/-- Whether a lane is blocked (R150). -/
def State.laneBlocked (s : State) (l : Lane) : Bool := allSources.any (fun i => (s.source i).blocksLane l)

/-- Whether an inlet is blocked (R150). -/
def State.inletBlocked (s : State) (t : Tank) : Bool := allSources.any (fun i => (s.source i).blocksInlet t)

/-! ## Evaluation (R145, R146, R149) -/

/-- Whether a source's debounced condition is present (R145). -/
def Source.debounced (x : Source) : Bool := x.enabled && decide (x.debounce ≤ x.run)

/-- Whether a sample taken now is evaluated (R145, R149). -/
def Source.evaluates (x : Source) : Bool := x.enabled && decide (x.blanking = 0)

/-- A source after one of its samples (R144, R145, R149). -/
def Source.sample (x : Source) (cond : Bool) : Source :=
  if x.evaluates then { x with lastCond := cond, run := if cond then satAdd 255 x.run 1 else 0 }
  else { x with lastCond := cond, run := 0, blanking := x.blanking - 1 }

/-- Whether a sample makes the debounced condition rise (R145). -/
def Source.rises (x : Source) (cond : Bool) : Bool :=
  x.evaluates && decide (x.run < x.debounce) && decide (x.debounce ≤ (x.sample cond).run)

/-- Blanking starts: the run 0 and the count 4 (R149). -/
def Source.blank (x : Source) : Source := { x with run := 0, blanking := Config.blankingCount }

/-- Blanking of a source started when c holds (R149). -/
def blankIf (c : Bool) (i : SourceId) (s : State) : State := if c then s.setSource i (s.source i).blank else s

/-! ## The effect of a block on lanes and inlets (R151) -/

/-- The inlets of a set closed: a FILLING delivery is interrupted and its inlet released (R86, R151). -/
def blockInlets (ts : TankSet) (s : State) : State :=
  allEight.foldl (fun s t => if inSet ts t then endDischarge t true s else s) s

/-- Lanes and inlets that have become blocked act on their own state (R151). -/
def blockAll (ls : LaneSet) (ts : TankSet) (s : State) : State := blockInlets ts (endLanes ls .spill s)

/-! ## Trips (R147, R155, R157) -/

/-- The lane states that a trip ends (R151). -/
def LaneState.endedByTrip : LaneState → Bool
  | .authorized => true
  | .starting => true
  | .delivering => true
  | _ => false

/-- The snapshot of a capture, as the bay stands when the trip is taken (R157). -/
def State.snapshot (s : State) (number : Nat) : CaptureData :=
  { tripNumber := number, m := s.spill.captureCount, rates := s.lanes.map (fun u => u.meter.rate),
    states := s.lanes.map (fun u => u.state), levels := s.tanks.map (fun k => k.level), samples := [] }

/-- The capture buffer after a trip (R157). -/
def startCapture (c : CaptureData) (b : Capture) : Capture :=
  match b with
  | .empty => if c.m = 0 then .full c else .filling c
  | _ => b

/-- The capture's sample timer after a trip (R157): it starts with a capture that is to take samples. -/
def captureTimerAfter (c : CaptureData) (b : Capture) (t : Timer) : Timer :=
  match b with
  | .empty => if c.m = 0 then t else some Config.samplePeriod
  | _ => t

/-- The entry of a trip (R151, R155). -/
def State.tripEntry (s : State) (i : SourceId) : TripEntry :=
  { number := s.spill.nextTrip, source := i, time := s.stamp.1, clockUnset := s.stamp.2,
    lanesEnded := (s.source i).lanes &&& s.lanesIn LaneState.endedByTrip,
    inletsClosed := (s.source i).inlets &&& setOf (fun t => (s.tank t).inlet),
    captured := decide (s.spill.capture = .empty) }

/-- An entry joins the trip list; a full list loses its oldest (R155). -/
def addTrip (e : TripEntry) (u : SpillUnit) : SpillUnit :=
  { u with
    trips := (if u.trips.length < Config.tripPlaces then u.trips else u.trips.tail) ++ [e]
    tripsDropped := if u.trips.length < Config.tripPlaces then u.tripsDropped else satAdd 255 u.tripsDropped 1
    nextTrip := satAdd Config.max32 u.nextTrip 1 }

/-- A source TRIPPED, its trip count raised (R147). -/
def Source.trip (x : Source) : Source := { x with isTripped := true, tripCount := satAdd 255 x.tripCount 1 }

/-- A trip (R147): the source TRIPPED, the entry and the capture from the bay as it stood, the mapped lanes and inlets
acting, TRIP posted. -/
def tripSource (i : SourceId) (s : State) : State :=
  let x := s.source i
  let e := s.tripEntry i
  let u := addTrip e s.spill
  let s1 := { s with
    spill :=
      { u with
        sources := u.sources.set i x.trip
        capture := startCapture (s.snapshot s.spill.nextTrip) s.spill.capture
        captureTimer := captureTimerAfter (s.snapshot s.spill.nextTrip) s.spill.capture s.spill.captureTimer } }
  post .trip (blockAll x.lanes x.inlets s1)

/-- A rise of a source's debounced condition, or a creep trigger (R146, R147): a CLEAR source trips, and a TRIPPED one
counts. -/
def riseSource (i : SourceId) (s : State) : State :=
  let x := s.source i
  if x.isTripped then s.setSource i { x with tripCount := satAdd 255 x.tripCount 1 } else tripSource i s

/-- A source takes a sample (R144, R145). -/
def sampleSource (i : SourceId) (cond : Bool) (s : State) : State :=
  let x := s.source i
  let s1 := s.setSource i (x.sample cond)
  if x.rises cond then riseSource i s1 else s1

/-- The creep trigger of a HOSE source at an evaluated sample (R146). -/
def creepTrigger (l : Lane) (creep : Bool) (s : State) : State :=
  let x := s.source (.hose l)
  let s1 := s.setSource (.hose l) { x with creepTaken := creep }
  if creep && !x.creepTaken then riseSource (.hose l) s1 else s1

/-- HOSE Ln takes a sample with the lane's rate and creep condition (R144, R146): the rate test, then, at an evaluated
sample, the creep trigger. -/
def sampleHose (l : Lane) (s : State) : State :=
  let u := s.lane l
  let x := s.source (.hose l)
  let s1 := sampleSource (.hose l) (decide (x.hoseLimit < u.meter.rate)) s
  if x.evaluates then creepTrigger l u.meter.creepCond s1 else s1

/-! ## Re-arm (R153) -/

/-- Whether a TRIPPED source may be re-armed (R153). -/
def Source.rearmable (x : Source) : Bool := decide (x.blanking = 0) && !x.debounced

/-- R154: a source judged by REARM ALL. -/
def Source.judgeRearm (x : Source) : Source := if x.isTripped && x.rearmable then { x with isTripped := false } else x

/-- The sources that are TRIPPED, in index order. -/
def State.trippedSources (s : State) : List SourceId := allSources.filter (fun i => (s.source i).isTripped)

/-- The trips after those from the oldest through the oldest that carries n are removed, if one carries n (R156). -/
def tripsAfter (n : Nat) : List TripEntry → Option (List TripEntry)
  | [] => none
  | e :: rest => if e.number = n then some rest else tripsAfter n rest

/-! ## The capture's samples (R157) -/

/-- A post-trip sample of the values held now (R157). -/
def State.postSample (s : State) : PostSample :=
  { levels := s.tanks.map (fun k => k.level), rateSum := ((s.lanes.map (fun u => u.meter.rate)).toList).sum }

/-- The capture buffer at an expiry of its sample timer (R157): FULL at the M-th sample. -/
def Capture.addSample (p : PostSample) : Capture → Capture
  | .filling c =>
    let c' := { c with samples := c.samples ++ [p] }
    if c'.samples.length < c.m then .filling c' else .full c'
  | b => b

/-- The sample timer of a capture after its expiry (R157): it runs on while the buffer is FILLING and stops when it is FULL. -/
def Capture.timer : Capture → Timer
  | .filling _ => some Config.samplePeriod
  | _ => none

end Sys2Proof.Machine
end

