-- ==== Sys2Proof/Machine/AccountCommands.lean ====
section
/-! DEFINITION. The account table's requests (R96 to R100, R110 to R112). -/

namespace Sys2Proof.Machine

/-- The values of ENROL_MACHINE and SET_MACHINE, if they pass step 1 of R96. -/
def machineValues (cls capacity : Nat) (items : List ItemSetting) : Option (MachineClass × List ServiceItem) :=
  match machineClassOf cls, itemsOf items with
  | some c, some is => if within 1 Config.maxPreset capacity then some (c, is) else none
  | _, _ => none

/-- The account table with its slots replaced. -/
def State.setSlots (s : State) (slots : List (Nat × Account)) : State := { s with accounts := { s.accounts with slots := slots } }

/-! ## ENROL_MACHINE, RETIRE_MACHINE, SET_MACHINE (R96 to R99) -/

/-- ENROL_MACHINE at the account table (R96). -/
def enrolAnswer (tag : Tag) (cls : Nat) (permits : TankSet) (capacity : Nat) (items : List ItemSetting) (s : State) : Answer :=
  match machineValues cls capacity items with
  | none => .refuse s .range
  | some (c, is) =>
    match findAccount s.accounts.slots tag, freeWay s.accounts.slots tag with
    | some _, _ => .refuse s .alreadyExists
    | none, none => .refuse s .full
    | none, some i =>
      .ok (s.setSlots (putSlot i (Account.enrolled tag c permits capacity is) s.accounts.slots)) (.slot i)

/-- ENROL_MACHINE (R96). -/
def execEnrolMachine (f : Frame) (tag : Tag) (cls : Nat) (permits : TankSet) (capacity : Nat) (items : List ItemSetting)
    (s : State) : Host.Outcome State Fault Refusal :=
  .next (serveClass f 0x38#8 .account (enrolAnswer tag cls permits capacity items) s)

/-- Whether a lane holds an open transaction for a tag (R97, R110). -/
def LaneUnit.fills (u : LaneUnit) (tag : Tag) : Bool := u.state.isOpen && u.ctx.any (fun c => decide (c.tag = tag))

/-- The lanes that hold an open transaction for a tag, in lane order (R110). -/
def State.lanesFilling (s : State) (tag : Tag) : List Lane := allEight.filter (fun l => (s.lane l).fills tag)

/-- RETIRE_MACHINE at the account table (R97). -/
def retireAnswer (tag : Tag) (s : State) : Answer :=
  match findAccount s.accounts.slots tag with
  | none => .refuse s .notFound
  | some (i, _) =>
    if !(s.lanesFilling tag).isEmpty || s.orders.orders.any (fun o => decide (o.tag = tag)) then .refuse s .wrongState
    else .ok (s.setSlots (freeSlot i s.accounts.slots)) .nothing

/-- RETIRE_MACHINE (R97). -/
def execRetireMachine (f : Frame) (tag : Tag) (s : State) : Host.Outcome State Fault Refusal :=
  .next (serveClass f 0x39#8 .account (retireAnswer tag) s)

/-- An entry's changeable values replaced (R98, R99). -/
def Account.change (a : Account) (c : MachineClass) (suspended : Bool) (permits : TankSet) (capacity : Nat)
    (items : List ServiceItem) : Account :=
  { a with
    cls := c, suspended := suspended, permits := permits, capacity := capacity, items := items.map (mergeItem a.items) }

/-- SET_MACHINE at the account table (R98). -/
def setMachineAnswer (tag : Tag) (cls state : Nat) (permits : TankSet) (capacity : Nat) (items : List ItemSetting) (s : State) :
    Answer :=
  match machineValues cls capacity items, flagOf state with
  | some (c, is), some suspended =>
    match findAccount s.accounts.slots tag with
    | none => .refuse s .notFound
    | some (i, a) =>
      .ok (s.setSlots (putSlot i (a.change c suspended permits capacity is) s.accounts.slots)) .nothing
  | _, _ => .refuse s .range

/-- SET_MACHINE (R98). -/
def execSetMachine (f : Frame) (tag : Tag) (cls state : Nat) (permits : TankSet) (capacity : Nat) (items : List ItemSetting)
    (s : State) : Host.Outcome State Fault Refusal :=
  .next (serveClass f 0x3A#8 .account (setMachineAnswer tag cls state permits capacity items) s)

/-! ## SET_CLASS (R100) -/

/-- SET_CLASS at the class table (R100). Hours required is a flag (log 34). -/
def setClassAnswer (cls hoursRequired ceiling : Nat) (s : State) : Answer :=
  match machineClassOf cls, flagOf hoursRequired with
  | some c, some h =>
    if within 1 10000000 ceiling then
      .ok { s with accounts := { s.accounts with classes := s.accounts.classes.set c ⟨h, ceiling⟩ } } .nothing
    else .refuse s .range
  | _, _ => .refuse s .range

/-- SET_CLASS (R100). -/
def execSetClass (f : Frame) (cls hoursRequired ceiling : Nat) (s : State) : Host.Outcome State Fault Refusal :=
  .next (serveClass f 0x5C#8 .config (setClassAnswer cls hoursRequired ceiling) s)

/-! ## READ_ACCOUNT, READ_ACCOUNTS, SET_CURSOR (R110 to R112) -/

/-- READ_ACCOUNT at the account table (R110). -/
def readAccountAnswer (tag : Tag) (s : State) : Answer :=
  match findAccount s.accounts.slots tag with
  | none => .refuse s .notFound
  | some (i, a) => .ok s (.account i a (s.accounts.classes.get a.cls) (s.lanesFilling tag))

/-- READ_ACCOUNT (R110). -/
def execReadAccount (f : Frame) (tag : Tag) (s : State) : Host.Outcome State Fault Refusal :=
  .next (serveClass f 0x08#8 .read (readAccountAnswer tag) s)

/-- A port's account cursor set (R112). -/
def State.setCursor (s : State) (i : PortId) (cursor : Nat) : State := s.setPort i { s.port i with cursor := cursor }

/-- READ_ACCOUNTS at the account table, for a port (R111): direction 0 UP, 1 DOWN. -/
def readAccountsAnswer (i : PortId) (direction count : Nat) (s : State) : Answer :=
  match flagOf direction with
  | none => .refuse s .range
  | some down =>
    if within 1 4 count then
      let w := if down then walkDown s.accounts.slots (s.port i).cursor count else walkUp s.accounts.slots (s.port i).cursor count
      .ok (s.setCursor i w.2.2) (.accounts w.1 w.2.1)
    else .refuse s .range

/-- READ_ACCOUNTS (R111). -/
def execReadAccounts (f : Frame) (direction count : Nat) (s : State) : Host.Outcome State Fault Refusal :=
  .next (serveClass f 0x09#8 .read (readAccountsAnswer f.port direction count) s)

/-- SET_CURSOR at a port (R112). -/
def setCursorAnswer (i : PortId) (slot : Nat) (s : State) : Answer :=
  if slot ≤ 255 then .ok (s.setCursor i slot) .nothing else .refuse s .range

/-- SET_CURSOR (R112). -/
def execSetCursor (f : Frame) (slot : Nat) (s : State) : Host.Outcome State Fault Refusal :=
  .next (serveClass f 0x0A#8 .read (setCursorAnswer f.port slot) s)

end Sys2Proof.Machine
end

