-- ==== Sys2Proof/Machine/LaneCommands.lean ====
section
/-! DEFINITION. The lane requests: OPEN_LANE, STOP_LANE, ENABLE_LANE, DISABLE_LANE and SET_LANE (R31 to R34, R50). -/

namespace Sys2Proof.Machine

/-! ## OPEN_LANE: the checks (R32, R33) -/

/-- What an OPEN_LANE asks, once its lane number and flag byte are read: the override counts only from a port of level 0
(R32). -/
structure OpenRequest where
  lane : Lane
  tag : Tag
  order : Nat
  preset : Option Nat
  hours : Option Nat
  override : Bool
  deriving DecidableEq, Repr

/-- What the checks of an accepted OPEN_LANE give: the preset after clamps and the flags set at the open (R33, R34). -/
structure OpenGrant where
  preset : Nat
  clamped : Bool
  noHours : Bool
  overridden : Bool
  priority : Bool
  deriving DecidableEq, Repr

/-- The first status of a list of checks in order. -/
def firstRefusal : List (Option Status) → Option Status
  | [] => none
  | some st :: _ => some st
  | none :: rest => firstRefusal rest

/-- Step 1 of R32. -/
def openStateCheck (st : LaneState) : Option Status :=
  match st with
  | .disabled => some .disabled
  | .idle => none
  | _ => some .wrongState

/-- Step 3 of R32. -/
def openTankCheck (k : TankUnit) : Option Status :=
  if k.zone = .lowLow then some .tankLow else if k.cfg.gaugeFitted && !k.gaugeValid then some .gauge else none

/-- Step 4 of R32, also steps 2 to 4 of R116: the machine's account. -/
def accountCheck (a : Option (Nat × Account)) (t : Tank) : Option Status :=
  match a with
  | none => some .notFound
  | some (_, a) => if a.suspended then some .accountHeld else if inSet a.permits t then none else some .notPermitted

/-- Whether a lane other than l bound to tank t holds an open transaction for a tag (step 5 of R32). -/
def State.secondOpen (s : State) (l : Lane) (t : Tank) (tag : Tag) : Bool :=
  allEight.any (fun j =>
    decide (j ≠ l) && decide ((s.lane j).cfg.tank = t) && (s.lane j).ctx.any (fun c => decide (c.tag = tag)))

/-- The order that an order number names; 0 is no order (R119). -/
def namedOrder (os : List Order) (n : Nat) : Option Order := if n = 0 then none else findOrder os n

/-- Step 6 of R32. -/
def openOrderCheck (n : Nat) (o : Option Order) (tag : Tag) (t : Tank) : Option Status :=
  if n = 0 then none
  else
    match o with
    | none => some .notFound
    | some o => if o.claimedBy.isSome then some .wrongState else if o.tag = tag ∧ o.tank = t then none else some .range

/-- Steps 1 to 6 of R32. -/
def openRefusal (r : OpenRequest) (s : State) : Option Status :=
  let u := s.lane r.lane
  let t := u.cfg.tank
  firstRefusal
    [openStateCheck u.state,
     if s.laneBlocked r.lane then some .tripped else none,
     openTankCheck (s.tank t),
     accountCheck (findAccount s.accounts.slots r.tag) t,
     if s.secondOpen r.lane t r.tag then some .wrongState else none,
     openOrderCheck r.order (namedOrder s.orders.orders r.order) r.tag t]

/-- The preset chosen at step 8 (R33): the request's, the order's volume, or on a FUEL tank the machine's capacity. -/
def choosePreset (asked : Option Nat) (o : Option Order) (cls : ProductClass) (capacity : Nat) : Option Nat :=
  match asked, o with
  | some p, _ => if within 1 Config.maxPreset p then some p else none
  | none, some o => some o.volume
  | none, none => if cls = .fuel then some capacity else none

/-- The clamp of step 8 to a FUEL machine's capacity (R33). -/
def clampToCapacity (cls : ProductClass) (capacity preset : Nat) : Nat := if cls = .fuel then min preset capacity else preset

/-- Whether step 10 of R32 fails: no free slot under HOLD (R128). -/
def RecordQueue.refusesOpen (q : RecordQueue) : Bool := decide (q.free = 0) && decide (q.policy = .hold)

/-- Steps 8 to 10 of R32, with the hours check passed. -/
def openGrant (r : OpenRequest) (a : Account) (h : HoursResult) (s : State) : Status ⊕ OpenGrant :=
  let k := s.tank (s.lane r.lane).cfg.tank
  let o := namedOrder s.orders.orders r.order
  let priority := o.any (fun o => o.priority)
  match choosePreset r.preset o k.cfg.cls a.capacity with
  | none => .inl .range
  | some p =>
    let p1 := clampToCapacity k.cfg.cls a.capacity p
    match k.grant priority p1 with
    | none => .inl .noStock
    | some p2 =>
      if s.records.refusesOpen then .inl .full
      else
        .inr { preset := p2, clamped := decide (p2 ≠ p), noHours := decide (h = .noHours),
               overridden := decide (h = .overridden), priority := priority }

/-- The checks of OPEN_LANE in their order (R32): a refusal, or what the request is granted. -/
def openChecks (r : OpenRequest) (s : State) : Status ⊕ OpenGrant :=
  match openRefusal r s, findAccount s.accounts.slots r.tag with
  | some st, _ => .inl st
  | none, none => .inl .notFound
  | none, some (_, a) =>
    let required := (s.accounts.classes.get a.cls).hoursRequired
    let clock := if s.time.isSet then some s.time.clock else none
    match hoursCheck a required r.hours clock r.override with
    | .refused => .inl .hours
    | h => openGrant r a h s

/-! ## OPEN_LANE: the acceptance (R34) -/

/-- The transaction flags set at an open (R34). -/
def OpenGrant.flags (g : OpenGrant) (unset : Bool) : CtxFlags :=
  { clampedPreset := g.clamped, hoursOverridden := g.overridden, noHours := g.noHours, priority := g.priority,
    clockUnset := unset, trimmed := false }

/-- The context of an accepted OPEN_LANE (R34), its meter figures at their opening values (log 17). -/
def openContext (r : OpenRequest) (g : OpenGrant) (stamp : Nat × Bool) (figures : CtxFigures) : Context :=
  { tag := r.tag, order := r.order, preset := g.preset, effPreset := g.preset, hours := r.hours, startTime := stamp.1,
    flags := g.flags stamp.2, endReason := none, stageAtEnd := none, figures := figures, faultTaken := false,
    overrunTaken := false }

/-- The lane at the acceptance (R10, R16, R34): AUTHORIZED, its context written and its authorization timer started. -/
def LaneUnit.authorize (u : LaneUnit) (r : OpenRequest) (g : OpenGrant) (stamp : Nat × Bool) (held : Option Int) : LaneUnit :=
  let m := u.meter.opening held
  { u with
    state := .authorized, meter := m, ctx := some (openContext r g stamp m.figures), authTimer := some u.cfg.authTime }

/-- The blocks at the acceptance (R34): the lane, the draw list, the reservation, and the order claimed. -/
def grantOpen (r : OpenRequest) (g : OpenGrant) (s : State) : State :=
  let u := s.lane r.lane
  let t := u.cfg.tank
  let k := s.tank t
  let s1 := s.setLane r.lane (u.authorize r g s.stamp k.t10)
  let s2 := s1.setTank t { k with draws := k.draws ++ [{ lane := r.lane, alloc := g.preset, remaining := g.preset }] }
  { s2 with
    records := s2.records.reserve r.lane
    orders :=
      { s2.orders with
        orders := if r.order = 0 then s2.orders.orders else claimOrder r.order r.lane s2.orders.orders } }

/-- An accepted OPEN_LANE (R34): with HOOK already asserted the lane passes to STARTING in the same event. -/
def acceptOpen (r : OpenRequest) (g : OpenGrant) (s : State) : State :=
  if (s.lane r.lane).hook.level then startLane r.lane (grantOpen r g s) else grantOpen r g s

/-- OPEN_LANE once its operands are read (R32 to R34). -/
def openAnswer (r : OpenRequest) (s : State) : Answer :=
  match openChecks r s with
  | .inl st => .refuse s st
  | .inr g =>
    { state := acceptOpen r g s
      status := if g.clamped then .clamped else .ok
      payload := .opened g.preset (s.lane r.lane).cfg.tank r.order (g.flags s.stamp.2) }

/-- OPEN_LANE at the lane controller (R32): a lane number outside L0 to L7, or a flag byte that is no flag, is RANGE before
any check (log 14). -/
def openLaneAnswer (i : PortId) (lane : Nat) (tag : Tag) (order : Nat) (preset hours : Option Nat) (override : Nat)
    (s : State) : Answer :=
  match eightOf lane, flagOf override with
  | some l, some ov =>
    openAnswer
      { lane := l, tag := tag, order := order, preset := preset, hours := hours,
        override := ov && decide ((s.port i).level = 0) } s
  | _, _ => .refuse s .range

/-- OPEN_LANE (R32). -/
def execOpenLane (f : Frame) (lane : Nat) (tag : Tag) (order : Nat) (preset hours : Option Nat) (override : Nat)
    (s : State) : Host.Outcome State Fault Refusal :=
  .next
    (serve f 0x28#8 (.classed .lane (addressLane s lane)) (openLaneAnswer f.port lane tag order preset hours override) s)

/-! ## STOP_LANE, ENABLE_LANE, DISABLE_LANE (R50) -/

/-- A request to one lane: a number outside L0 to L7 is RANGE (R50). -/
def onLane (lane : Nat) (act : Lane → State → Answer) (s : State) : Answer :=
  match eightOf lane with
  | some l => act l s
  | none => .refuse s .range

/-- STOP_LANE at a lane (R50). -/
def stopAnswer (l : Lane) (s : State) : Answer :=
  match (s.lane l).state with
  | .disabled => .refuse s .wrongState
  | .idle => .refuse s .wrongState
  | _ => .ok (endLane l .stopped s) .nothing

/-- STOP_LANE (R50). -/
def execStopLane (f : Frame) (lane : Nat) (s : State) : Host.Outcome State Fault Refusal :=
  .next (serve f 0x29#8 (.classed .lane (addressLane s lane)) (onLane lane stopAnswer) s)

/-- ENABLE_LANE's effect on a lane (R49, R50). -/
def LaneUnit.enable (u : LaneUnit) : LaneUnit :=
  match u.state with
  | .disabled => { u with state := .idle, held := .empty }
  | .idle => u
  | _ => { u with pendingDisable := false }

/-- ENABLE_LANE (R50). -/
def execEnableLane (f : Frame) (lane : Nat) (s : State) : Host.Outcome State Fault Refusal :=
  .next
    (serve f 0x2A#8 (.classed .lane (addressLane s lane))
      (onLane lane (fun l s => .ok (s.setLane l (s.lane l).enable) .nothing)) s)

/-- DISABLE_LANE's effect on a lane (R50). -/
def LaneUnit.disable (u : LaneUnit) : LaneUnit :=
  match u.state with
  | .disabled => u
  | .idle => { u with state := .disabled }
  | _ => { u with pendingDisable := true }

/-- DISABLE_LANE (R50). -/
def execDisableLane (f : Frame) (lane : Nat) (s : State) : Host.Outcome State Fault Refusal :=
  .next
    (serve f 0x2B#8 (.classed .lane (addressLane s lane))
      (onLane lane (fun l s => .ok (s.setLane l (s.lane l).disable) .nothing)) s)

/-! ## SET_LANE (R31) -/

/-- SET_LANE at a lane: accepted in DISABLED or IDLE, a new binding only in DISABLED (R31); a changed creep limit blanks
HOSE Ln (R149). The range checks come before the state checks (log 30). -/
def setLaneAnswer (v : LaneSetting) (l : Lane) (s : State) : Answer :=
  let u := s.lane l
  match laneConfigOf v with
  | none => .refuse s .range
  | some c =>
    if u.state.isOpen || (decide (u.state = .idle) && decide (c.tank ≠ u.cfg.tank)) then .refuse s .wrongState
    else .ok (blankIf (decide (c.creepLimit ≠ u.cfg.creepLimit)) (.hose l) (s.setLane l { u with cfg := c })) .nothing

/-- SET_LANE (R31). -/
def execSetLane (f : Frame) (lane : Nat) (v : LaneSetting) (s : State) : Host.Outcome State Fault Refusal :=
  .next (serve f 0x58#8 (.classed .config (addressSetLane s lane v.tank)) (onLane lane (setLaneAnswer v)) s)

end Sys2Proof.Machine
end

