-- ==== Sys2Proof/Machine/StockCommands.lean ====
section
/-! DEFINITION. The tank stock unit's requests: SET_TANK, SET_TANK_RESERVE, ADJUST_STOCK and ACK_ALARMS (R55, R56, R63,
R73). -/

namespace Sys2Proof.Machine

/-- A request to one tank: a number outside T0 to T7 is RANGE. -/
def onTank (tank : Nat) (act : Tank → State → Answer) (s : State) : Answer :=
  match eightOf tank with
  | some t => act t s
  | none => .refuse s .range

/-! ## SET_TANK (R55) -/

/-- Whether a change of configuration resets the zone runs (R55). -/
def TankConfig.zonesDiffer (c d : TankConfig) : Bool :=
  decide (c.lowLow ≠ d.lowLow) || decide (c.low ≠ d.low) || decide (c.high ≠ d.high) || decide (c.highHigh ≠ d.highHigh)
    || decide (c.zoneDebounce ≠ d.zoneDebounce)

/-- Whether a change of configuration discards the loss window (R55). -/
def TankConfig.lossDiffers (c d : TankConfig) : Bool :=
  decide (c.lossLimit ≠ d.lossLimit) || decide (c.lossWindow ≠ d.lossWindow)

/-- The gauge removed from a tank (R55). OVER_TABLE keeps its value (log 31). The loss watch's condition for running fails, so
its window is discarded (R74, log 12); a window discarded by SET_TANK makes the loss condition absent (R75). The 1 s timer of a
tank with no gauge starts (R144). -/
def TankUnit.removeGauge (k : TankUnit) : TankUnit :=
  { k with
    level := none, t10 := none, gaugedNet := none, gaugeValid := false, invalid := 0, runs := ⟨0, 0, 0, 0⟩,
    rawZone := .normal, zone := .normal, window := none, lossCond := k.lossCond && k.window.isNone,
    noGaugeTimer := some Config.samplePeriod }

/-- A tank under a new configuration (R55, R144): the reserve clamped, and the runs, the loss window and the gauge reset
where their values change. -/
def TankUnit.configure (k : TankUnit) (c : TankConfig) : TankUnit :=
  let k1 := { k with cfg := c, reserve := min k.reserve c.capacity }
  let k2 := if k.cfg.zonesDiffer c then { k1 with runs := ⟨0, 0, 0, 0⟩ } else k1
  let k3 := if k.cfg.lossDiffers c then k2.discardWindow else k2
  match k.cfg.gaugeFitted, c.gaugeFitted with
  | true, false => k3.removeGauge
  | false, true => { k3 with noGaugeTimer := none }
  | _, _ => k3

/-- SET_TANK at a tank (R55, R149). -/
def setTankAnswer (v : TankSetting) (t : Tank) (s : State) : Answer :=
  let k := s.tank t
  match tankConfigOf v with
  | none => .refuse s .range
  | some c =>
    if !k.draws.isEmpty || s.discharging t then .refuse s .wrongState
    else
      .ok
        (blankIf (decide (c.lossLimit ≠ k.cfg.lossLimit)) (.loss t)
          (blankIf (decide (c.highHigh ≠ k.cfg.highHigh)) (.overfill t) (s.setTank t (k.configure c)))) .nothing

/-- SET_TANK (R55). -/
def execSetTank (f : Frame) (tank : Nat) (v : TankSetting) (s : State) : Host.Outcome State Fault Refusal :=
  .next (serve f 0x59#8 (.classed .config (addressTank tank)) (onTank tank (setTankAnswer v)) s)

/-! ## SET_TANK_RESERVE (R56) -/

/-- SET_TANK_RESERVE at a tank (R56): a reserve above the capacity is clamped. -/
def setReserveAnswer (reserve : Nat) (t : Tank) (s : State) : Answer :=
  let k := s.tank t
  if Config.maxVolume < reserve then .refuse s .range
  else
    let r := min reserve k.cfg.capacity
    { state := s.setTank t { k with reserve := r }
      status := if k.cfg.capacity < reserve then .clamped else .ok
      payload := .reserve r }

/-- SET_TANK_RESERVE (R56). -/
def execSetTankReserve (f : Frame) (tank reserve : Nat) (s : State) : Host.Outcome State Fault Refusal :=
  .next (serve f 0x30#8 (.classed .stock (addressTank tank)) (onTank tank (setReserveAnswer reserve)) s)

/-! ## ADJUST_STOCK (R63) -/

/-- A tank's book set, and its shortage cleared when asked; the loss window restarts if the watch runs (R63, R74). A watch that
has yet to begin, at the next gauge sample, has no window to restart (R61; log 12). -/
def TankUnit.adjust (k : TankUnit) (book : Nat) (clear discharging : Bool) (uptime : Nat) : TankUnit :=
  let k1 := { k with book := book, shortage := if clear then 0 else k.shortage }
  if k1.watchRuns discharging && k1.window.isSome then k1.restartWindow uptime else k1

/-- ADJUST_STOCK at a tank (R63): then the trim check against the new book (R66). -/
def adjustAnswer (book clearShortage : Nat) (t : Tank) (s : State) : Answer :=
  match flagOf clearShortage with
  | none => .refuse s .range
  | some clear =>
    if Config.maxVolume < book then .refuse s .range
    else
      let s1 := trimTank t (s.setTank t ((s.tank t).adjust book clear (s.discharging t) s.time.uptime))
      let k := s1.tank t
      .ok s1 (.stockSet k.book k.shortage (allocated k.draws))

/-- ADJUST_STOCK (R63). -/
def execAdjustStock (f : Frame) (tank book clearShortage : Nat) (s : State) : Host.Outcome State Fault Refusal :=
  .next (serve f 0x31#8 (.classed .stock (addressTank tank)) (onTank tank (adjustAnswer book clearShortage)) s)

/-! ## ACK_ALARMS (R73) -/

/-- A tank's latched flags acknowledged (R73): those of the zones still reached stay. -/
def TankUnit.acknowledge (k : TankUnit) : TankUnit := { k with alarms := k.alarms.inter k.zone.reached }

/-- ACK_ALARMS for one tank (R73). -/
def ackAnswer (t : Tank) (s : State) : Answer :=
  let k := (s.tank t).acknowledge
  .ok (s.setTank t k) (.alarms [(t, k.alarms)])

/-- ACK_ALARMS, one tank (R73). -/
def execAckAlarms (f : Frame) (tank : Nat) (s : State) : Host.Outcome State Fault Refusal :=
  .next (serve f 0x32#8 (.classed .stock (addressTank tank)) (onTank tank ackAnswer) s)

/-- ACK_ALARMS for every tank (R73). -/
def ackAllAnswer (s : State) : Answer :=
  let ks := s.tanks.map TankUnit.acknowledge
  .ok { s with tanks := ks } (.alarms (allEight.map (fun t => (t, (ks.get t).alarms))))

/-- ACK_ALARMS, ALL: it addresses all eight tanks (R73, R182). -/
def execAckAlarmsAll (f : Frame) (s : State) : Host.Outcome State Fault Refusal :=
  .next (serve f 0x33#8 (.classed .stock ⟨0#8, 0xFF#8⟩) ackAllAnswer s)

end Sys2Proof.Machine
end

