-- ==== Sys2Proof/Machine/CalCommands.lean ====
section
/-! DEFINITION. The calibration requests and the calibration lock's (R23 to R25, R61, R164 to R168). -/

namespace Sys2Proof.Machine

/-! ## Guarded requests (R166, R167) -/

/-- Whether the lock refuses a guarded request (step 2 of R166). -/
def LockState.shut : LockState → Bool
  | .unlocked => false
  | _ => true

/-- A guarded request that has passed the range check: LOCKED by the lock, WRONG_STATE by the lane or tank, or accepted
with the change count raised and CAL posted (R166, R167). -/
def guarded (busy : Bool) (act : State → State) (s : State) : Answer :=
  if s.cal.lock.shut then .refuse s .locked
  else if busy then .refuse s .wrongState
  else
    let n := satAdd 65535 s.cal.changes 1
    .ok (post .cal { act s with cal := { s.cal with changes := n } }) (.calChanges n)

/-- SET_METER at a lane (R23, R24, R166). -/
def setMeterAnswer (v : MeterSetting) (l : Lane) (s : State) : Answer :=
  if meterInRange v then
    guarded (s.lane l).state.isOpen (fun s => s.setLane l { s.lane l with meter := (s.lane l).meter.recalibrate v }) s
  else .refuse s .range

/-- SET_METER (R24, R166). -/
def execSetMeter (f : Frame) (lane : Nat) (v : MeterSetting) (s : State) : Host.Outcome State Fault Refusal :=
  .next (serve f 0x68#8 (.classed .cal (addressLane s lane)) (onLane lane (setMeterAnswer v)) s)

/-- SET_PRODUCT at a tank (R25, R61, R166). -/
def setProductAnswer (alpha : Nat) (t : Tank) (s : State) : Answer :=
  if alpha ≤ 2000 then
    guarded (s.discharging t) (fun s => s.setTank t { (s.tank t).discardWindow with alpha := alpha }) s
  else .refuse s .range

/-- SET_PRODUCT (R25, R166). -/
def execSetProduct (f : Frame) (tank alpha : Nat) (s : State) : Host.Outcome State Fault Refusal :=
  .next (serve f 0x69#8 (.classed .cal (addressTank tank)) (onTank tank (setProductAnswer alpha)) s)

/-- SET_STRAPPING at a tank (R61, R166). -/
def setStrappingAnswer (points : List (Nat × Nat)) (t : Tank) (s : State) : Answer :=
  if pointsInRange points then
    guarded (s.discharging t) (fun s => s.setTank t { (s.tank t).discardWindow with points := points }) s
  else .refuse s .range

/-- SET_STRAPPING (R61, R166). -/
def execSetStrapping (f : Frame) (tank : Nat) (points : List (Nat × Nat)) (s : State) : Host.Outcome State Fault Refusal :=
  .next (serve f 0x6A#8 (.classed .cal (addressTank tank)) (onTank tank (setStrappingAnswer points)) s)

/-! ## The lock (R164, R165) -/

/-- The lock an accepted LOCK_CAL takes: a code of 0 is PERMANENT (R164). -/
def lockUnder (code : Nat) : LockState := if code = 0 then .permanent else .locked code

/-- LOCK_CAL at the lock (R164). -/
def lockAnswer (code : Nat) (s : State) : Answer :=
  match s.cal.lock with
  | .unlocked => .ok (post .cal { s with cal := { s.cal with lock := lockUnder code } }) .nothing
  | _ => .refuse s .wrongState

/-- LOCK_CAL (R164, R181). -/
def execLockCal (f : Frame) (code : Nat) (s : State) : Host.Outcome State Fault Refusal :=
  .next (serve f 0x6B#8 .levelZero (lockAnswer code) s)

/-- An UNLOCK_CAL that does not open the lock: the failed-attempt count as given, answered LOCKED (R165). -/
def keepShut (failed : Nat) (s : State) : Answer :=
  { state := { s with cal := { s.cal with failed := failed } }, status := .locked, payload := .nothing }

/-- UNLOCK_CAL at the lock (R165). -/
def unlockAnswer (code : Nat) (s : State) : Answer :=
  match s.cal.lock with
  | .unlocked => .refuse s .wrongState
  | .permanent => .refuse s .locked
  | .locked c =>
    if 3 ≤ s.cal.failed then .refuse s .locked
    else if code = c ∧ code ≠ 0 then .ok (post .cal { s with cal := { s.cal with lock := .unlocked, failed := 0 } }) .nothing
    else keepShut (s.cal.failed + 1) s

/-- UNLOCK_CAL (R165, R181). -/
def execUnlockCal (f : Frame) (code : Nat) (s : State) : Host.Outcome State Fault Refusal :=
  .next (serve f 0x6C#8 .levelZero (unlockAnswer code) s)

/-! ## READ_CAL (R168) -/

/-- A lock state's number: 0 UNLOCKED, 1 LOCKED, 2 PERMANENT (R163, R192). -/
def LockState.kind : LockState → Nat
  | .unlocked => 0
  | .locked _ => 1
  | .permanent => 2

/-- What READ_CAL reports (R168): never the code. -/
def State.calReport (s : State) : CalReport :=
  { lockKind := s.cal.lock.kind, codeStored := decide (s.cal.lock.kind = 1), failed := s.cal.failed,
    barred := decide (s.cal.failed = 3), changes := s.cal.changes, meters := s.lanes.map (fun u => u.meter.params),
    alphas := s.tanks.map (fun k => k.alpha) }

/-- READ_CAL (R168). -/
def execReadCal (f : Frame) (s : State) : Host.Outcome State Fault Refusal :=
  .next (serveClass f 0x10#8 .read (fun s => .ok s (.cal s.calReport)) s)

end Sys2Proof.Machine
end

