-- ==== Sys2Proof/Machine/StartUp.lean ====
section
/-! DEFINITION. Being held in reset, and the start-up sequence through RESTORING (R169 to R174, R197). -/

namespace Sys2Proof.Machine

/-- What begins a start-up (R171). -/
inductive StartCause where
  | powerOrPin
  | bayRestart
  deriving DecidableEq, Repr

/-- A port without power or held in reset: nothing is sent and nothing received (R171, R197). -/
def Port.release (p : Port) : Port :=
  { p with rx := .hunting, rxBuffer := [], overlapMark := false, crossing := false, de := false, tx := .high, reply := none,
           pulse := none, attn := false }

/-- A lane's valve outputs released (R171, R197). -/
def LaneUnit.releaseOutputs (u : LaneUnit) : LaneUnit := { u with vlo := false, vhi := false }

/-- A tank's pump and inlet outputs released (R171, R197). -/
def TankUnit.releaseOutputs (k : TankUnit) : TankUnit := { k with pumpRun := false, inlet := false }

/-- The device held: every output released, nothing answered and nothing sampled; the store keeps what was committed
(R169, R171, R197). -/
def hold (s : State) : State :=
  { s with
    device := { s.device with phase := .held }
    ports := s.ports.map Port.release
    lanes := s.lanes.map LaneUnit.releaseOutputs
    tanks := s.tanks.map TankUnit.releaseOutputs
    bus := .released }

/-- The factory value of every retained item (R170). -/
def writeFactory (s : State) : State :=
  { s with
    device := { s.device with formatMarker := true }
    lanes := Eight.ofFn factoryLaneUnit
    tanks := Eight.ofFn factoryTankUnit
    deliveries := factoryDeliveries
    accounts := factoryAccounts
    records := factoryRecords
    spill := factorySpill
    cal := factoryLock
    ports :=
      { dispatch := { s.ports.dispatch with level := factoryLevel .dispatch, denial := factoryDenial .dispatch }
        console := { s.ports.console with level := factoryLevel .console, denial := factoryDenial .console }
        receipt := { s.ports.receipt with level := factoryLevel .receipt, denial := factoryDenial .receipt }
        openLevel := 0 } }

/-- The format marker read (R170): absent, the factory values are written and then the marker. -/
def checkMarker (s : State) : State := if s.device.formatMarker then s else writeFactory s

/-- A port at the entry to RESTORING (R174): after power-on or pin reset every item of the table; at a BAY_RESTART the
attention settings are kept, and a BUSY port sends the rest of its reply at its old rate. -/
def Port.atStartUp (cause : StartCause) (rate : BitVec 2) (p : Port) : Port :=
  match cause with
  | .powerOrPin => portAtStartUp p.level p.denial rate
  | .bayRestart =>
    let q := { portAtStartUp p.level p.denial rate with mask := p.mask, mode := p.mode, width := p.width }
    match p.rx with
    | .busy => { q with rx := .busy, de := p.de, tx := p.tx, rate := p.rate, reply := p.reply, crossing := true }
    | _ => q

/-- The bay time at the entry to RESTORING: unset after power-on or pin reset, kept by a BAY_RESTART (R173, R190). -/
def BayTime.atStartUp (cause : StartCause) (t : BayTime) : BayTime :=
  match cause with
  | .powerOrPin => { clock := 0, isSet := false, uptime := 0 }
  | .bayRestart => { t with uptime := 0 }

/-- The volatile items of every block at their start-up values, and the rate read from the straps (R171, R172 step 1). -/
def resetVolatile (cause : StartCause) (straps : BitVec 2) (s : State) : State :=
  { s with
    device := { s.device with phase := .restoring, lineRate := straps }
    time := s.time.atStartUp cause
    ports := s.ports.map (Port.atStartUp cause straps)
    lanes := s.lanes.map LaneUnit.atStartUp
    tanks := s.tanks.map TankUnit.atStartUp
    bus := .released
    deliveries := { s.deliveries with entries := s.deliveries.entries.map (fun e => { e with timer := none, waited := none }) }
    orders := ordersAtStartUp
    records := { s.records with reserved := 0#8, dropped := 0 }
    spill := { s.spill with sources := s.spill.sources.map Source.atStartUp, capture := .empty, captureTimer := none }
    cal := { s.cal with failed := 0 } }

/-- The POWER_LOST record of a context (R135). -/
def powerLostRecord (l : Lane) (u : LaneUnit) (c : Context) (changes : Nat) : Record :=
  { number := 0, lane := l, tank := u.cfg.tank, endReason := .powerLost, flags := recordFlags c.flags c.figures.flags false true,
    order := c.order, tag := c.tag, startTime := c.startTime, endTime := 0, hours := c.hours, preset := c.effPreset,
    gross := c.figures.gross, net := c.figures.net, overrun := (c.figures.net - c.effPreset).toNat, lastT10 := c.figures.lastT10,
    totalizer := u.meter.totalizer, calChanges := changes, miscounts := c.figures.miscounts, stageAtEnd := c.stageAtEnd }

/-- The booking of a POWER_LOST record (R108). -/
def powerLostBooking (c : Context) (t : Tank) (s : State) : State :=
  match findAccount s.accounts.slots c.tag with
  | none => s
  | some (i, a) =>
    let a' := bookPowerLost a (s.tank t).cfg.cls c.figures.net c.hours
    { s with accounts := { s.accounts with slots := putSlot i a' s.accounts.slots } }

/-- R172 step 2 for one lane: its context, if any, filed and booked in one commit, and cleared. Nothing is posted. -/
def fileContext (l : Lane) (s : State) : State :=
  let u := s.lane l
  match u.ctx with
  | none => s
  | some c =>
    let s1 := powerLostBooking c u.cfg.tank s
    let q := { s1.records with reserved := s1.records.reserved ||| bit8 l }
    { s1 with records := q.file (powerLostRecord l u c s1.cal.changes) }.setLane l { u with ctx := none }

/-- R172 step 2, in lane order. -/
def fileContexts (s : State) : State := allEight.foldl (fun s l => fileContext l s) s

/-- R172 step 3 (R90). -/
def abandonDeliveries (s : State) : State :=
  { s with
    deliveries :=
      { s.deliveries with entries := s.deliveries.entries.map (DeliveryEntry.abandonAtStartUp s.stamp) } }

/-- The entry to RESTORING and its steps 1 to 3 (R171, R172); step 4 is RESTORE_COMPLETE. -/
def startUp (cause : StartCause) (straps : BitVec 2) (s : State) : State :=
  abandonDeliveries (fileContexts (resetVolatile cause straps (checkMarker s)))

/-- A start-up with the supply at its level; while the RESET pin is low the device stays held (R171). -/
def powerUp (straps : BitVec 2) (s : State) : State :=
  if s.device.powered && !s.device.resetHeld then startUp .powerOrPin straps s else s

/-- A lane at the entry to RUNNING: the reference pair read at the first input sample (R1). -/
def LaneUnit.enterRunning (a b : Bool) (u : LaneUnit) : LaneUnit :=
  { u with meter := { u.meter with refA := a, refB := b } }

/-- A tank at the entry to RUNNING: the timer of a tank with no gauge starts (R144, R161). -/
def TankUnit.enterRunning (k : TankUnit) : TankUnit :=
  { k with noGaugeTimer := if k.cfg.gaugeFitted then none else some Config.samplePeriod }

/-- R172 step 4: the device enters RUNNING, uptime starts from 0, and STARTED is posted, with RECORDS when the count is
at or above the threshold (R136). -/
def enterRunning (aLevels bLevels : LaneSet) (s : State) : State :=
  let s1 :=
    { s with
      device := { s.device with phase := .running }
      time := { s.time with uptime := 0 }
      lanes := Eight.ofFn (fun l => (s.lane l).enterRunning (inSet aLevels l) (inSet bLevels l))
      tanks := s.tanks.map TankUnit.enterRunning }
  postIf (decide (s.records.threshold ≤ s.records.completed.length)) .records (post .started s1)

end Sys2Proof.Machine
end

