-- ==== Sys2Proof/Machine/TimerCommands.lean ====
section
/-! DEFINITION. The commands of time: expiries of the blocks' timers, deadlines, and the whole second (R37, R42, R45, R68,
R81, R87, R117, R157, R187, R190, R191). -/

namespace Sys2Proof.Machine

/-! ## Lane and pump timers -/

/-- The tank's lanes that a lost pump ends: those STARTING or DELIVERING (R68). -/
def State.pumpLanes (s : State) (t : Tank) : LaneSet := setOf (fun l => (s.lane l).demands t)

/-- A pump in STARTING whose ready input has not come in time (R68): the tank's lanes end with PUMP_LOST and the pump is
STOPPED. -/
def losePump (t : Tank) (s : State) : State :=
  let s1 := endLanes (s.pumpLanes t) .pumpLost s
  s1.setTank t ((s1.tank t).setPump .stopped none)

/-- The pump timer's expiry in STARTING, where alone it runs (R68). -/
def pumpExpiry (t : Tank) (s : State) : State :=
  match (s.tank t).pump with
  | .starting => if ended (s.tank t).pumpTimer then losePump t s else s
  | _ => s

/-- PUMP_TIMER_EXPIRY (R68). -/
def execPumpTimerExpiry (t : Tank) (s : State) : Host.Outcome State Fault Refusal := .next (s.whenRunning (pumpExpiry t))

/-- The authorization timer's expiry (R37): EXPIRED in AUTHORIZED or STARTING, where alone the timer runs. -/
def authorizationExpiry (l : Lane) (s : State) : State :=
  match (s.lane l).state with
  | .authorized => if ended (s.lane l).authTimer then endLane l .expired s else s
  | .starting => if ended (s.lane l).authTimer then endLane l .expired s else s
  | _ => s

/-- AUTHORIZATION_TIMER_EXPIRY (R37). -/
def execAuthorizationTimerExpiry (l : Lane) (s : State) : Host.Outcome State Fault Refusal :=
  .next (s.whenRunning (authorizationExpiry l))

/-- The end reason of a no-flow expiry at cumulative net n (R42). -/
def noFlowReason (n : Int) : EndReason := if 0 < n then .full else .noFlow

/-- The no-flow timer's expiry in DELIVERING (R42). -/
def noFlowExpiry (l : Lane) (s : State) : State :=
  match (s.lane l).state with
  | .delivering => if ended (s.lane l).noFlowTimer then endLane l (noFlowReason (s.lane l).meter.net) s else s
  | _ => s

/-- NO_FLOW_TIMER_EXPIRY (R42). -/
def execNoFlowTimerExpiry (l : Lane) (s : State) : Host.Outcome State Fault Refusal :=
  .next (s.whenRunning (noFlowExpiry l))

/-- The end of the settle period in SETTLING, by the timer or its cap (R45, R46). -/
def settleEnd (l : Lane) (s : State) : State :=
  match (s.lane l).state with
  | .settling => if ended (s.lane l).settleTimer || ended (s.lane l).settleCap then closeLane l s else s
  | _ => s

/-- SETTLE_PERIOD_END (R45). -/
def execSettlePeriodEnd (l : Lane) (s : State) : Host.Outcome State Fault Refusal := .next (s.whenRunning (settleEnd l))

/-! ## Attention pulse (R187) -/

/-- The expiry of a running pulse: the line is released (R187). A pulse of at most 200 ms holds no count of seconds (log 3). -/
def Port.endPulse (p : Port) : Port :=
  match p.pulse with
  | some _ => { p with pulse := none, attn := false }
  | none => p

/-- ATTENTION_PULSE_EXPIRY (R187). -/
def execAttentionPulseExpiry (i : PortId) (s : State) : Host.Outcome State Fault Refusal :=
  .next (s.whenRunning (fun s => s.setPort i (s.port i).endPulse))

/-! ## Deliveries and orders (R81, R87, R117) -/

/-- An announcement that has run out (R81): WITHDRAWN with EXPIRED. -/
def DeliveryEntry.expire (stamp : Nat × Bool) (e : DeliveryEntry) : DeliveryEntry :=
  let e1 := e.finish .withdrawn stamp
  { e1 with flags := { e1.flags with expired := true } }

/-- Whether an entry is the ANNOUNCED one of this number with its announcement timer run out. -/
def DeliveryEntry.announcedAs (n : Nat) (e : DeliveryEntry) : Bool :=
  e.numbered n && decide (e.state = .announced) && ended e.timer

/-- The announcement timer's expiry (R81, R89). -/
def announcementExpiry (n : Nat) (s : State) : State :=
  postIf (s.deliveries.entries.any (DeliveryEntry.announcedAs n)) .delivery
    (mapDeliveries (DeliveryEntry.announcedAs n) (DeliveryEntry.expire s.stamp) s)

/-- ANNOUNCEMENT_TIMER_EXPIRY (R81). -/
def execAnnouncementTimerExpiry (n : Nat) (s : State) : Host.Outcome State Fault Refusal :=
  .next (s.whenRunning (announcementExpiry n))

/-- Whether an entry is the SETTLING one of this number with its settle timer run out. -/
def DeliveryEntry.settlesAs (n : Nat) (e : DeliveryEntry) : Bool :=
  e.numbered n && decide (e.state = .settling) && ended e.timer

/-- A settle timer's expiry (R87): the entry begins to wait for its closing gauge. -/
def settleExpiry (n : Nat) (s : State) : State :=
  mapDeliveries (DeliveryEntry.settlesAs n) (fun e => { e with timer := none, waited := some 0 }) s

/-- DELIVERY_SETTLE_TIMER_EXPIRY (R87). -/
def execDeliverySettleTimerExpiry (n : Nat) (s : State) : Host.Outcome State Fault Refusal :=
  .next (s.whenRunning (settleExpiry n))

/-- Whether an order is PENDING with its deadline reached (R117). -/
def Order.expires (o : Order) (uptime : Nat) : Bool := o.claimedBy.isNone && o.overdue uptime

/-- The deadline of an order (R117): a PENDING order whose deadline the uptime has reached leaves the list, and ORDER is
posted. -/
def orderDeadline (n : Nat) (s : State) : State :=
  match findOrder s.orders.orders n with
  | some o =>
    if o.expires s.time.uptime then
      post .order { s with orders := { s.orders with orders := removeOrder n s.orders.orders } }
    else s
  | none => s

/-- ORDER_DEADLINE (R117). -/
def execOrderDeadline (n : Nat) (s : State) : Host.Outcome State Fault Refusal := .next (s.whenRunning (orderDeadline n))

/-! ## Capture samples (R157) -/

/-- The spill unit after a post-trip sample (R157): the capture with it, and its timer. -/
def SpillUnit.takeSample (p : PostSample) (u : SpillUnit) : SpillUnit :=
  { u with capture := u.capture.addSample p, captureTimer := (u.capture.addSample p).timer }

/-- The expiry of the capture's sample timer (R157), once its period has run. -/
def captureSample (s : State) : State :=
  if ended s.spill.captureTimer then { s with spill := s.spill.takeSample s.postSample } else s

/-- CAPTURE_SAMPLE_TIMER_EXPIRY (R157). -/
def execCaptureSampleTimerExpiry (s : State) : Host.Outcome State Fault Refusal := .next (s.whenRunning captureSample)

/-! ## The whole second (R190, R191) -/

/-- A lane's timers after a second. -/
def LaneUnit.tick (u : LaneUnit) : LaneUnit :=
  { u with authTimer := Machine.tick u.authTimer, noFlowTimer := Machine.tick u.noFlowTimer,
           settleTimer := Machine.tick u.settleTimer, settleCap := Machine.tick u.settleCap }

/-- The bay clock after a second: it advances only when set, saturating (R190). -/
def BayTime.clockSecond (t : BayTime) : BayTime :=
  if t.isSet then { t with clock := satAdd Config.max32 t.clock 1 } else t

/-- A second in RUNNING (R190, R191): the set bay clock, the uptime and every running timer. -/
def runningSecond (s : State) : State :=
  { s with
    time := { s.time.clockSecond with uptime := satAdd Config.max32 s.time.uptime 1 }
    lanes := s.lanes.map LaneUnit.tick
    tanks := s.tanks.map (fun k => { k with pumpTimer := tick k.pumpTimer, noGaugeTimer := tick k.noGaugeTimer })
    spill := { s.spill with captureTimer := tick s.spill.captureTimer }
    deliveries :=
      { s.deliveries with entries := s.deliveries.entries.map (fun e => { e with timer := tick e.timer }) } }

/-- A second (R190, R191): in RESTORING only a set bay clock rises; a device held counts nothing. -/
def wholeSecond (s : State) : State :=
  match s.device.phase with
  | .running => runningSecond s
  | .restoring => { s with time := s.time.clockSecond }
  | .held => s

/-- WHOLE_SECOND (R190, R191). -/
def execWholeSecond (s : State) : Host.Outcome State Fault Refusal := .next (wholeSecond s)

end Sys2Proof.Machine
end

