-- ==== Sys2Proof/Machine/DeliveryCommands.lean ====
section
/-! DEFINITION. The delivery unit's requests (R80 to R82, R85, R89, R91). -/

namespace Sys2Proof.Machine

/-- A request that names a delivery by its number: NOT_FOUND where no entry in use carries it. -/
def onDelivery (n : Nat) (act : DeliveryEntry → State → Answer) (s : State) : Answer :=
  match findDelivery s.deliveries.entries n with
  | some e => act e s
  | none => .refuse s .notFound

/-! ## ANNOUNCE_DELIVERY (R79, R80) -/

/-- A new entry with the unit's next free number (R79, R80). -/
def DeliveryUnit.newEntry (q : DeliveryUnit) (t : Tank) (identity : BitVec 64) (docket : Nat) (stamp : Nat × Bool) :
    DeliveryEntry :=
  { number := freeNumber (fun n => (findDelivery q.entries n).isSome) (Config.deliveryPlaces + 1) q.next, tank := t,
    identity := identity, docket := docket, state := .announced,
    flags := { DeliveryFlags.clear with clockUnset := stamp.2 }, conf := none, closing := none, received := none,
    variance := none, announceTime := stamp.1, endTime := none, completeTime := none,
    timer := some Config.announcementTime, waited := none }

/-- The list with a new entry at its end (R79, R80). -/
def DeliveryUnit.announce (q : DeliveryUnit) (e : DeliveryEntry) : DeliveryUnit :=
  { entries := q.entries ++ [e], next := nextNumber 65535 e.number }

/-- ANNOUNCE_DELIVERY at the delivery unit (R80). -/
def announceAnswer (tank : Nat) (identity : BitVec 64) (docket : Nat) (s : State) : Answer :=
  match eightOf tank with
  | none => .refuse s .range
  | some t =>
    if !within 1 200000000 docket then .refuse s .range
    else if s.hasActiveDelivery t then .refuse s .alreadyExists
    else if Config.deliveryPlaces ≤ s.deliveries.entries.length then .refuse s .full
    else
      let e := s.deliveries.newEntry t identity docket s.stamp
      .ok { s with deliveries := s.deliveries.announce e } (.announced e.number)

/-- ANNOUNCE_DELIVERY (R80). -/
def execAnnounceDelivery (f : Frame) (tank : Nat) (identity : BitVec 64) (docket : Nat) (s : State) :
    Host.Outcome State Fault Refusal :=
  .next (serve f 0x40#8 (.classed .delivery (addressTank tank)) (announceAnswer tank identity docket) s)

/-! ## CONFIRM_DELIVERY (R82) -/

/-- Whether the values given at a confirmation lie in their ranges (step 3 of R82). -/
def confirmInRange (settle fixedTol propTol : Option Nat) : Bool :=
  optAll (within 30 900) settle && optAll (fun v => decide (v ≤ 10000000)) fixedTol
    && optAll (fun v => decide (v ≤ 100000)) propTol

/-- The opening gauged net (R82): computed as R60 from the held level and T10, with the present table and α. -/
def TankUnit.openingNet (k : TankUnit) : Nat := gaugedNetOf k.points k.alpha (k.level.getD 0) (sampleT10 k.t10)

/-- Whether the held level lies above the table's last point (R82). -/
def TankUnit.heldAbove (k : TankUnit) : Bool := aboveTable k.points (k.level.getD 0)

/-- The fields an entry takes at its confirmation, with R82's defaults for the absent values. -/
def TankUnit.confirmation (k : TankUnit) (settle fixedTol propTol : Option Nat) (stamp : Nat × Bool) : Confirmation :=
  { settle := settle.getD 120, fixedTol := fixedTol.getD 20000, propTol := propTol.getD 5000, opening := k.openingNet,
    dispensed := k.drawnSince, confirmTime := stamp.1 }

/-- An entry confirmed (R82): FILLING, its announcement timer stopped. -/
def DeliveryEntry.confirm (c : Confirmation) (above : Bool) (stamp : Nat × Bool) (e : DeliveryEntry) : DeliveryEntry :=
  let e1 := e.stamped stamp.2
  { e1 with
    state := .filling, conf := some c, timer := none
    flags := { e1.flags with overTable := e1.flags.overTable || above } }

/-- An accepted CONFIRM_DELIVERY (R82): the entry, the inlet, and the loss watch suspended. -/
def acceptConfirm (e : DeliveryEntry) (c : Confirmation) (s : State) : State :=
  let k := s.tank e.tank
  (mapDeliveries (DeliveryEntry.numbered e.number) (DeliveryEntry.confirm c k.heldAbove s.stamp) s).setTank e.tank
    { k with inlet := true, window := none }

/-- CONFIRM_DELIVERY at an entry, steps 2 to 5 (R82). -/
def confirmAnswer (settle fixedTol propTol : Option Nat) (e : DeliveryEntry) (s : State) : Answer :=
  let k := s.tank e.tank
  if e.state ≠ .announced then .refuse s .wrongState
  else if !confirmInRange settle fixedTol propTol then .refuse s .range
  else if s.inletBlocked e.tank then .refuse s .tripped
  else if !k.gaugeValid then .refuse s .gauge
  else
    let c := k.confirmation settle fixedTol propTol s.stamp
    .ok (acceptConfirm e c s) (.confirmed c.opening c.settle c.fixedTol c.propTol)

/-- CONFIRM_DELIVERY (R82). -/
def execConfirmDelivery (f : Frame) (n : Nat) (settle fixedTol propTol : Option Nat) (s : State) :
    Host.Outcome State Fault Refusal :=
  .next
    (serve f 0x41#8 (.classed .delivery (addressDelivery s n)) (onDelivery n (confirmAnswer settle fixedTol propTol)) s)

/-! ## END_DELIVERY, WITHDRAW_DELIVERY, RELEASE_DELIVERY (R81, R85, R89) -/

/-- END_DELIVERY at an entry (R85). -/
def endDeliveryAnswer (e : DeliveryEntry) (s : State) : Answer :=
  match e.state with
  | .filling => .ok (endDischarge e.tank false s) .nothing
  | .settling => .ok s .nothing
  | _ => .refuse s .wrongState

/-- END_DELIVERY (R85). -/
def execEndDelivery (f : Frame) (n : Nat) (s : State) : Host.Outcome State Fault Refusal :=
  .next (serve f 0x42#8 (.classed .delivery (addressDelivery s n)) (onDelivery n endDeliveryAnswer) s)

/-- WITHDRAW_DELIVERY at an entry (R81, R89). -/
def withdrawAnswer (e : DeliveryEntry) (s : State) : Answer :=
  match e.state with
  | .announced =>
    .ok (post .delivery (mapDeliveries (DeliveryEntry.numbered e.number) (fun e => e.finish .withdrawn s.stamp) s)) .nothing
  | _ => .refuse s .wrongState

/-- WITHDRAW_DELIVERY (R81). -/
def execWithdrawDelivery (f : Frame) (n : Nat) (s : State) : Host.Outcome State Fault Refusal :=
  .next (serve f 0x43#8 (.classed .delivery (addressDelivery s n)) (onDelivery n withdrawAnswer) s)

/-- RELEASE_DELIVERY at an entry (R89). -/
def releaseDeliveryAnswer (e : DeliveryEntry) (s : State) : Answer :=
  if e.state.active then .refuse s .wrongState
  else
    .ok
      { s with
        deliveries := { s.deliveries with entries := s.deliveries.entries.filter (fun d => !d.numbered e.number) } }
      .nothing

/-- RELEASE_DELIVERY (R89). -/
def execReleaseDelivery (f : Frame) (n : Nat) (s : State) : Host.Outcome State Fault Refusal :=
  .next (serve f 0x44#8 (.classed .delivery (addressDelivery s n)) (onDelivery n releaseDeliveryAnswer) s)

/-! ## READ_DELIVERY (R91) -/

/-- READ_DELIVERY at the delivery unit (R91): 0 asks for the list. -/
def readDeliveryAnswer (n : Nat) (s : State) : Answer :=
  if n = 0 then .ok s (.deliveries (s.deliveries.entries.map (fun e => (e.number, e.tank, e.state))) s.deliveries.next)
  else onDelivery n (fun e s => .ok s (.delivery e)) s

/-- What READ_DELIVERY addresses (R92, R182): with 0 it addresses no tank. -/
def addressReadDelivery (s : State) (n : Nat) : Addressed := if n = 0 then .none else addressDelivery s n

/-- READ_DELIVERY (R91). -/
def execReadDelivery (f : Frame) (n : Nat) (s : State) : Host.Outcome State Fault Refusal :=
  .next (serve f 0x0C#8 (.classed .read (addressReadDelivery s n)) (readDeliveryAnswer n) s)

end Sys2Proof.Machine
end

