-- ==== Sys2Proof/Machine/FieldCommands.lean ====
section
/-! DEFINITION. The field commands: hook, pump, gauge and discrete inputs, and the trips they bring (R30, R57 to R75, R84,
R87, R142 to R151). -/

namespace Sys2Proof.Machine

/-! ## Hook and pump inputs (R30, R35, R38, R43, R68) -/

/-- A HOOK event (R30): asserted starts an AUTHORIZED lane, released ends a STARTING or DELIVERING one. -/
def hookEvent (l : Lane) (asserted : Bool) (s : State) : State :=
  match asserted, (s.lane l).state with
  | true, .authorized => startLane l s
  | false, .starting => endLane l .hook s
  | false, .delivering => endLane l .hook s
  | _, _ => s

/-- A HOOK sample (R30): the first agreement after the entry to RUNNING raises no event. -/
def hookSample (l : Lane) (level : Bool) (s : State) : State :=
  let u := s.lane l
  let h := u.hook.sample level
  let s1 := s.setLane l { u with hook := h }
  if u.hook.settled && decide (h.level ≠ u.hook.level) then hookEvent l h.level s1 else s1

/-- HOOK_SAMPLE (R30). -/
def execHookSample (l : Lane) (level : Bool) (s : State) : Host.Outcome State Fault Refusal :=
  .next (s.whenRunning (hookSample l level))

/-- A change of the debounced PUMP_RDY level (R68). -/
def pumpRdyEvent (t : Tank) (asserted : Bool) (s : State) : State :=
  match asserted, (s.tank t).pump with
  | true, .starting => pumpRunning t s
  | false, .running => s.setTank t ((s.tank t).setPump .starting (some Config.pumpTimeout))
  | _, _ => s

/-- A PUMP_RDY sample (R68). -/
def pumpRdySample (t : Tank) (level : Bool) (s : State) : State :=
  let k := s.tank t
  let r := k.rdy.sample level
  let s1 := s.setTank t { k with rdy := r }
  if r.level = k.rdy.level then s1 else pumpRdyEvent t r.level s1

/-- PUMP_RDY_SAMPLE (R68). -/
def execPumpRdySample (t : Tank) (level : Bool) (s : State) : Host.Outcome State Fault Refusal :=
  .next (s.whenRunning (pumpRdySample t level))

/-! ## Gauge samples (R57 to R60, R70 to R75, R83, R87) -/

/-- The alarm of a change of the debounced zone (R73): TANK_ALARM when a clear flag has been set. -/
def zoneAlarm (t : Tank) (before : Zone) (s : State) : State :=
  let k := s.tank t
  let k1 := k.latch before
  postIf (decide (k1.alarms ≠ k.alarms)) .tankAlarm (s.setTank t k1)

/-- The entry to LOW_LOW (R69, R72): the tank's lanes end with TANK_LOW and the pump is STOPPED. -/
def enterLowLow (t : Tank) (s : State) : State :=
  let s1 := endLanes (s.lanesOf t) .tankLow s
  s1.setTank t ((s1.tank t).setPump .stopped none)

/-- The zone part of a valid gauge sample (R70 to R73). -/
def zoneSample (t : Tank) (level : Nat) (s : State) : State :=
  let before := (s.tank t).zone
  let s1 := zoneAlarm t before (s.setTank t ((s.tank t).updateZone level))
  if decide ((s1.tank t).zone = .lowLow) && decide (before ≠ .lowLow) then enterLowLow t s1 else s1

/-- The loss test and the conditions handed (R72, R74, R75). -/
def testAndHand (t : Tank) (valid : Bool) (s : State) : State :=
  s.setTank t ((s.tank t).testLoss valid (s.discharging t) s.time.uptime).hand

/-- OVERFILL Tn and LOSS Tn take the conditions handed at the sample (R144). -/
def tankSources (t : Tank) (s : State) : State :=
  let k := s.tank t
  sampleSource (.loss t) k.lossHanded (sampleSource (.overfill t) k.overfillHanded s)

/-- The gauge bus after the poll of a tank (R57): the select lines carry the tank's number, the poll byte was the number, and
SCK and SDO rest (log 33). -/
def GaugeBus.polled (t : Tank) : GaugeBus :=
  { sel := BitVec.ofNat 3 t.val, poll := some (BitVec.ofNat 8 t.val), sck := false, sdo := false }

/-- A gauge sample of a tank with a gauge fitted: the poll, the reading and the gauged net, the zones, the delivery that waits, the
loss watch, the tank's sources, and the window's age (their order is log 9). -/
def gaugeEvent (t : Tank) (r : Option GaugeReading) (s : State) : State :=
  let s1 := { s.setTank t ((s.tank t).takeReading r).computeNet with bus := .polled t }
  let s2 :=
    match r with
    | some g => closingGauge t (zoneSample t g.level s1)
    | none => missedGauge t s1
  let s3 := tankSources t (testAndHand t r.isSome s2)
  s3.setTank t ((s3.tank t).ageWindow r.isSome s3.time.uptime)

/-- A gauge sample: a tank with no gauge fitted is not polled and has none (R57). -/
def gaugeSample (t : Tank) (r : Option GaugeReading) (s : State) : State :=
  if (s.tank t).cfg.gaugeFitted then gaugeEvent t r s else s

/-- GAUGE_SAMPLE (R57), with the bytes the head sent within the poll window. -/
def execGaugeSample (t : Tank) (reply : List Byte) (s : State) : Host.Outcome State Fault Refusal :=
  .next (s.whenRunning (gaugeSample t (gaugeReading reply)))

/-- GAUGE_STALE (R58): the invalid sample that brings the consecutive-invalid count to 10 (log 4). -/
def gaugeStale (t : Tank) (s : State) : State :=
  let k := s.tank t
  if k.cfg.gaugeFitted && decide (k.invalid < Config.staleCount) then
    gaugeEvent t none (s.setTank t { k with invalid := Config.staleCount - 1 })
  else s

/-- GAUGE_STALE (R58). -/
def execGaugeStale (t : Tank) (s : State) : Host.Outcome State Fault Refusal := .next (s.whenRunning (gaugeStale t))

/-- STALE_END (R87): the invalid sample that brings the count of samples waited to 10 (log 4). -/
def staleEnd (t : Tank) (s : State) : State :=
  if (s.tank t).cfg.gaugeFitted && s.deliveries.entries.any (DeliveryEntry.waits t) then
    gaugeEvent t none
      (mapDeliveries (DeliveryEntry.waits t) (fun e => { e with waited := some (Config.staleCount - 1) }) s)
  else s

/-- STALE_END (R87). -/
def execStaleEnd (t : Tank) (s : State) : Host.Outcome State Fault Refusal := .next (s.whenRunning (staleEnd t))

/-- The timer of a tank with no gauge fitted, restarted (R144). -/
def restartNoGauge (t : Tank) (s : State) : State :=
  s.setTank t { s.tank t with noGaugeTimer := some Config.samplePeriod }

/-- The expiry of the timer of a tank with no gauge fitted, once its period has run (R144): OVERFILL Tn and LOSS Tn take a
sample with the condition absent. -/
def noGaugeSample (t : Tank) (s : State) : State :=
  if ended (s.tank t).noGaugeTimer then
    sampleSource (.loss t) false (sampleSource (.overfill t) false (restartNoGauge t s))
  else s

/-- NO_GAUGE_TANK_TIMER (R144). -/
def execNoGaugeTankTimer (t : Tank) (s : State) : Host.Outcome State Fault Refusal :=
  .next (s.whenRunning (noGaugeSample t))

/-! ## Discrete inputs and trips (R144, R147) -/

/-- A reading of the sumps and the emergency-stop loop (R144), the sources in index order. -/
def discreteSample (sumpLow : BitVec 4) (loopOpen : Bool) (s : State) : State :=
  sampleSource .estop loopOpen
    (sampleSource (.sump 3) (sumpLow.getLsbD 3)
      (sampleSource (.sump 2) (sumpLow.getLsbD 2)
        (sampleSource (.sump 1) (sumpLow.getLsbD 1) (sampleSource (.sump 0) (sumpLow.getLsbD 0) s))))

/-- DISCRETE_INPUT_SAMPLE (R144). -/
def execDiscreteInputSample (sumpLow : BitVec 4) (loopOpen : Bool) (s : State) : Host.Outcome State Fault Refusal :=
  .next (s.whenRunning (discreteSample sumpLow loopOpen))

/-- A source whose run has just come to its debounce count with the condition present (R145). -/
def Source.risen (x : Source) : Source := { x with run := x.debounce, lastCond := true }

/-- SOURCE_TRIP (R147): the debounced condition of an evaluated source rises. MANUAL takes no samples: its condition is
present in the event alone (R144, R148). -/
def sourceTrip (i : SourceId) (s : State) : State :=
  match i with
  | .manual => riseSource .manual s
  | _ =>
    let x := s.source i
    if x.evaluates && decide (x.run < x.debounce) then riseSource i (s.setSource i x.risen) else s

/-- SOURCE_TRIP (R147). -/
def execSourceTrip (i : SourceId) (s : State) : Host.Outcome State Fault Refusal := .next (s.whenRunning (sourceTrip i))

end Sys2Proof.Machine
end

