-- ==== Sys2Proof/Machine/MeterCommands.lean ====
section
/-! DEFINITION. The meter commands: decoder samples, illegal transitions, index pulses, meter samples and the METER
indication (R2 to R22). -/

namespace Sys2Proof.Machine

/-! ## Edges (R2, R3, R42, R45) -/

/-- An edge arrival at the lane controller: the no-flow timer restarts in DELIVERING (R42), the settle timer in SETTLING,
its cap running on (R45). -/
def LaneUnit.hearEdge (u : LaneUnit) : LaneUnit :=
  match u.state with
  | .delivering => { u with noFlowTimer := some u.cfg.noFlowTime }
  | .settling => { u with settleTimer := some u.cfg.settleTime }
  | _ => u

/-- A missing-index restart (R7): the interval restarts existing, and the event is a miscount. -/
def missingIndex (l : Lane) (s : State) : State :=
  let u := s.lane l
  miscountEvent l (s.setLane l { u with meter := u.meter.restartInterval true })

/-- A counted edge (R2, R5, R7): the meter counts it, the lane hears it, and the missing-index figure is tested. -/
def countedEdge (l : Lane) (a b : Bool) (sign : Int) (s : State) : State :=
  let u := s.lane l
  let m := u.meter.countEdge a b sign
  let s1 := s.setLane l { u with meter := m }.hearEdge
  if m.indexMissing then missingIndex l s1 else s1

/-- An illegal transition (R3): the reference pair becomes the present pair, and the event is a miscount. -/
def illegalPair (l : Lane) (a b : Bool) (s : State) : State :=
  let u := s.lane l
  miscountEvent l (s.setLane l { u with meter := { u.meter with refA := a, refB := b } })

/-- A decoder input sample with the levels a and b (R2, R3). -/
def decoderSample (l : Lane) (a b : Bool) (s : State) : State :=
  match transition (s.lane l).meter.refA (s.lane l).meter.refB a b with
  | .unchanged => s
  | .edge sign => countedEdge l a b sign s
  | .illegal => illegalPair l a b s

/-- QUADRATURE_EDGE (R2): a decoder input sample while RUNNING. -/
def execQuadratureEdge (l : Lane) (a b : Bool) (s : State) : Host.Outcome State Fault Refusal :=
  .next (s.whenRunning (decoderSample l a b))

/-- ILLEGAL_TRANSITION (R3): both channels have changed from the reference pair. -/
def execIllegalTransition (l : Lane) (s : State) : Host.Outcome State Fault Refusal :=
  .next (s.whenRunning (fun s => illegalPair l (!(s.lane l).meter.refA) (!(s.lane l).meter.refB) s))

/-- METER_FAULT (R9): the miscount event that brings the consecutive count to the limit, while the lane is in the metered
phase with its count below the limit; elsewhere no indication is handed (log 4). -/
def meterFault (l : Lane) (s : State) : State :=
  let u := s.lane l
  if u.state.metered && decide (u.meter.consec < u.cfg.miscountLimit) then
    miscountEvent l (s.setLane l { u with meter := { u.meter with consec := u.cfg.miscountLimit - 1 } })
  else s

/-- METER_FAULT (R9). -/
def execMeterFault (l : Lane) (s : State) : Host.Outcome State Fault Refusal := .next (s.whenRunning (meterFault l))

/-- An index pulse while the index check is on (R5, R6): the interval is judged, then restarts existing. -/
def indexPulse (l : Lane) (s : State) : State :=
  let u := s.lane l
  if u.meter.params.epr = 0 then s
  else
    let m := u.meter.restartInterval true
    match u.meter.judge with
    | .nothing => s.setLane l { u with meter := m }
    | .good => s.setLane l { u with meter := { m with consec := 0 } }
    | .bad => miscountEvent l (s.setLane l { u with meter := m })

/-- INDEX_PULSE (R6). -/
def execIndexPulse (l : Lane) (s : State) : Host.Outcome State Fault Refusal := .next (s.whenRunning (indexPulse l))

/-! ## The meter sample (R10 to R22) -/

/-- The meter unit after a transaction-path sample (R4, R8, R11 to R19). -/
def LaneUnit.txnMeter (u : LaneUnit) (alpha : Nat) (held : Option Int) : Meter :=
  (u.meter.takeSample true).txnPath u.meter.deltaE u.meter.clamps alpha held u.cfg.reverseLimit

/-- A lane whose meter unit has taken a transaction-path sample, its figures written into the context (R17). -/
def LaneUnit.takeTxnSample (u : LaneUnit) (alpha : Nat) (held : Option Int) : LaneUnit :=
  { u with meter := u.txnMeter alpha held, ctx := u.ctx.map (fun c => { c with figures := (u.txnMeter alpha held).figures }) }

/-- The fault indications that come with a sample: METER from a clamp that reaches the limit (R4, R9), REVERSE at the first
sample whose reverse sum exceeds the limit (R18). before is the meter unit before the sample. -/
def sampleFaults (l : Lane) (before : Meter) (s : State) : State :=
  let u := s.lane l
  let s1 := faultIf (before.clamps && before.reachesLimit u.cfg.miscountLimit) l .meter s
  faultIf (u.meter.revGiven && !before.revGiven) l .reverse s1

/-- A transaction-path sample: the meter's figures, the draw booked with its trim, the faults, the preset and stage, and
the overrun (R15, R17, R18, R40, R41, R45, R62; their order is log 8). -/
def txnSample (l : Lane) (s : State) : State :=
  let u := s.lane l
  let k := s.tank u.cfg.tank
  let u1 := u.takeTxnSample k.alpha k.t10
  testOverrun l
    (testPreset l (sampleFaults l u.meter (bookDraw l (u1.meter.net - u.meter.net) (s.setLane l u1))))

/-- A lane whose meter unit has taken a creep-path sample (R20, R21). -/
def LaneUnit.takeCreepSample (u : LaneUnit) : LaneUnit :=
  { u with meter := (u.meter.takeSample false).creepPath u.meter.deltaE u.cfg.creepLimit }

/-- A meter sample (R10): its path chosen by the lane state as the sample is taken; then the rate and the creep condition
reach HOSE Ln (R22, R144). -/
def meterSample (l : Lane) (s : State) : State :=
  let u := s.lane l
  sampleHose l (if u.state.metered then txnSample l s else s.setLane l u.takeCreepSample)

/-- METER_SAMPLE (R15). -/
def execMeterSample (l : Lane) (s : State) : Host.Outcome State Fault Refusal := .next (s.whenRunning (meterSample l))

end Sys2Proof.Machine
end

