-- ==== Sys2Proof/Machine/OrderCommands.lean ====
section
/-! DEFINITION. The order list's requests: PLACE_ORDER, CANCEL_ORDER and LIST_ORDERS (R116, R118, R122). -/

namespace Sys2Proof.Machine

/-- A new order with the list's next free number (R115, R116). -/
def OrderList.newOrder (q : OrderList) (tag : Tag) (t : Tank) (volume : Nat) (priority : Bool) (expiry uptime : Nat) : Order :=
  { number := freeNumber (fun n => (findOrder q.orders n).isSome) (Config.orderPlaces + 1) q.next, tag := tag, tank := t,
    volume := volume, priority := priority, placedAt := uptime, expiry := expiry, claimedBy := none }

/-- The list with a new order at its end (R115, R116). -/
def OrderList.place (q : OrderList) (o : Order) : OrderList :=
  { orders := q.orders ++ [o], next := nextNumber 65535 o.number }

/-- Steps 2 to 6 of PLACE_ORDER and its acceptance (R116). -/
def placeChecked (tag : Tag) (t : Tank) (volume : Nat) (priority : Bool) (expiry : Nat) (s : State) : Answer :=
  match accountCheck (findAccount s.accounts.slots tag) t with
  | some st => .refuse s st
  | none =>
    if s.orders.orders.any (fun o => decide (o.tag = tag) && decide (o.tank = t)) then .refuse s .alreadyExists
    else if Config.orderPlaces ≤ s.orders.orders.length then .refuse s .full
    else
      let o := s.orders.newOrder tag t volume priority expiry s.time.uptime
      .ok { s with orders := s.orders.place o } (.placed o.number o.placedAt o.deadline)

/-- PLACE_ORDER at the order list (R116). -/
def placeOrderAnswer (tag : Tag) (tank volume priority expiry : Nat) (s : State) : Answer :=
  match eightOf tank, flagOf priority with
  | some t, some p =>
    if within 1 Config.maxPreset volume && decide (expiry ≤ 86400) then placeChecked tag t volume p expiry s
    else .refuse s .range
  | _, _ => .refuse s .range

/-- PLACE_ORDER (R116). -/
def execPlaceOrder (f : Frame) (tag : Tag) (tank volume priority expiry : Nat) (s : State) :
    Host.Outcome State Fault Refusal :=
  .next (serve f 0x20#8 (.classed .order (addressTank tank)) (placeOrderAnswer tag tank volume priority expiry) s)

/-- CANCEL_ORDER at the order list (R118). -/
def cancelOrderAnswer (n : Nat) (s : State) : Answer :=
  match findOrder s.orders.orders n with
  | none => .refuse s .notFound
  | some o =>
    if o.claimedBy.isSome then .refuse s .tooLate
    else .ok { s with orders := { s.orders with orders := removeOrder n s.orders.orders } } .nothing

/-- CANCEL_ORDER (R118). -/
def execCancelOrder (f : Frame) (n : Nat) (s : State) : Host.Outcome State Fault Refusal :=
  .next (serve f 0x21#8 (.classed .order (addressOrder s n)) (cancelOrderAnswer n) s)

/-- An order as LIST_ORDERS gives it (R122): a deadline that has passed shows time left 0. -/
def State.orderReport (s : State) (o : Order) : OrderReport :=
  { order := o, slot := (findAccount s.accounts.slots o.tag).map (fun e => e.1),
    timeLeft := o.deadline.map (fun d => d - s.time.uptime) }

/-- LIST_ORDERS at the order list (R122). -/
def listOrdersAnswer (s : State) : Answer :=
  .ok s (.orders (s.orders.orders.map s.orderReport) s.orders.next s.time.uptime)

/-- LIST_ORDERS (R122). -/
def execListOrders (f : Frame) (s : State) : Host.Outcome State Fault Refusal :=
  .next (serveClass f 0x0B#8 .read listOrdersAnswer s)

end Sys2Proof.Machine
end

