-- ==== Sys2Proof/Machine/PortCommands.lean ====
section
/-! DEFINITION. The link port commands: framing events, replies, unknown requests, and the requests a port owns (R174 to
R191). -/

namespace Sys2Proof.Machine

/-! ## The line (R171, R175, R176) -/

/-- A port acts on its line while the device is not held (R171, R197). -/
def State.onLine (s : State) (f : State → State) : State :=
  match s.device.phase with
  | .held => s
  | _ => f s

/-- A port back in HUNTING with an empty buffer (R175). -/
def Port.hunt (p : Port) : Port := { p with rx := .hunting, rxBuffer := [] }

/-- The characters of the frame that a port is receiving: those of its buffer, and none unless it is RECEIVING (R175). -/
def Port.heard (p : Port) : List Byte :=
  match p.rx with
  | .receiving => p.rxBuffer
  | _ => []

/-- The receive state over a buffer (R175): HUNTING over an empty one, RECEIVING over another. -/
def rxOver (buffer : List Byte) : RxState := if buffer.isEmpty then .hunting else .receiving

/-- A port over a buffer, with n frames rejected on the way (R175): the CRC counter rises by one for each. -/
def Port.withBuffer (buffer : List Byte) (n : Nat) (p : Port) : Port :=
  { p with rx := rxOver buffer, rxBuffer := buffer, crcCount := satAdd 255 p.crcCount n }

/-- A port that can take a frame after characters from the line (R175), each taken by its buffer as it then stands. A frame
accepted on the way is a request command of its own, and these characters then change nothing (log 23). -/
def Port.hear (bytes : List Byte) (stopLow : Bool) (p : Port) : Port :=
  if p.ready then
    match receiveChars p.heard bytes stopLow with
    | some r => p.withBuffer r.1 r.2
    | none => p
  else p

/-- A gap of more than 5 ms (R175): in a frame the GAP counter rises, the buffer empties, and the port hunts. Outside
RECEIVING there is no frame for it to end. -/
def Port.gapFrame (p : Port) : Port :=
  match p.rx with
  | .receiving => { p.hunt with gapCount := satAdd 255 p.gapCount 1 }
  | _ => p

/-- FRAME_REJECTED (R175): characters that end in the rejection of a frame; what else they do is R175's as well (log 23). -/
def execFrameRejected (i : PortId) (bytes : List Byte) (stopLow : Bool) (s : State) : Host.Outcome State Fault Refusal :=
  .next (s.onLine (fun s => s.setPort i ((s.port i).hear bytes stopLow)))

/-- FRAME_GAP_TIMEOUT (R175): the gap that ends the frame a port is receiving. -/
def execFrameGapTimeout (i : PortId) (s : State) : Host.Outcome State Fault Refusal :=
  .next (s.onLine (fun s => s.setPort i (s.port i).gapFrame))

/-- OVERLAPPING_FRAME (R176). -/
def execOverlappingFrame (i : PortId) (s : State) : Host.Outcome State Fault Refusal :=
  .next (s.onLine (fun s => s.overlapAt i))

/-- The line idle for more than 5 ms in SHUNNING (R176). -/
def Port.endShunning (p : Port) : Port :=
  match p.rx with
  | .shunning => p.hunt
  | _ => p

/-- SHUNNING_IDLE_END (R176). -/
def execShunningIdleEnd (i : PortId) (s : State) : Host.Outcome State Fault Refusal :=
  .next (s.onLine (fun s => s.setPort i (s.port i).endShunning))

/-- The end of a reply (R174, R176): DE and TX are released; an overlapped port shuns, and a reply that has crossed a restart ends
in HUNTING at the new rate (log 7). -/
def Port.endReply (rate : BitVec 2) (p : Port) : Port :=
  match p.rx with
  | .busy =>
    let q := { p with de := false, tx := .high, reply := none, overlapMark := false, crossing := false, rxBuffer := [] }
    if p.crossing then { q with rx := .hunting, rate := rate }
    else if p.overlapMark then { q with rx := .shunning }
    else { q with rx := .hunting }
  | _ => p

/-- REPLY_COMPLETE (R176). -/
def execReplyComplete (i : PortId) (s : State) : Host.Outcome State Fault Refusal :=
  .next (s.onLine (fun s => s.setPort i ((s.port i).endReply s.device.lineRate)))

/-- UNKNOWN_REQUEST (R177, step 1): an accepted frame whose code or payload length the device does not know is answered
BAD_REQUEST, while RESTORING as well (R171). A code and payload that pass step 1 are no unknown request and change
nothing. -/
def execUnknownRequest (f : Frame) (code : Byte) (payload : List Byte) (s : State) : Host.Outcome State Fault Refusal :=
  .next
    (s.onLine (fun s =>
      if requestKnown f code payload then s
      else if (s.port f.port).ready then s.reply f code .badRequest .nothing
      else s.overlapAt f.port))

/-! ## Events and attention (R186 to R189) -/

/-- READ_EVENTS at its port (R188): the set is left in WRITE and emptied in READ and PULSE. -/
def Port.takeEvents (p : Port) : Port :=
  match p.mode with
  | .write => p
  | _ => { p with pendingSet := 0#16 }.followSet

/-- READ_EVENTS at the port (R188). -/
def readEventsAnswer (i : PortId) (s : State) : Answer :=
  let p := s.port i
  .ok (s.setPort i p.takeEvents) (.events p.pendingSet p.mask p.mode.code)

/-- READ_EVENTS (R188). -/
def execReadEvents (f : Frame) (s : State) : Host.Outcome State Fault Refusal :=
  .next (serveClass f 0x01#8 .read (readEventsAnswer f.port) s)

/-- Kinds removed from a port's pending set (R188). -/
def Port.removeKinds (kinds : EventSet) (p : Port) : Port := { p with pendingSet := p.pendingSet &&& ~~~kinds }.followSet

/-- CLEAR_EVENTS at the port (R188, R195). -/
def clearEventsAnswer (i : PortId) (kinds : BitVec 16) (s : State) : Answer :=
  if kindsOnly kinds then
    let p := (s.port i).removeKinds kinds
    .ok (s.setPort i p) (.eventsLeft p.pendingSet)
  else .refuse s .range

/-- CLEAR_EVENTS (R188). -/
def execClearEvents (f : Frame) (kinds : BitVec 16) (s : State) : Host.Outcome State Fault Refusal :=
  .next (serveClass f 0x02#8 .read (clearEventsAnswer f.port kinds) s)

/-- The three attention settings replaced, and the line under them (R189). -/
def Port.setAttention (mask : EventSet) (mode : LatchMode) (width : Nat) (p : Port) : Port :=
  let q := { p with mask := mask, mode := mode, width := width }
  match mode, p.mode with
  | .pulse, .pulse => q
  | .pulse, _ => { q with pulse := none, attn := false }
  | _, _ => { q with pulse := none }.followSet

/-- SET_ATTENTION at the port (R189, R195). -/
def setAttentionAnswer (i : PortId) (mask : BitVec 16) (mode width : Nat) (s : State) : Answer :=
  match modeOf mode with
  | some m =>
    if kindsOnly mask && decide (width ∈ pulseWidths) then
      .ok (s.setPort i ((s.port i).setAttention mask m width)) (.attention mask mode width)
    else .refuse s .range
  | none => .refuse s .range

/-- SET_ATTENTION (R189). -/
def execSetAttention (f : Frame) (mask : BitVec 16) (mode width : Nat) (s : State) : Host.Outcome State Fault Refusal :=
  .next (serveClass f 0x03#8 .read (setAttentionAnswer f.port mask mode width) s)

/-- What READ_PORT reports (R179). -/
def State.portReport (s : State) (i : PortId) : PortReport :=
  let p := s.port i
  { port := i, lineRate := lineRateBaud p.rate, gapCount := p.gapCount, crcCount := p.crcCount, overlapCount := p.overlapCount,
    dispatchLevel := s.ports.dispatch.level, consoleLevel := s.ports.console.level, receiptLevel := s.ports.receipt.level,
    openLevel := s.ports.openLevel, deniedClasses := p.denial.classes, deniedLanes := p.denial.lanes,
    deniedTanks := p.denial.tanks, pendingSet := p.pendingSet, mask := p.mask, mode := p.mode.code, width := p.width,
    cursor := p.cursor, clock := s.time.clock, clockSet := s.time.isSet, uptime := s.time.uptime }

/-- A port's three counters at 0 (R179). -/
def Port.clearCounters (p : Port) : Port := { p with gapCount := 0, crcCount := 0, overlapCount := 0 }

/-- READ_PORT at the port (R179). -/
def readPortAnswer (i : PortId) (s : State) : Answer :=
  .ok (s.setPort i (s.port i).clearCounters) (.port (s.portReport i))

/-- READ_PORT (R179). -/
def execReadPort (f : Frame) (s : State) : Host.Outcome State Fault Refusal :=
  .next (serveClass f 0x04#8 .read (readPortAnswer f.port) s)

/-! ## Access settings and the bay clock (R184, R190) -/

/-- The levels SET_ACCESS carries are 0 to 3 and leave a port at level 0 (R184). -/
def levelsOk (v : AccessSetting) : Bool :=
  decide (v.dispatchLevel ≤ 3) && decide (v.consoleLevel ≤ 3) && decide (v.receiptLevel ≤ 3) && decide (v.openLevel ≤ 3)
    && (decide (v.dispatchLevel = 0) || decide (v.consoleLevel = 0) || decide (v.receiptLevel = 0))

/-- A port's access settings replaced (R184). -/
def Port.setAccess (level : Nat) (d : DenialMap) (p : Port) : Port := { p with level := level, denial := d }

/-- SET_ACCESS at the ports (R184, R192). -/
def setAccessAnswer (v : AccessSetting) (s : State) : Answer :=
  match denialOf v.dispatchDenial, denialOf v.consoleDenial, denialOf v.receiptDenial with
  | some d, some c, some r =>
    if levelsOk v then
      .ok
        { s with
          ports :=
            { dispatch := s.ports.dispatch.setAccess v.dispatchLevel d
              console := s.ports.console.setAccess v.consoleLevel c
              receipt := s.ports.receipt.setAccess v.receiptLevel r
              openLevel := v.openLevel } }
        (.access v)
    else .refuse s .range
  | _, _, _ => .refuse s .range

/-- SET_ACCESS (R181, R184). -/
def execSetAccess (f : Frame) (v : AccessSetting) (s : State) : Host.Outcome State Fault Refusal :=
  .next (serve f 0x5F#8 .levelZero (setAccessAnswer v) s)

/-- SET_CLOCK at the bay clock (R190). -/
def setClockAnswer (value : Nat) (s : State) : Answer :=
  if value ≤ Config.max32 then
    .ok { s with time := { s.time with clock := value, isSet := true } } (.clock value s.time.uptime)
  else .refuse s .range

/-- SET_CLOCK (R190). -/
def execSetClock (f : Frame) (value : Nat) (s : State) : Host.Outcome State Fault Refusal :=
  .next (serveClass f 0x5E#8 .config (setClockAnswer value) s)

end Sys2Proof.Machine
end

