-- ==== Sys2Proof/Machine/ReadCommands.lean ====
section
/-! DEFINITION. The reads of lanes and tanks: READ_LANE, READ_STOCK and READ_TANK (R27, R52, R76, R77). -/

namespace Sys2Proof.Machine

/-! ## READ_LANE (R27, R51, R52) -/

/-- The meter figures that READ_LANE reports (R27). -/
def Meter.report (m : Meter) : MeterReport :=
  { totalizer := m.totalizer, rate := m.rate, band := m.band, consec := m.consec, creepGross := m.creepGross,
    creepCond := m.creepCond, creepTotal := m.creepTotal, gross := m.gross, net := m.net, revSum := m.revSum,
    txnMiscounts := m.txnMiscounts, lastT10 := m.lastT10, flags := m.flags }

/-- What READ_LANE says of an open transaction (R52). -/
def Context.report (c : Context) : TxnReport :=
  { tag := c.tag, order := c.order, preset := c.preset, effPreset := c.effPreset, hours := c.hours, startTime := c.startTime,
    flags := c.flags, endReason := c.endReason, stageAtEnd := c.stageAtEnd }

/-- What READ_LANE reports (R52). -/
def LaneUnit.report (u : LaneUnit) (blocked : Bool) : LaneReport :=
  { state := u.state, stage := u.stage, hook := u.hook.level, vlo := u.vlo, vhi := u.vhi, pendingDisable := u.pendingDisable,
    held := u.held, counters := u.counters, blocked := blocked, cfg := u.cfg, meter := u.meter.report,
    txn := u.ctx.map Context.report }

/-- A lane's event counters at 0 (R51). -/
def LaneUnit.clearCounters (u : LaneUnit) : LaneUnit := { u with counters := ⟨0, 0, 0, 0⟩ }

/-- READ_LANE at a lane (R52): the reply carries the counters, which the read then clears (R51). -/
def readLaneAnswer (l : Lane) (s : State) : Answer :=
  .ok (s.setLane l (s.lane l).clearCounters) (.lane ((s.lane l).report (s.laneBlocked l)))

/-- READ_LANE (R52). -/
def execReadLane (f : Frame) (lane : Nat) (s : State) : Host.Outcome State Fault Refusal :=
  .next (serve f 0x05#8 (.classed .read (addressLane s lane)) (onLane lane readLaneAnswer) s)

/-! ## READ_STOCK and READ_TANK (R76, R77) -/

/-- A tank's summary (R76). -/
def State.tankSummary (s : State) (t : Tank) : TankSummary :=
  let k := s.tank t
  { book := k.book, allocated := allocated k.draws, available := k.available false, gaugedNet := k.gaugedNet,
    level := k.level, t10 := k.t10, gaugeValid := k.gaugeValid, zone := k.zone, alarms := k.alarms,
    activeDelivery := s.hasActiveDelivery t, shortage := k.shortage }

/-- READ_STOCK (R76). -/
def execReadStock (f : Frame) (s : State) : Host.Outcome State Fault Refusal :=
  .next (serveClass f 0x06#8 .read (fun s => .ok s (.stock (Eight.ofFn s.tankSummary))) s)

/-- Whether the loss watch is reported as running (R77): its conditions hold and it has a window. Between a discard of the
window and the next valid gauge sample it is taken as not yet begun, as at ADJUST_STOCK (log 12). -/
def State.watching (s : State) (t : Tank) : Bool := (s.tank t).watchRuns (s.discharging t) && (s.tank t).window.isSome

/-- What READ_TANK reports beyond the summary (R77): the window and the loss at the latest valid sample only of a watch that
runs. -/
def State.tankReport (s : State) (t : Tank) : TankReport :=
  let k := s.tank t
  { summary := s.tankSummary t, cfg := k.cfg, reserve := k.reserve, alpha := k.alpha, points := k.points,
    overTable := k.overTable, invalid := k.invalid, rawZone := k.rawZone, runs := k.runs, draws := k.draws, pump := k.pump,
    pumpRun := k.pumpRun, rdy := k.rdy.level, pumpTimer := k.pumpTimer, watchRuns := s.watching t,
    window := if s.watching t then k.window else none
    lastLoss := if s.watching t then k.lastLoss else none
    lossHanded := k.lossHanded, overfillHanded := k.overfillHanded }

/-- READ_TANK (R77). -/
def execReadTank (f : Frame) (tank : Nat) (s : State) : Host.Outcome State Fault Refusal :=
  .next
    (serve f 0x07#8 (.classed .read (addressTank tank)) (onTank tank (fun t s => .ok s (.tank (s.tankReport t)))) s)

end Sys2Proof.Machine
end

