-- ==== Sys2Proof/Machine/RecordCommands.lean ====
section
/-! DEFINITION. The record queue's requests (R137 to R140). -/

namespace Sys2Proof.Machine

/-- SET_RECORD_POLICY at the record queue (R136, R137). -/
def setPolicyAnswer (policy threshold : Nat) (s : State) : Answer :=
  match policyOf policy with
  | some p =>
    if within 1 64 threshold then
      .ok
        (postIf (decide (threshold ≤ s.records.completed.length)) .records
          { s with records := { s.records with policy := p, threshold := threshold } })
        (.policy p threshold s.records.completed.length)
    else .refuse s .range
  | none => .refuse s .range

/-- SET_RECORD_POLICY (R137). -/
def execSetRecordPolicy (f : Frame) (policy threshold : Nat) (s : State) : Host.Outcome State Fault Refusal :=
  .next (serveClass f 0x5D#8 .config (setPolicyAnswer policy threshold) s)

/-- COLLECT_RECORDS at the record queue (R138). -/
def collectAnswer (count : Nat) (s : State) : Answer :=
  if within 1 4 count then .ok s (.collected (s.records.completed.take count) s.records.completed.length)
  else .refuse s .range

/-- COLLECT_RECORDS (R138). -/
def execCollectRecords (f : Frame) (count : Nat) (s : State) : Host.Outcome State Fault Refusal :=
  .next (serveClass f 0x48#8 .records (collectAnswer count) s)

/-- RELEASE_RECORDS at the record queue (R139). -/
def releaseAnswer (n : Nat) (s : State) : Answer :=
  match releaseThrough n s.records.completed with
  | none => .refuse s .notFound
  | some rest =>
    .ok { s with records := { s.records with completed := rest } }
      (.released (s.records.completed.length - rest.length) rest.length)

/-- RELEASE_RECORDS (R139). -/
def execReleaseRecords (f : Frame) (n : Nat) (s : State) : Host.Outcome State Fault Refusal :=
  .next (serveClass f 0x49#8 .records (releaseAnswer n) s)

/-- What READ_RECORD_STATUS reports (R140). -/
def RecordQueue.report (q : RecordQueue) : RecordStatusReport :=
  { policy := q.policy, threshold := q.threshold, completed := q.completed.length, reservations := setCount q.reserved,
    free := q.free, reserved := q.reserved, oldest := q.completed.head?.map (fun r => r.number),
    newest := q.completed.getLast?.map (fun r => r.number), next := q.next, dropped := q.dropped,
    droppedFlag := decide (0 < q.dropped) }

/-- READ_RECORD_STATUS at the record queue (R140): the reply carries the values before the clear. -/
def recordStatusAnswer (clearDropped : Nat) (s : State) : Answer :=
  match flagOf clearDropped with
  | none => .refuse s .range
  | some clear =>
    .ok (if clear then { s with records := { s.records with dropped := 0 } } else s) (.recordStatus s.records.report)

/-- READ_RECORD_STATUS (R140). -/
def execReadRecordStatus (f : Frame) (clearDropped : Nat) (s : State) : Host.Outcome State Fault Refusal :=
  .next (serveClass f 0x11#8 .read (recordStatusAnswer clearDropped) s)

end Sys2Proof.Machine
end

