-- ==== Sys2Proof/Machine/SafetyCommands.lean ====
section
/-! DEFINITION. The spill shutdown unit's requests (R148, R152 to R154, R156, R158 to R160). -/

namespace Sys2Proof.Machine

/-! ## REARM (R153, R154) -/

/-- A request that names a source by its index: RANGE outside 0 to 29. -/
def onSource (index : Nat) (act : SourceId → State → Answer) (s : State) : Answer :=
  match sourceOf index with
  | some i => act i s
  | none => .refuse s .range

/-- REARM of one source (R153). -/
def rearmAnswer (i : SourceId) (s : State) : Answer :=
  let x := s.source i
  if !x.isTripped then .refuse s .wrongState
  else if x.rearmable then .ok (s.setSource i { x with isTripped := false }) .nothing
  else .refuse s .stillActive

/-- REARM, one source (R153). -/
def execRearm (f : Frame) (index : Nat) (s : State) : Host.Outcome State Fault Refusal :=
  .next (serveClass f 0x50#8 .safety (onSource index rearmAnswer) s)

/-- REARM ALL at the spill unit (R154): every TRIPPED source judged, the sources that remain TRIPPED listed. -/
def rearmAllAnswer (s : State) : Answer :=
  let s1 := { s with spill := { s.spill with sources := s.spill.sources.map Source.judgeRearm } }
  { state := s1, status := if s1.trippedSources.isEmpty then .ok else .stillActive, payload := .remaining s1.trippedSources }

/-- REARM ALL (R154). -/
def execRearmAll (f : Frame) (s : State) : Host.Outcome State Fault Refusal :=
  .next (serveClass f 0x51#8 .safety rearmAllAnswer s)

/-! ## MANUAL_TRIP (R148) -/

/-- MANUAL_TRIP at the spill unit (R148): the reply says whether it tripped the source, and the trip's number. -/
def manualTripAnswer (s : State) : Answer :=
  let tripped := (s.source .manual).isTripped
  .ok (riseSource .manual s) (.manual (!tripped) (if tripped then none else some s.spill.nextTrip))

/-- MANUAL_TRIP (R148). -/
def execManualTrip (f : Frame) (s : State) : Host.Outcome State Fault Refusal :=
  .next (serveClass f 0x52#8 .safety manualTripAnswer s)

/-! ## The trip list and the capture (R156, R158 to R160) -/

/-- RELEASE_TRIPS at the spill unit (R156). -/
def releaseTripsAnswer (n : Nat) (s : State) : Answer :=
  match tripsAfter n s.spill.trips with
  | none => .refuse s .notFound
  | some rest =>
    .ok { s with spill := { s.spill with trips := rest } } (.tripsReleased (s.spill.trips.length - rest.length))

/-- RELEASE_TRIPS (R156). -/
def execReleaseTrips (f : Frame) (n : Nat) (s : State) : Host.Outcome State Fault Refusal :=
  .next (serveClass f 0x53#8 .safety (releaseTripsAnswer n) s)

/-- RELEASE_CAPTURE at the spill unit (R158). -/
def releaseCaptureAnswer (s : State) : Answer :=
  match s.spill.capture with
  | .full _ => .ok { s with spill := { s.spill with capture := .empty } } .nothing
  | _ => .refuse s .wrongState

/-- RELEASE_CAPTURE (R158). -/
def execReleaseCapture (f : Frame) (s : State) : Host.Outcome State Fault Refusal :=
  .next (serveClass f 0x54#8 .safety releaseCaptureAnswer s)

/-- The post-trip samples of a capture from an index on, at most four (R159). -/
def Capture.samplesFrom (start : Nat) : Capture → List PostSample
  | .empty => []
  | .filling c => (c.samples.drop start).take 4
  | .full c => (c.samples.drop start).take 4

/-- READ_CAPTURE at the spill unit (R159). -/
def readCaptureAnswer (start : Nat) (s : State) : Answer :=
  if start ≤ 31 then .ok s (.capture s.spill.capture (s.spill.capture.samplesFrom start)) else .refuse s .range

/-- READ_CAPTURE (R159). -/
def execReadCapture (f : Frame) (start : Nat) (s : State) : Host.Outcome State Fault Refusal :=
  .next (serveClass f 0x0F#8 .read (readCaptureAnswer start) s)

/-- What the list form of READ_TRIPS reports (R160). -/
def State.tripsReport (s : State) : TripsReport :=
  { trips := s.spill.trips, dropped := s.spill.tripsDropped, next := s.spill.nextTrip, trippedSources := s.trippedSources,
    blockedLanes := setOf s.laneBlocked, blockedInlets := setOf s.inletBlocked }

/-- READ_TRIPS, list form, at the spill unit (R160): the reply carries the dropped count before the clear. -/
def readTripsAnswer (clearDropped : Nat) (s : State) : Answer :=
  match flagOf clearDropped with
  | none => .refuse s .range
  | some clear =>
    .ok (if clear then { s with spill := { s.spill with tripsDropped := 0 } } else s) (.trips s.tripsReport)

/-- READ_TRIPS, list form (R160). -/
def execReadTrips (f : Frame) (clearDropped : Nat) (s : State) : Host.Outcome State Fault Refusal :=
  .next (serveClass f 0x0D#8 .read (readTripsAnswer clearDropped) s)

/-- Whether a source has a hose limit and a creep-taken mark: it is a HOSE source (R143, R152, R160). -/
def usesHoseLimit : SourceId → Bool
  | .hose _ => true
  | _ => false

/-- Whether a source has a debounce count: it is not MANUAL (R143, R152). -/
def usesDebounce : SourceId → Bool
  | .manual => false
  | _ => true

/-- A source as READ_TRIPS returns it (R160), with the items that this source has (R143). -/
def Source.report (x : Source) (i : SourceId) : SourceReport :=
  { id := i, isTripped := x.isTripped, enabled := x.enabled, debounce := if usesDebounce i then some x.debounce else none,
    hoseLimit := if usesHoseLimit i then some x.hoseLimit else none, lanes := x.lanes, inlets := x.inlets,
    tripCount := x.tripCount, run := x.run, blanking := x.blanking, lastCond := x.lastCond, debounced := x.debounced,
    creepTaken := if usesHoseLimit i then some x.creepTaken else none }

/-- READ_TRIPS, source form (R160). -/
def execReadTripsSource (f : Frame) (index : Nat) (s : State) : Host.Outcome State Fault Refusal :=
  .next (serveClass f 0x0E#8 .read (onSource index (fun i s => .ok s (.source ((s.source i).report i)))) s)

/-! ## SET_SOURCE (R149, R152) -/

/-- A source under new values, its state as it was (R152); an enable of 1 enables it (log 34). -/
def Source.configure (x : Source) (i : SourceId) (v : SourceSetting) : Source :=
  { x with
    enabled := decide (v.enable = 1)
    debounce := if usesDebounce i then v.debounce else x.debounce
    hoseLimit := if usesHoseLimit i then v.hoseLimit else x.hoseLimit
    lanes := v.lanes
    inlets := v.inlets
    tripCount := if v.clearCount = 1 then 0 else x.tripCount }

/-- Whether a change of values starts blanking (R149). -/
def Source.blanksAgainst (x y : Source) : Bool :=
  decide (x.enabled ≠ y.enabled) || decide (x.debounce ≠ y.debounce) || decide (x.hoseLimit ≠ y.hoseLimit)

/-- The lanes that a map change of a TRIPPED source newly blocks: those added that were not blocked already (R152). -/
def State.newlyBlocked (s : State) (added : LaneSet) : LaneSet := added &&& ~~~(setOf s.laneBlocked)

/-- The inlets that a map change of a TRIPPED source newly blocks (R152). -/
def State.newlyBlockedInlets (s : State) (added : TankSet) : TankSet := added &&& ~~~(setOf s.inletBlocked)

/-- An accepted SET_SOURCE (R152): values replaced, blanking started where they change, and the lanes and inlets added to
the map of a TRIPPED source blocked. -/
def changeSource (i : SourceId) (v : SourceSetting) (s : State) : State :=
  let x := s.source i
  let y := x.configure i v
  let s1 := s.setSource i (if x.blanksAgainst y then y.blank else y)
  if x.isTripped then
    blockAll (s.newlyBlocked (v.lanes &&& ~~~x.lanes)) (s.newlyBlockedInlets (v.inlets &&& ~~~x.inlets)) s1
  else s1

/-- A source's values and state as SET_SOURCE returns them (R152), with the items that this source has (R143). -/
def Source.values (x : Source) (i : SourceId) : SourceValues :=
  { enabled := x.enabled, debounce := if usesDebounce i then some x.debounce else none,
    hoseLimit := if usesHoseLimit i then some x.hoseLimit else none, lanes := x.lanes, inlets := x.inlets,
    isTripped := x.isTripped }

/-- SET_SOURCE, source form, at the spill unit (R152): the reply carries the values and state after the change. -/
def setSourceAnswer (v : SourceSetting) (i : SourceId) (s : State) : Answer :=
  if sourceSettingOk i v then
    let s1 := changeSource i v s
    .ok s1 (.sourceSet ((s1.source i).values i))
  else .refuse s .range

/-- SET_SOURCE, source form (R152). -/
def execSetSource (f : Frame) (index : Nat) (v : SourceSetting) (s : State) : Host.Outcome State Fault Refusal :=
  .next (serveClass f 0x5A#8 .config (onSource index (setSourceAnswer v)) s)

/-- SET_SOURCE, unit form, at the spill unit (R152, R157). -/
def setUnitAnswer (count : Nat) (s : State) : Answer :=
  if count ≤ 32 then .ok { s with spill := { s.spill with captureCount := count } } (.captureCount count)
  else .refuse s .range

/-- SET_SOURCE, unit form (R152). -/
def execSetSourceUnit (f : Frame) (count : Nat) (s : State) : Host.Outcome State Fault Refusal :=
  .next (serveClass f 0x5B#8 .config (setUnitAnswer count) s)

end Sys2Proof.Machine
end

