-- ==== Sys2Proof/Machine/StartUpCommands.lean ====
section
/-! DEFINITION. The commands of supply, reset and restart (R169 to R173, R197). -/

namespace Sys2Proof.Machine

/-- POWER_ON (R172): the supply reaches its operating level and RESTORING begins, unless RESET is held low (R171). In a
device that has power it is a dip and rise of the supply (log 5). -/
def execPowerOn (straps : BitVec 2) (s : State) : Host.Outcome State Fault Refusal :=
  .next (powerUp straps { s with device := { s.device with powered := true } })

/-- RESET_ASSERTED (R197): the RESET pin low, or a supply below 2.7 V, holds the device in reset. -/
def execResetAsserted (cause : ResetCause) (s : State) : Host.Outcome State Fault Refusal :=
  .next
    (hold
      (match cause with
       | .pin => { s with device := { s.device with resetHeld := true } }
       | .lowSupply => { s with device := { s.device with powered := false } }))

/-- RESET_RELEASED (R172): the release of the RESET pin after it has been held low (log 5). -/
def execResetReleased (straps : BitVec 2) (s : State) : Host.Outcome State Fault Refusal :=
  .next (powerUp straps { s with device := { s.device with resetHeld := false } })

/-- POWER_LOSS (R169, R171): the device stops; the store keeps what was committed. -/
def execPowerLoss (s : State) : Host.Outcome State Fault Refusal :=
  .next (hold { s with device := { s.device with powered := false } })

/-- RESTORE_COMPLETE (R172): RESTORING ends in RUNNING. -/
def execRestoreComplete (aLevels bLevels : LaneSet) (s : State) : Host.Outcome State Fault Refusal :=
  .next
    (match s.device.phase with
     | .restoring => enterRunning aLevels bLevels s
     | _ => s)

/-- Whether BAY_RESTART is refused with WRONG_STATE (R173). -/
def State.bayBusy (s : State) : Bool :=
  s.lanesIn LaneState.isOpen != 0#8 || s.deliveries.entries.any (fun e => e.state.discharging)

/-- The requesting port of an accepted BAY_RESTART: it sends its reply at the rate with which it began and then takes the
new one (R174). -/
def keepRate (i : PortId) (rate : BitVec 2) (s : State) : State :=
  s.setPort i { s.port i with rate := rate, crossing := true }

/-- BAY_RESTART at the device (R173): the restart, in the event of the reply. -/
def bayRestartAnswer (i : PortId) (straps : BitVec 2) (s : State) : Answer :=
  if s.bayBusy then .refuse s .wrongState
  else .ok (keepRate i (s.port i).rate (startUp .bayRestart straps s)) .nothing

/-- BAY_RESTART (R173, R181). -/
def execBayRestart (f : Frame) (straps : BitVec 2) (s : State) : Host.Outcome State Fault Refusal :=
  .next (serve f 0x60#8 .levelZero (bayRestartAnswer f.port straps) s)

end Sys2Proof.Machine
end

