-- ==== Sys2Proof/Machine/Dispatch.lean ====
section
/-! DEFINITION. One arm per command: each calls its meaning. -/

namespace Sys2Proof.Machine

/-- A command's effect on everything but the queue. -/
def exec (i : Instr) (s : State) : Host.Outcome State Fault Refusal :=
  match i with
  | .powerOn straps => Sys2Proof.Machine.execPowerOn straps s
  | .resetAsserted cause => Sys2Proof.Machine.execResetAsserted cause s
  | .resetReleased straps => Sys2Proof.Machine.execResetReleased straps s
  | .powerLoss => Sys2Proof.Machine.execPowerLoss s
  | .restoreComplete aLevels bLevels => Sys2Proof.Machine.execRestoreComplete aLevels bLevels s
  | .quadratureEdge l a b => Sys2Proof.Machine.execQuadratureEdge l a b s
  | .illegalTransition l => Sys2Proof.Machine.execIllegalTransition l s
  | .meterFault l => Sys2Proof.Machine.execMeterFault l s
  | .indexPulse l => Sys2Proof.Machine.execIndexPulse l s
  | .meterSample l => Sys2Proof.Machine.execMeterSample l s
  | .hookSample l level => Sys2Proof.Machine.execHookSample l level s
  | .pumpRdySample t level => Sys2Proof.Machine.execPumpRdySample t level s
  | .pumpTimerExpiry t => Sys2Proof.Machine.execPumpTimerExpiry t s
  | .authorizationTimerExpiry l => Sys2Proof.Machine.execAuthorizationTimerExpiry l s
  | .noFlowTimerExpiry l => Sys2Proof.Machine.execNoFlowTimerExpiry l s
  | .settlePeriodEnd l => Sys2Proof.Machine.execSettlePeriodEnd l s
  | .attentionPulseExpiry p => Sys2Proof.Machine.execAttentionPulseExpiry p s
  | .gaugeSample t reply => Sys2Proof.Machine.execGaugeSample t reply s
  | .gaugeStale t => Sys2Proof.Machine.execGaugeStale t s
  | .staleEnd t => Sys2Proof.Machine.execStaleEnd t s
  | .noGaugeTankTimer t => Sys2Proof.Machine.execNoGaugeTankTimer t s
  | .discreteInputSample sumpLow loopOpen => Sys2Proof.Machine.execDiscreteInputSample sumpLow loopOpen s
  | .sourceTrip src => Sys2Proof.Machine.execSourceTrip src s
  | .captureSampleTimerExpiry => Sys2Proof.Machine.execCaptureSampleTimerExpiry s
  | .announcementTimerExpiry n => Sys2Proof.Machine.execAnnouncementTimerExpiry n s
  | .deliverySettleTimerExpiry n => Sys2Proof.Machine.execDeliverySettleTimerExpiry n s
  | .orderDeadline n => Sys2Proof.Machine.execOrderDeadline n s
  | .frameRejected p bytes stopLow => Sys2Proof.Machine.execFrameRejected p bytes stopLow s
  | .frameGapTimeout p => Sys2Proof.Machine.execFrameGapTimeout p s
  | .overlappingFrame p => Sys2Proof.Machine.execOverlappingFrame p s
  | .shunningIdleEnd p => Sys2Proof.Machine.execShunningIdleEnd p s
  | .replyComplete p => Sys2Proof.Machine.execReplyComplete p s
  | .unknownRequest f code payload => Sys2Proof.Machine.execUnknownRequest f code payload s
  | .readEvents f => Sys2Proof.Machine.execReadEvents f s
  | .clearEvents f kinds => Sys2Proof.Machine.execClearEvents f kinds s
  | .setAttention f mask mode width => Sys2Proof.Machine.execSetAttention f mask mode width s
  | .readPort f => Sys2Proof.Machine.execReadPort f s
  | .readLane f lane => Sys2Proof.Machine.execReadLane f lane s
  | .readStock f => Sys2Proof.Machine.execReadStock f s
  | .readTank f tank => Sys2Proof.Machine.execReadTank f tank s
  | .readAccount f tag => Sys2Proof.Machine.execReadAccount f tag s
  | .readAccounts f direction count => Sys2Proof.Machine.execReadAccounts f direction count s
  | .setCursor f slot => Sys2Proof.Machine.execSetCursor f slot s
  | .listOrders f => Sys2Proof.Machine.execListOrders f s
  | .readDelivery f number => Sys2Proof.Machine.execReadDelivery f number s
  | .readTrips f clearDropped => Sys2Proof.Machine.execReadTrips f clearDropped s
  | .readTripsSource f index => Sys2Proof.Machine.execReadTripsSource f index s
  | .readCapture f start => Sys2Proof.Machine.execReadCapture f start s
  | .readCal f => Sys2Proof.Machine.execReadCal f s
  | .readRecordStatus f clearDropped => Sys2Proof.Machine.execReadRecordStatus f clearDropped s
  | .placeOrder f tag tank volume priority expiry => Sys2Proof.Machine.execPlaceOrder f tag tank volume priority expiry s
  | .cancelOrder f number => Sys2Proof.Machine.execCancelOrder f number s
  | .openLane f lane tag order preset hours override => Sys2Proof.Machine.execOpenLane f lane tag order preset hours override s
  | .stopLane f lane => Sys2Proof.Machine.execStopLane f lane s
  | .enableLane f lane => Sys2Proof.Machine.execEnableLane f lane s
  | .disableLane f lane => Sys2Proof.Machine.execDisableLane f lane s
  | .setTankReserve f tank reserve => Sys2Proof.Machine.execSetTankReserve f tank reserve s
  | .adjustStock f tank book clearShortage => Sys2Proof.Machine.execAdjustStock f tank book clearShortage s
  | .ackAlarms f tank => Sys2Proof.Machine.execAckAlarms f tank s
  | .ackAlarmsAll f => Sys2Proof.Machine.execAckAlarmsAll f s
  | .enrolMachine f tag cls permits capacity items => Sys2Proof.Machine.execEnrolMachine f tag cls permits capacity items s
  | .retireMachine f tag => Sys2Proof.Machine.execRetireMachine f tag s
  | .setMachine f tag cls state permits capacity items => Sys2Proof.Machine.execSetMachine f tag cls state permits capacity items s
  | .announceDelivery f tank identity docket => Sys2Proof.Machine.execAnnounceDelivery f tank identity docket s
  | .confirmDelivery f number settle fixedTol propTol => Sys2Proof.Machine.execConfirmDelivery f number settle fixedTol propTol s
  | .endDelivery f number => Sys2Proof.Machine.execEndDelivery f number s
  | .withdrawDelivery f number => Sys2Proof.Machine.execWithdrawDelivery f number s
  | .releaseDelivery f number => Sys2Proof.Machine.execReleaseDelivery f number s
  | .collectRecords f count => Sys2Proof.Machine.execCollectRecords f count s
  | .releaseRecords f number => Sys2Proof.Machine.execReleaseRecords f number s
  | .rearm f index => Sys2Proof.Machine.execRearm f index s
  | .rearmAll f => Sys2Proof.Machine.execRearmAll f s
  | .manualTrip f => Sys2Proof.Machine.execManualTrip f s
  | .releaseTrips f number => Sys2Proof.Machine.execReleaseTrips f number s
  | .releaseCapture f => Sys2Proof.Machine.execReleaseCapture f s
  | .setLane f lane v => Sys2Proof.Machine.execSetLane f lane v s
  | .setTank f tank v => Sys2Proof.Machine.execSetTank f tank v s
  | .setSource f index v => Sys2Proof.Machine.execSetSource f index v s
  | .setSourceUnit f count => Sys2Proof.Machine.execSetSourceUnit f count s
  | .setClass f cls hoursRequired ceiling => Sys2Proof.Machine.execSetClass f cls hoursRequired ceiling s
  | .setRecordPolicy f policy threshold => Sys2Proof.Machine.execSetRecordPolicy f policy threshold s
  | .setClock f value => Sys2Proof.Machine.execSetClock f value s
  | .setAccess f v => Sys2Proof.Machine.execSetAccess f v s
  | .bayRestart f straps => Sys2Proof.Machine.execBayRestart f straps s
  | .setMeter f lane v => Sys2Proof.Machine.execSetMeter f lane v s
  | .setProduct f tank alpha => Sys2Proof.Machine.execSetProduct f tank alpha s
  | .setStrapping f tank points => Sys2Proof.Machine.execSetStrapping f tank points s
  | .lockCal f code => Sys2Proof.Machine.execLockCal f code s
  | .unlockCal f code => Sys2Proof.Machine.execUnlockCal f code s
  | .wholeSecond => Sys2Proof.Machine.execWholeSecond s

end Sys2Proof.Machine
end

