-- ==== Sys2Proof/Machine/Wire.lean ====
section
/-! DEFINITION. The bytes of a reply: the frame and status codes (R178, R193), the event set (R195), the structures that
R196 lays out, and every other payload as its fields in its rule's order at R192's and R194's widths (log 24). -/

namespace Sys2Proof.Machine

/-! ## Codes of named values (R192, R193, R196) -/

/-- The status codes (R193). -/
def Status.code : Status → Byte
  | .ok => 0x00#8
  | .clamped => 0x01#8
  | .starting => 0x02#8
  | .denied => 0x03#8
  | .badRequest => 0x04#8
  | .range => 0x05#8
  | .wrongState => 0x06#8
  | .disabled => 0x07#8
  | .notFound => 0x08#8
  | .alreadyExists => 0x09#8
  | .full => 0x0A#8
  | .noStock => 0x0B#8
  | .tankLow => 0x0C#8
  | .gauge => 0x0D#8
  | .tooLate => 0x0E#8
  | .locked => 0x0F#8
  | .tripped => 0x10#8
  | .stillActive => 0x11#8
  | .hours => 0x12#8
  | .accountHeld => 0x13#8
  | .notPermitted => 0x14#8

/-- Lane states (R196, capture). -/
def LaneState.code : LaneState → Nat
  | .disabled => 0
  | .idle => 1
  | .authorized => 2
  | .starting => 3
  | .delivering => 4
  | .settling => 5

/-- Stages in the order of R28, numbered from 0 (R192). -/
def Stage.code : Stage → Nat
  | .lowStart => 0
  | .high => 1
  | .lowEnd => 2

/-- The stage at end, in the order of R132: NONE, LOW_START, HIGH, LOW_END (R192, R196). -/
def stageCode : Option Stage → Nat
  | none => 0
  | some .lowStart => 1
  | some .high => 2
  | some .lowEnd => 3

/-- End reasons, in the order of R133 (R196). -/
def EndReason.code : EndReason → Nat
  | .preset => 0
  | .full => 1
  | .noFlow => 2
  | .stopped => 3
  | .hook => 4
  | .expired => 5
  | .spill => 6
  | .tankLow => 7
  | .pumpLost => 8
  | .faultReverse => 9
  | .faultMeter => 10
  | .faultOverrun => 11
  | .powerLost => 12

/-- Debounced zones (R196). -/
def Zone.code : Zone → Nat
  | .lowLow => 0
  | .low => 1
  | .normal => 2
  | .high => 3
  | .highHigh => 4

/-- Machine classes (R196). -/
def MachineClass.code : MachineClass → Nat
  | .haul => 0
  | .loader => 1
  | .dozer => 2
  | .grader => 3
  | .service => 4
  | .light => 5

/-- Delivery states (R196). -/
def DeliveryState.code : DeliveryState → Nat
  | .announced => 0
  | .filling => 1
  | .settling => 2
  | .complete => 3
  | .disputed => 4
  | .withdrawn => 5
  | .abandoned => 6

/-- Flags as a number, the first the low bit. -/
def flagBits : List Bool → Nat
  | [] => 0
  | b :: rest => (if b then 1 else 0) + 2 * flagBits rest

/-- The bits of a set of sources: bit n stands for source n (R196). -/
def sourceBits (ids : List SourceId) : Nat := flagBits (allSources.map (fun i => decide (i ∈ ids)))

/-! ## Structures (R196) -/

/-- Latched alarm flags as the bits of R196's order. -/
def Alarms.bits (a : Alarms) : Nat := flagBits [a.lowLow, a.low, a.high, a.highHigh]

/-- A tank summary, 28 bytes. -/
def TankSummary.bytes (r : TankSummary) : List Byte :=
  bytesOf 4 r.book ++ bytesOf 4 r.allocated ++ bytesOf 4 r.available ++ bytesOf 4 (r.gaugedNet.getD 0xFFFFFFFF)
    ++ bytesOf 3 (r.level.getD 0xFFFFFF) ++ bytesOfInt 2 (r.t10.getD 0x7FFF)
    ++ bytesOf 1 (flagBits [!r.gaugeValid, r.activeDelivery]) ++ bytesOf 1 r.zone.code
    ++ bytesOf 1 r.alarms.bits ++ bytesOf 4 r.shortage

/-- An account entry in the short form, 37 bytes: an absent field's bytes are 0 and its presence bit is clear. -/
def shortAccount (e : Nat × Account) : List Byte :=
  let a := e.2
  bytesOf 1 e.1 ++ tagBytes a.tag ++ bytesOf 1 a.cls.code
    ++ bytesOf 1 (flagBits [a.suspended, a.burnHigh, a.hoursLast.isSome, a.lastFill.isSome, a.burnRate.isSome])
    ++ bytesOf 1 a.permits.toNat ++ bytesOf 3 a.capacity ++ bytesOf 3 (a.hoursLast.getD 0) ++ bytesOf 4 (a.lastFill.getD 0)
    ++ bytesOf 5 a.fuelTotal ++ bytesOf 5 a.lubeTotal ++ bytesOf 2 a.fills ++ bytesOf 4 (a.burnRate.getD 0)
    ++ bytesOf 1 (dueCount a)

/-- A record's flags as the bits of R134's order. -/
def RecordFlags.bits (r : RecordFlags) : Nat :=
  flagBits [r.clampedPreset, r.hoursOverridden, r.noHours, r.tempAssumed, r.reverseSeen, r.miscountSeen, r.overrange,
    r.trimmed, r.service, r.priority, r.clockUnset]

/-- A transaction record, 54 bytes. -/
def Record.bytes (r : Record) : List Byte :=
  bytesOf 4 r.number ++ bytesOf 1 (16 * r.lane.val + r.tank.val) ++ bytesOf 1 r.endReason.code ++ bytesOf 2 r.flags.bits
    ++ bytesOf 2 r.order ++ tagBytes r.tag ++ bytesOf 4 r.startTime ++ bytesOf 4 r.endTime
    ++ bytesOf 3 (r.hours.getD 0xFFFFFF) ++ bytesOfInt 4 r.preset ++ bytesOfInt 4 r.gross ++ bytesOfInt 4 r.net
    ++ bytesOf 4 r.overrun ++ bytesOfInt 2 r.lastT10 ++ bytesOf 5 r.totalizer ++ bytesOf 2 r.calChanges
    ++ bytesOf 1 r.miscounts ++ bytesOf 1 (stageCode r.stageAtEnd)

/-- The byte of an order's tank, bound lane, state and priority. -/
def Order.placeByte (o : Order) : Nat :=
  o.tank.val + 8 * (match o.claimedBy with | none => 0 | some l => l.val)
    + 64 * flagBits [o.claimedBy.isSome, o.priority]

/-- A fill order, 14 bytes. -/
def OrderReport.bytes (r : OrderReport) : List Byte :=
  bytesOf 2 r.order.number ++ bytesOf 1 (r.slot.getD 0) ++ bytesOf 1 r.order.placeByte ++ bytesOf 3 r.order.volume
    ++ bytesOf 4 r.order.placedAt ++ bytesOf 3 (r.timeLeft.getD 0xFFFFFF)

/-- A delivery's flags as the bits of R78's order. -/
def DeliveryFlags.bits (d : DeliveryFlags) : Nat :=
  flagBits [d.interrupted, d.negative, d.expired, d.staleEnd, d.startUp, d.overTable, d.bookSaturated, d.clockUnset]

/-- The timer shown by a delivery entry, and its value (R91, R196). -/
def DeliveryEntry.timerShown (e : DeliveryEntry) : Nat × Nat :=
  match e.state, e.timer, e.waited with
  | .announced, some n, _ => (1, n)
  | .settling, some n, _ => (2, n)
  | .settling, none, some n => (3, n)
  | _, _, _ => (0, 0)

/-- A delivery entry, 66 bytes. R196 states no byte for a field whose presence bit is clear, nor for the timer's value when
no timer is shown: the model sends 0 there, as R196 states of the account entry (DESIGN CHOICE, log 24). -/
def DeliveryEntry.bytes (e : DeliveryEntry) : List Byte :=
  let c := e.conf
  bytesOf 2 e.number ++ bytesOf 1 e.tank.val ++ bytesOf 8 e.identity.toNat ++ bytesOf 4 e.docket ++ bytesOf 1 e.state.code
    ++ bytesOf 1 e.flags.bits
    ++ bytesOf 1 (flagBits [c.isSome, e.closing.isSome, e.received.isSome, e.endTime.isSome, e.completeTime.isSome])
    ++ bytesOf 2 ((c.map (fun c => c.settle)).getD 0) ++ bytesOf 4 ((c.map (fun c => c.fixedTol)).getD 0)
    ++ bytesOf 3 ((c.map (fun c => c.propTol)).getD 0) ++ bytesOf 4 ((c.map (fun c => c.opening)).getD 0)
    ++ bytesOfInt 4 ((c.map (fun c => c.dispensed)).getD 0) ++ bytesOf 4 (e.closing.getD 0)
    ++ bytesOfInt 4 (e.received.getD 0) ++ bytesOfInt 4 (e.variance.getD 0) ++ bytesOf 4 e.announceTime
    ++ bytesOf 4 ((c.map (fun c => c.confirmTime)).getD 0) ++ bytesOf 4 (e.endTime.getD 0)
    ++ bytesOf 4 (e.completeTime.getD 0) ++ bytesOf 1 e.timerShown.1 ++ bytesOf 2 e.timerShown.2

/-- A trip entry, 12 bytes. -/
def TripEntry.bytes (e : TripEntry) : List Byte :=
  bytesOf 4 e.number ++ bytesOf 1 (sourceIndex e.source) ++ bytesOf 4 e.time ++ bytesOf 1 e.lanesEnded.toNat
    ++ bytesOf 1 e.inletsClosed.toNat ++ bytesOf 1 (flagBits [e.clockUnset, e.captured])

/-- Eight levels, 3 bytes each. -/
def levelBytes (v : Eight (Option Nat)) : List Byte := (v.toList.map (fun x => bytesOf 3 (x.getD 0xFFFFFF))).flatten

/-- A post-trip sample, 27 bytes. -/
def PostSample.bytes (p : PostSample) : List Byte := levelBytes p.levels ++ bytesOf 3 p.rateSum

/-- The lanes of a capture's snapshot, 24 bytes. -/
def CaptureData.laneBytes (c : CaptureData) : List Byte :=
  (allEight.map (fun l => bytesOf 2 (c.rates.get l) ++ bytesOf 1 (c.states.get l).code)).flatten

/-- A held capture after its state byte, with the samples of the reply. -/
def CaptureData.bytes (c : CaptureData) (samples : List PostSample) : List Byte :=
  bytesOf 4 c.tripNumber ++ bytesOf 1 c.m ++ bytesOf 1 c.samples.length ++ bytesOf 1 samples.length ++ c.laneBytes
    ++ levelBytes c.levels ++ (samples.map PostSample.bytes).flatten

/-- The READ_CAPTURE payload. -/
def captureBytes (c : Capture) (samples : List PostSample) : List Byte :=
  match c with
  | .empty => bytesOf 1 0
  | .filling d => bytesOf 1 1 ++ d.bytes samples
  | .full d => bytesOf 1 2 ++ d.bytes samples

/-- The READ_TRIPS payload, list form: a header of 12 bytes and the entries. -/
def TripsReport.bytes (r : TripsReport) : List Byte :=
  bytesOf 1 r.trips.length ++ bytesOf 1 r.dropped ++ bytesOf 4 r.next ++ bytesOf 4 (sourceBits r.trippedSources)
    ++ bytesOf 1 r.blockedLanes.toNat ++ bytesOf 1 r.blockedInlets.toNat ++ (r.trips.map TripEntry.bytes).flatten

/-! ## Payloads and frames (R178, R193) -/

/-- A record policy's number, in the order of R137 (R192). -/
def RecordPolicy.code : RecordPolicy → Nat
  | .hold => 0
  | .overwrite => 1

/-- The settings in force that SET_ACCESS returns, in the order of R184: levels, denial maps, open level. -/
def accessBytes (v : AccessSetting) : List Byte :=
  bytesOf 1 v.dispatchLevel ++ bytesOf 1 v.consoleLevel ++ bytesOf 1 v.receiptLevel ++ bytesOf 4 v.dispatchDenial.toNat
    ++ bytesOf 4 v.consoleDenial.toNat ++ bytesOf 4 v.receiptDenial.toNat ++ bytesOf 1 v.openLevel

/-! ## Payloads that R196 does not lay out (log 24; READ_LANE: log 32)

A payload's fields go in the order its rule names them (R192). A value takes the fewest whole bytes that hold its range, a
flag, a named value, a number or a set one byte, a tag six, an event set two, a denial map four, and a list a count byte and
its items (R192, R194). An optional field is one presence byte, 1 or 0, and its bytes when present. The fixed tolerance of a
CONFIRM_DELIVERY reply takes 3 bytes, as in its request. Where a definition below takes another form it says so. All this is a
DESIGN CHOICE. -/

/-- One flag, 0 or 1 (R194). -/
def flagByte (b : Bool) : List Byte := bytesOf 1 (flagBits [b])

/-- An optional field: a presence byte, and the field when present. -/
def optBytes {α : Type} (f : α → List Byte) : Option α → List Byte
  | none => flagByte false
  | some x => flagByte true ++ f x

/-- A list: a count byte and its items (R194). -/
def listBytes {α : Type} (f : α → List Byte) (xs : List α) : List Byte := bytesOf 1 xs.length ++ (xs.map f).flatten

/-- A port's number, in the order of R194. -/
def portCode : PortId → Nat
  | .dispatch => 0
  | .console => 1
  | .receipt => 2

/-- Product classes, in the order of R55. -/
def ProductClass.code : ProductClass → Nat
  | .fuel => 0
  | .lube => 1
  | .coolant => 2

/-- Pump states, in the order of R68. -/
def PumpState.code : PumpState → Nat
  | .stopped => 0
  | .starting => 1
  | .running => 2

/-- The denial map of a READ_PORT reply, in the four-byte form of R194. -/
def PortReport.denialBytes (r : PortReport) : List Byte :=
  bytesOf 4 (denialWord { classes := r.deniedClasses, lanes := r.deniedLanes, tanks := r.deniedTanks }).toNat

/-- READ_PORT (R179), with its set, mask, mode and width in the form of R195. -/
def PortReport.bytes (r : PortReport) : List Byte :=
  bytesOf 1 (portCode r.port) ++ bytesOf 3 r.lineRate ++ bytesOf 1 r.gapCount ++ bytesOf 1 r.crcCount
    ++ bytesOf 1 r.overlapCount ++ bytesOf 1 r.dispatchLevel ++ bytesOf 1 r.consoleLevel ++ bytesOf 1 r.receiptLevel
    ++ bytesOf 1 r.openLevel ++ r.denialBytes ++ bytesOf 2 r.pendingSet.toNat ++ bytesOf 2 r.mask.toNat ++ bytesOf 1 r.mode
    ++ bytesOf 1 r.width ++ bytesOf 1 r.cursor ++ bytesOf 4 r.clock ++ flagByte r.clockSet ++ bytesOf 4 r.uptime

/-- A lane configuration in the order and widths SET_LANE carries it (R31). -/
def LaneConfig.bytes (c : LaneConfig) : List Byte :=
  bytesOf 1 c.tank.val ++ bytesOf 3 c.slowStart ++ bytesOf 3 c.slowdown ++ bytesOf 2 c.authTime ++ bytesOf 1 c.noFlowTime
    ++ bytesOf 1 c.settleTime ++ bytesOf 2 c.overrunLimit ++ bytesOf 1 c.miscountLimit ++ bytesOf 2 c.reverseLimit
    ++ bytesOf 3 c.creepLimit

/-- The meter figures of R27. The creep gross is bounded by its accumulator alone (R20) and takes 6 bytes; G and N take 4, as in
R196's record. The four meter flags are one set of named members, packed in one byte: its bits, from bit 0 up, are MISCOUNT_SEEN,
OVERRANGE, REVERSE_SEEN and TEMP_ASSUMED. This packing and these widths are a DESIGN CHOICE (log 32). -/
def MeterReport.bytes (m : MeterReport) : List Byte :=
  bytesOf 5 m.totalizer ++ bytesOf 2 m.rate ++ bytesOf 1 m.band ++ bytesOf 1 m.consec ++ bytesOfInt 6 m.creepGross
    ++ flagByte m.creepCond ++ bytesOfInt 4 m.creepTotal ++ bytesOfInt 4 m.gross ++ bytesOfInt 4 m.net ++ bytesOf 4 m.revSum
    ++ bytesOf 1 m.txnMiscounts ++ bytesOfInt 2 m.lastT10
    ++ bytesOf 1 (flagBits [m.flags.miscountSeen, m.flags.overrange, m.flags.reverseSeen, m.flags.tempAssumed])

/-- Transaction flags as the bits of R134's order, two bytes as in R196's record (DESIGN CHOICE, log 32). -/
def CtxFlags.bits (c : CtxFlags) : Nat := (recordFlags c .clear false false).bits

/-- An open transaction (R52). Its stage at end is NONE, LOW_START, HIGH or LOW_END (R34, R132), numbered from 0 (R192). -/
def TxnReport.bytes (x : TxnReport) : List Byte :=
  tagBytes x.tag ++ bytesOf 2 x.order ++ bytesOf 3 x.preset ++ bytesOfInt 4 x.effPreset ++ optBytes (bytesOf 3) x.hours
    ++ bytesOf 4 x.startTime ++ bytesOf 2 x.flags.bits ++ optBytes (fun e => bytesOf 1 (EndReason.code e)) x.endReason
    ++ bytesOf 1 (stageCode x.stageAtEnd)

/-- READ_LANE (R52). The stage, present only in DELIVERING (R28), has R192's number: 0 LOW_START, 1 HIGH, 2 LOW_END. That a presence
byte stands before it, and is alone when there is no stage, and that the set of held fault causes is packed in one byte, bit 0
REVERSE, bit 1 METER, bit 2 OVERRUN, are a DESIGN CHOICE (log 32). -/
def LaneReport.bytes (r : LaneReport) : List Byte :=
  bytesOf 1 r.state.code ++ optBytes (fun x => bytesOf 1 (Stage.code x)) r.stage ++ flagByte r.hook ++ flagByte r.vlo
    ++ flagByte r.vhi
    ++ flagByte r.pendingDisable ++ bytesOf 1 (flagBits [r.held.reverse, r.held.meter, r.held.overrun])
    ++ bytesOf 1 r.counters.miscount ++ bytesOf 1 r.counters.reverse ++ bytesOf 1 r.counters.overrun
    ++ bytesOf 1 r.counters.trimmed ++ flagByte r.blocked ++ r.cfg.bytes ++ r.meter.bytes ++ optBytes TxnReport.bytes r.txn

/-! ### READ_TANK (R76, R77)

In whole bytes a tank with 16 points and several draws would pass the 239 bytes of R178, where the rule says every payload fits.
So what follows the summary is one run of bits, each field the fewest bits of its range, high bit first, with zeros after the
last to fill a byte. A named value, a lane number, a count and a run keep the 8 bits of R192 and R194. The largest such payload
is 236 bytes. All this is a DESIGN CHOICE (log 24). -/

/-- The n low bits of v, high bit first. -/
def bitsOf : Nat → Nat → List Bool
  | 0, _ => []
  | n + 1, v => v.testBit n :: bitsOf n v

/-- The n low bits of z in two's complement, high bit first. -/
def bitsOfInt (n : Nat) (z : Int) : List Bool := bitsOf n (z % (2 ^ n : Nat)).toNat

/-- An optional field in bits: a presence bit, and the field when present. -/
def optBits {α : Type} (f : α → List Bool) : Option α → List Bool
  | none => [false]
  | some x => true :: f x

/-- A list in bits: a count of 8 bits and its items. -/
def listBits {α : Type} (f : α → List Bool) (xs : List α) : List Bool := bitsOf 8 xs.length ++ (xs.map f).flatten

/-- Bits as bytes, zeros after the last to fill a byte. -/
def packBits (bs : List Bool) : List Byte :=
  let n := (bs.length + 7) / 8
  bytesOf n (bs.foldl (fun v b => 2 * v + b.toNat) 0 * 2 ^ (8 * n - bs.length))

/-- The tank configuration of a READ_TANK reply (R55). -/
def TankConfig.bits (c : TankConfig) : List Bool :=
  bitsOf 8 c.cls.code ++ bitsOf 31 c.capacity ++ [c.gaugeFitted] ++ bitsOf 18 c.lowLow ++ bitsOf 18 c.low ++ bitsOf 18 c.high
    ++ bitsOf 18 c.highHigh ++ bitsOf 8 c.zoneDebounce ++ bitsOf 21 c.minFill ++ bitsOf 24 c.lossLimit
    ++ bitsOf 12 c.lossWindow

/-- A strapping point of a READ_TANK reply (R61). -/
def pointBits (p : Nat × Nat) : List Bool := bitsOf 18 p.1 ++ bitsOf 31 p.2

/-- The four runs of a READ_TANK reply (R70). -/
def ZoneRuns.bits (r : ZoneRuns) : List Bool := bitsOf 8 r.lowLow ++ bitsOf 8 r.low ++ bitsOf 8 r.high ++ bitsOf 8 r.highHigh

/-- An entry of the draw list of a READ_TANK reply (R64). Its two volumes take 24 bits each, the allocation signed; the spec
states no range for them, and one that 24 bits do not hold is sent as the nearest they hold (DESIGN CHOICE, log 24). -/
def Draw.bits (d : Draw) : List Bool :=
  bitsOf 8 d.lane.val ++ bitsOfInt 24 (clampInt (-8388608) 8388607 d.alloc) ++ bitsOf 24 (min 16777215 d.remaining)

/-- A loss window of a READ_TANK reply (R74). -/
def LossWindow.bits (w : LossWindow) : List Bool := bitsOf 32 w.start ++ bitsOf 31 w.g0 ++ bitsOf 31 w.b0

/-- What a READ_TANK reply carries after the summary, in R77's order. The window is present exactly when the watch runs. -/
def TankReport.bits (r : TankReport) : List Bool :=
  r.cfg.bits ++ bitsOf 31 r.reserve ++ bitsOf 11 r.alpha ++ listBits pointBits r.points ++ [r.overTable] ++ bitsOf 4 r.invalid
    ++ bitsOf 8 r.rawZone.code ++ r.runs.bits ++ listBits Draw.bits r.draws ++ bitsOf 8 r.pump.code ++ [r.pumpRun, r.rdy]
    ++ optBits (bitsOf 4) r.pumpTimer ++ optBits LossWindow.bits r.window ++ optBits (bitsOfInt 33) r.lastLoss
    ++ [r.lossHanded, r.overfillHanded]

/-- READ_TANK (R76, R77). -/
def TankReport.bytes (r : TankReport) : List Byte := r.summary.bytes ++ packBits r.bits

/-- A service item (R93, R110). -/
def ServiceItem.bytes (i : ServiceItem) : List Byte :=
  bytesOf 1 i.tank.val ++ bytesOf 2 i.interval ++ bytesOf 3 i.minimum ++ optBytes (bytesOf 3) i.base ++ flagByte i.due

/-- READ_ACCOUNT (R110): the fields of R93 in its order. The lanes whose open transaction names the machine are a count byte and
their numbers in lane order (DESIGN CHOICE, log 24). -/
def accountBytes (slot : Nat) (a : Account) (c : ClassEntry) (lanes : List Lane) : List Byte :=
  bytesOf 1 slot ++ tagBytes a.tag ++ bytesOf 1 a.cls.code ++ flagByte a.suspended ++ bytesOf 1 a.permits.toNat
    ++ bytesOf 3 a.capacity ++ optBytes (bytesOf 3) a.hoursLast ++ optBytes (bytesOf 4) a.lastFill ++ bytesOf 5 a.fuelTotal
    ++ bytesOf 5 a.lubeTotal ++ bytesOf 2 a.fills ++ optBytes (bytesOf 4) a.burnRate ++ flagByte a.burnHigh
    ++ listBytes ServiceItem.bytes a.items ++ flagByte c.hoursRequired ++ bytesOf 3 c.ceiling
    ++ listBytes (fun l => bytesOf 1 (Fin.val l)) lanes

/-- SET_SOURCE (R152): the values in the order in which the request carries them, and then the state. -/
def SourceValues.bytes (r : SourceValues) : List Byte :=
  flagByte r.enabled ++ optBytes (bytesOf 1) r.debounce ++ optBytes (bytesOf 2) r.hoseLimit ++ bytesOf 1 r.lanes.toNat
    ++ bytesOf 1 r.inlets.toNat ++ flagByte r.isTripped

/-- READ_TRIPS, source form (R160). -/
def SourceReport.bytes (r : SourceReport) : List Byte :=
  flagByte r.isTripped ++ flagByte r.enabled ++ optBytes (bytesOf 1) r.debounce ++ optBytes (bytesOf 2) r.hoseLimit
    ++ bytesOf 1 r.lanes.toNat ++ bytesOf 1 r.inlets.toNat ++ bytesOf 1 r.tripCount ++ bytesOf 1 r.run
    ++ bytesOf 1 r.blanking ++ flagByte r.lastCond ++ flagByte r.debounced ++ optBytes flagByte r.creepTaken

/-- A meter's calibration parameters in the order and widths SET_METER carries them (R23). -/
def meterBytes (m : MeterParams) : List Byte :=
  bytesOf 3 m.kx ++ bytesOf 2 m.b1 ++ bytesOf 2 m.b2 ++ bytesOf 2 m.b3 ++ bytesOfInt 2 m.c0 ++ bytesOfInt 2 m.c1
    ++ bytesOfInt 2 m.c2 ++ bytesOfInt 2 m.c3 ++ bytesOf 2 m.epr

/-- READ_CAL (R168). -/
def CalReport.bytes (r : CalReport) : List Byte :=
  bytesOf 1 r.lockKind ++ flagByte r.codeStored ++ bytesOf 1 r.failed ++ flagByte r.barred ++ bytesOf 2 r.changes
    ++ (r.meters.toList.map meterBytes).flatten ++ (r.alphas.toList.map (bytesOf 2)).flatten

/-- READ_RECORD_STATUS (R140). The lanes that hold a reservation are a set of lanes, one byte (DESIGN CHOICE, log 24). -/
def RecordStatusReport.bytes (r : RecordStatusReport) : List Byte :=
  bytesOf 1 r.policy.code ++ bytesOf 1 r.threshold ++ bytesOf 1 r.completed ++ bytesOf 1 r.reservations ++ bytesOf 1 r.free
    ++ bytesOf 1 r.reserved.toNat ++ optBytes (bytesOf 4) r.oldest ++ optBytes (bytesOf 4) r.newest ++ bytesOf 4 r.next
    ++ bytesOf 1 r.dropped ++ flagByte r.droppedFlag

/-- The bytes of a payload. The spec lays out no bytes for the following, which are the model's choice (DESIGN CHOICE, log 24). The
reply to ACK_ALARMS (R73), in both its forms, is a count byte and then, for each tank named, its number byte and the byte of the flags
that remain: the rule names only the flags. The list of REARM ALL (R154) is a count byte and an index byte for each source. The reply
to READ_DELIVERY with 0 (R91) has the count of entries and the next number before the entries. The reply to MANUAL_TRIP (R148) is a
byte, 1 where the request tripped the source, and the trip number as an optional field. -/
def Payload.bytes : Payload → List Byte
  | .nothing => []
  | .events s m d => bytesOf 2 s.toNat ++ bytesOf 2 m.toNat ++ bytesOf 1 d
  | .eventsLeft s => bytesOf 2 s.toNat
  | .attention m d w => bytesOf 2 m.toNat ++ bytesOf 1 d ++ bytesOf 1 w
  | .port r => r.bytes
  | .lane r => r.bytes
  | .stock r => (r.toList.map TankSummary.bytes).flatten
  | .tank r => r.bytes
  | .account i a c ls => accountBytes i a c ls
  | .accounts es last => bytesOf 1 es.length ++ bytesOf 1 (flagBits [last]) ++ (es.map shortAccount).flatten
  | .orders os n u => bytesOf 1 os.length ++ bytesOf 2 n ++ bytesOf 4 u ++ (os.map OrderReport.bytes).flatten
  | .delivery e => e.bytes
  | .deliveries es n =>
    bytesOf 1 es.length ++ bytesOf 2 n
      ++ (es.map (fun e => bytesOf 2 e.1 ++ bytesOf 1 e.2.1.val ++ bytesOf 1 e.2.2.code)).flatten
  | .trips r => r.bytes
  | .source r => r.bytes
  | .sourceSet r => r.bytes
  | .capture c ss => captureBytes c ss
  | .cal r => r.bytes
  | .recordStatus r => r.bytes
  | .placed n p d => bytesOf 2 n ++ bytesOf 4 p ++ optBytes (bytesOf 5) d
  | .opened p t o fl => bytesOf 3 p ++ bytesOf 1 t.val ++ bytesOf 2 o ++ bytesOf 2 fl.bits
  | .reserve v => bytesOf 4 v
  | .stockSet b sh al => bytesOf 4 b ++ bytesOf 4 sh ++ bytesOf 4 al
  | .alarms xs => listBytes (fun x => bytesOf 1 x.1.val ++ bytesOf 1 x.2.bits) xs
  | .slot i => bytesOf 1 i
  | .announced n => bytesOf 2 n
  | .confirmed o st ft pt => bytesOf 4 o ++ bytesOf 2 st ++ bytesOf 3 ft ++ bytesOf 3 pt
  | .collected rs n => bytesOf 1 rs.length ++ bytesOf 1 n ++ (rs.map Record.bytes).flatten
  | .released r n => bytesOf 1 r ++ bytesOf 1 n
  | .remaining ids => listBytes (fun i => bytesOf 1 (sourceIndex i)) ids
  | .manual d n => flagByte d ++ optBytes (bytesOf 4) n
  | .tripsReleased n => bytesOf 1 n
  | .captureCount m => bytesOf 1 m
  | .policy p th n => bytesOf 1 p.code ++ bytesOf 1 th ++ bytesOf 1 n
  | .clock v u => bytesOf 4 v ++ bytesOf 4 u
  | .access v => accessBytes v
  | .calChanges n => bytesOf 2 n

/-- The bytes of a reply frame over a payload's bytes (R178, R193). -/
def replyFrame (seq code status : Byte) (payload : List Byte) : List Byte :=
  let body := BitVec.ofNat 8 (payload.length + 3) :: seq :: code :: status :: payload
  0xC3#8 :: body ++ bytesOf 2 (crc16 body).toNat

/-- The bytes a reply puts on the line (R178). -/
def Reply.bytes (r : Reply) : List Byte := replyFrame r.seq r.code r.status.code r.payload.bytes

end Sys2Proof.Machine
end

