-- ==== Sys2Proof/WellFormed.lean ====
section
/-! DEFINITION. Well-formed commands: every operand fits the width in which the wire carries it (R192, R194), and a framing
command is the event it names (R175, R177). A value outside its range may still be well formed: the owning block judges it. -/

namespace Sys2Proof

/-- Whether n fits w bytes. -/
def fitsBytes (w n : Nat) : Bool := decide (n < 256 ^ w)

/-- Whether an optional field fits w bytes: when given it is not the value that means absent (R192). -/
def fitsOpt (w : Nat) : Option Nat → Bool
  | none => true
  | some n => decide (n < 256 ^ w - 1)

/-- Whether z fits two bytes in two's complement. -/
def fitsSigned16 (z : Int) : Bool := decide (-32768 ≤ z) && decide (z ≤ 32767)

/-- SET_LANE's values fit their widths (R31, R194). -/
def LaneSetting.fits (v : LaneSetting) : Bool :=
  fitsBytes 1 v.tank && fitsBytes 3 v.slowStart && fitsBytes 3 v.slowdown && fitsBytes 2 v.authTime
    && fitsBytes 1 v.noFlowTime && fitsBytes 1 v.settleTime && fitsBytes 2 v.overrunLimit && fitsBytes 1 v.miscountLimit
    && fitsBytes 2 v.reverseLimit && fitsBytes 3 v.creepLimit

/-- SET_TANK's values fit their widths (R55, R194). -/
def TankSetting.fits (v : TankSetting) : Bool :=
  fitsBytes 1 v.cls && fitsBytes 4 v.capacity && fitsBytes 1 v.gaugeFitted && fitsBytes 3 v.lowLow && fitsBytes 3 v.low
    && fitsBytes 3 v.high && fitsBytes 3 v.highHigh && fitsBytes 1 v.zoneDebounce && fitsBytes 3 v.minFill
    && fitsBytes 3 v.lossLimit && fitsBytes 2 v.lossWindow

/-- SET_SOURCE's values fit their widths (R152, R194). -/
def SourceSetting.fits (v : SourceSetting) : Bool :=
  fitsBytes 1 v.enable && fitsBytes 1 v.debounce && fitsBytes 2 v.hoseLimit && fitsBytes 1 v.clearCount

/-- SET_METER's values fit their widths (R23, R194). -/
def MeterSetting.fits (v : MeterSetting) : Bool :=
  fitsBytes 3 v.kx && fitsBytes 2 v.b1 && fitsBytes 2 v.b2 && fitsBytes 2 v.b3 && fitsSigned16 v.c0 && fitsSigned16 v.c1
    && fitsSigned16 v.c2 && fitsSigned16 v.c3 && fitsBytes 2 v.epr

/-- A service item's values fit their widths (R96, R194). -/
def ItemSetting.fits (v : ItemSetting) : Bool :=
  fitsBytes 1 v.tank && fitsBytes 2 v.interval && fitsBytes 3 v.minimum && fitsOpt 3 v.base

/-- A list of service items fits its count byte and the largest payload (R175, R194). -/
def itemsFit (header : Nat) (items : List ItemSetting) : Bool :=
  decide (header + 1 + 9 * items.length ≤ 240) && items.all ItemSetting.fits

/-- A list of strapping points fits its count byte and the largest payload (R175, R194). -/
def pointsFit (points : List (Nat × Nat)) : Bool :=
  decide (2 + 7 * points.length ≤ 240) && points.all (fun p => fitsBytes 3 p.1 && fitsBytes 4 p.2)

/-- SET_ACCESS's values fit their widths (R184, R194). -/
def AccessSetting.fits (v : AccessSetting) : Bool :=
  fitsBytes 1 v.dispatchLevel && fitsBytes 1 v.consoleLevel && fitsBytes 1 v.receiptLevel && fitsBytes 1 v.openLevel

/-- A well-formed command. -/
def Instr.wf : Instr → Bool
  | .powerOn _ => true
  | .resetAsserted _ => true
  | .resetReleased _ => true
  | .powerLoss => true
  | .restoreComplete _ _ => true
  | .quadratureEdge _ _ _ => true
  | .illegalTransition _ => true
  | .meterFault _ => true
  | .indexPulse _ => true
  | .meterSample _ => true
  | .hookSample _ _ => true
  | .pumpRdySample _ _ => true
  | .pumpTimerExpiry _ => true
  | .authorizationTimerExpiry _ => true
  | .noFlowTimerExpiry _ => true
  | .settlePeriodEnd _ => true
  | .attentionPulseExpiry _ => true
  | .gaugeSample _ reply => decide (reply.length ≤ 7)
  | .gaugeStale _ => true
  | .staleEnd _ => true
  | .noGaugeTankTimer _ => true
  | .discreteInputSample _ _ => true
  | .sourceTrip _ => true
  | .captureSampleTimerExpiry => true
  | .announcementTimerExpiry n => fitsBytes 2 n
  | .deliverySettleTimerExpiry n => fitsBytes 2 n
  | .orderDeadline n => fitsBytes 2 n
  | .frameRejected _ bytes stopLow => decide (bytes.length ≤ 246) && (receiveChars [] bytes stopLow).isSome
  | .frameGapTimeout _ => true
  | .overlappingFrame _ => true
  | .shunningIdleEnd _ => true
  | .replyComplete _ => true
  | .unknownRequest f code payload => decide (payload.length ≤ 240) && !requestKnown f code payload
  | .readEvents _ => true
  | .clearEvents _ _ => true
  | .setAttention _ _ mode width => fitsBytes 1 mode && fitsBytes 1 width
  | .readPort _ => true
  | .readLane _ lane => fitsBytes 1 lane
  | .readStock _ => true
  | .readTank _ tank => fitsBytes 1 tank
  | .readAccount _ _ => true
  | .readAccounts _ direction count => fitsBytes 1 direction && fitsBytes 1 count
  | .setCursor _ slot => fitsBytes 1 slot
  | .listOrders _ => true
  | .readDelivery _ number => fitsBytes 2 number
  | .readTrips _ clearDropped => fitsBytes 1 clearDropped
  | .readTripsSource _ index => fitsBytes 1 index
  | .readCapture _ start => fitsBytes 1 start
  | .readCal _ => true
  | .readRecordStatus _ clearDropped => fitsBytes 1 clearDropped
  | .placeOrder _ _ tank volume priority expiry =>
    fitsBytes 1 tank && fitsBytes 3 volume && fitsBytes 1 priority && fitsBytes 3 expiry
  | .cancelOrder _ number => fitsBytes 2 number
  | .openLane _ lane _ order preset hours override =>
    fitsBytes 1 lane && fitsBytes 2 order && fitsOpt 3 preset && fitsOpt 3 hours && fitsBytes 1 override
  | .stopLane _ lane => fitsBytes 1 lane
  | .enableLane _ lane => fitsBytes 1 lane
  | .disableLane _ lane => fitsBytes 1 lane
  | .setTankReserve _ tank reserve => fitsBytes 1 tank && fitsBytes 4 reserve
  | .adjustStock _ tank book clearShortage => fitsBytes 1 tank && fitsBytes 4 book && fitsBytes 1 clearShortage
  | .ackAlarms _ tank => fitsBytes 1 tank
  | .ackAlarmsAll _ => true
  | .enrolMachine _ _ cls _ capacity items => fitsBytes 1 cls && fitsBytes 3 capacity && itemsFit 11 items
  | .retireMachine _ _ => true
  | .setMachine _ _ cls state _ capacity items =>
    fitsBytes 1 cls && fitsBytes 1 state && fitsBytes 3 capacity && itemsFit 12 items
  | .announceDelivery _ tank _ docket => fitsBytes 1 tank && fitsBytes 4 docket
  | .confirmDelivery _ number settle fixedTol propTol =>
    fitsBytes 2 number && fitsOpt 2 settle && fitsOpt 3 fixedTol && fitsOpt 3 propTol
  | .endDelivery _ number => fitsBytes 2 number
  | .withdrawDelivery _ number => fitsBytes 2 number
  | .releaseDelivery _ number => fitsBytes 2 number
  | .collectRecords _ count => fitsBytes 1 count
  | .releaseRecords _ number => fitsBytes 4 number
  | .rearm _ index => fitsBytes 1 index
  | .rearmAll _ => true
  | .manualTrip _ => true
  | .releaseTrips _ number => fitsBytes 4 number
  | .releaseCapture _ => true
  | .setLane _ lane v => fitsBytes 1 lane && v.fits
  | .setTank _ tank v => fitsBytes 1 tank && v.fits
  | .setSource _ index v => fitsBytes 1 index && v.fits
  | .setSourceUnit _ count => fitsBytes 1 count
  | .setClass _ cls hoursRequired ceiling => fitsBytes 1 cls && fitsBytes 1 hoursRequired && fitsBytes 3 ceiling
  | .setRecordPolicy _ policy threshold => fitsBytes 1 policy && fitsBytes 1 threshold
  | .setClock _ value => fitsBytes 4 value
  | .setAccess _ v => v.fits
  | .bayRestart _ _ => true
  | .setMeter _ lane v => fitsBytes 1 lane && v.fits
  | .setProduct _ tank alpha => fitsBytes 1 tank && fitsBytes 2 alpha
  | .setStrapping _ tank points => fitsBytes 1 tank && pointsFit points
  | .lockCal _ code => fitsBytes 4 code
  | .unlockCal _ code => fitsBytes 4 code
  | .wholeSecond => true

end Sys2Proof
end

