-- ==== Sys2Proof/Safety.lean ====
section
/-! DEFINITION. The terms in which the statements speak: which command is a request, under which class and addresses it is
checked, what a port answers, and the laws the spec states of every state (R29, R62, R66, R69, R84, R126, R166, R184, R195). -/

namespace Sys2Proof

open Machine

/-! ## Requests and events -/

/-- The frame of a request that passes step 1 of R177; none for a field, timer or framing command. -/
def Instr.requestFrame : Instr → Option Frame
  | .readEvents f => some f
  | .clearEvents f _ => some f
  | .setAttention f _ _ _ => some f
  | .readPort f => some f
  | .readLane f _ => some f
  | .readStock f => some f
  | .readTank f _ => some f
  | .readAccount f _ => some f
  | .readAccounts f _ _ => some f
  | .setCursor f _ => some f
  | .listOrders f => some f
  | .readDelivery f _ => some f
  | .readTrips f _ => some f
  | .readTripsSource f _ => some f
  | .readCapture f _ => some f
  | .readCal f => some f
  | .readRecordStatus f _ => some f
  | .placeOrder f _ _ _ _ _ => some f
  | .cancelOrder f _ => some f
  | .openLane f _ _ _ _ _ _ => some f
  | .stopLane f _ => some f
  | .enableLane f _ => some f
  | .disableLane f _ => some f
  | .setTankReserve f _ _ => some f
  | .adjustStock f _ _ _ => some f
  | .ackAlarms f _ => some f
  | .ackAlarmsAll f => some f
  | .enrolMachine f _ _ _ _ _ => some f
  | .retireMachine f _ => some f
  | .setMachine f _ _ _ _ _ _ => some f
  | .announceDelivery f _ _ _ => some f
  | .confirmDelivery f _ _ _ _ => some f
  | .endDelivery f _ => some f
  | .withdrawDelivery f _ => some f
  | .releaseDelivery f _ => some f
  | .collectRecords f _ => some f
  | .releaseRecords f _ => some f
  | .rearm f _ => some f
  | .rearmAll f => some f
  | .manualTrip f => some f
  | .releaseTrips f _ => some f
  | .releaseCapture f => some f
  | .setLane f _ _ => some f
  | .setTank f _ _ => some f
  | .setSource f _ _ => some f
  | .setSourceUnit f _ => some f
  | .setClass f _ _ _ => some f
  | .setRecordPolicy f _ _ => some f
  | .setClock f _ => some f
  | .setAccess f _ => some f
  | .bayRestart f _ => some f
  | .setMeter f _ _ => some f
  | .setProduct f _ _ => some f
  | .setStrapping f _ _ => some f
  | .lockCal f _ => some f
  | .unlockCal f _ => some f
  | _ => none

/-- The class of a request (R180). -/
def Instr.requestClass : Instr → Option RequestClass
  | .readEvents _ => some .read
  | .clearEvents _ _ => some .read
  | .setAttention _ _ _ _ => some .read
  | .readPort _ => some .read
  | .readLane _ _ => some .read
  | .readStock _ => some .read
  | .readTank _ _ => some .read
  | .readAccount _ _ => some .read
  | .readAccounts _ _ _ => some .read
  | .setCursor _ _ => some .read
  | .listOrders _ => some .read
  | .readDelivery _ _ => some .read
  | .readTrips _ _ => some .read
  | .readTripsSource _ _ => some .read
  | .readCapture _ _ => some .read
  | .readCal _ => some .read
  | .readRecordStatus _ _ => some .read
  | .placeOrder _ _ _ _ _ _ => some .order
  | .cancelOrder _ _ => some .order
  | .openLane _ _ _ _ _ _ _ => some .lane
  | .stopLane _ _ => some .lane
  | .enableLane _ _ => some .lane
  | .disableLane _ _ => some .lane
  | .setTankReserve _ _ _ => some .stock
  | .adjustStock _ _ _ _ => some .stock
  | .ackAlarms _ _ => some .stock
  | .ackAlarmsAll _ => some .stock
  | .enrolMachine _ _ _ _ _ _ => some .account
  | .retireMachine _ _ => some .account
  | .setMachine _ _ _ _ _ _ _ => some .account
  | .announceDelivery _ _ _ _ => some .delivery
  | .confirmDelivery _ _ _ _ _ => some .delivery
  | .endDelivery _ _ => some .delivery
  | .withdrawDelivery _ _ => some .delivery
  | .releaseDelivery _ _ => some .delivery
  | .collectRecords _ _ => some .records
  | .releaseRecords _ _ => some .records
  | .rearm _ _ => some .safety
  | .rearmAll _ => some .safety
  | .manualTrip _ => some .safety
  | .releaseTrips _ _ => some .safety
  | .releaseCapture _ => some .safety
  | .setLane _ _ _ => some .config
  | .setTank _ _ _ => some .config
  | .setSource _ _ _ => some .config
  | .setSourceUnit _ _ => some .config
  | .setClass _ _ _ _ => some .config
  | .setRecordPolicy _ _ _ => some .config
  | .setClock _ _ => some .config
  | .setAccess _ _ => some .config
  | .bayRestart _ _ => some .config
  | .setMeter _ _ _ => some .cal
  | .setProduct _ _ _ => some .cal
  | .setStrapping _ _ _ => some .cal
  | .lockCal _ _ => some .cal
  | .unlockCal _ _ => some .cal
  | _ => none

/-- The lanes and tanks a request addresses (R182). -/
def Instr.addresses (s : State) : Instr → Addressed
  | .readLane _ lane => addressLane s lane
  | .readTank _ tank => addressTank tank
  | .readDelivery _ number => if number = 0 then .none else addressDelivery s number
  | .placeOrder _ _ tank _ _ _ => addressTank tank
  | .cancelOrder _ number => addressOrder s number
  | .openLane _ lane _ _ _ _ _ => addressLane s lane
  | .stopLane _ lane => addressLane s lane
  | .enableLane _ lane => addressLane s lane
  | .disableLane _ lane => addressLane s lane
  | .setTankReserve _ tank _ => addressTank tank
  | .adjustStock _ tank _ _ => addressTank tank
  | .ackAlarms _ tank => addressTank tank
  | .ackAlarmsAll _ => ⟨0#8, 0xFF#8⟩
  | .announceDelivery _ tank _ _ => addressTank tank
  | .confirmDelivery _ number _ _ _ => addressDelivery s number
  | .endDelivery _ number => addressDelivery s number
  | .withdrawDelivery _ number => addressDelivery s number
  | .releaseDelivery _ number => addressDelivery s number
  | .setLane _ lane v => addressSetLane s lane v.tank
  | .setTank _ tank _ => addressTank tank
  | .setMeter _ lane _ => addressLane s lane
  | .setProduct _ tank _ => addressTank tank
  | .setStrapping _ tank _ => addressTank tank
  | _ => .none

/-- Whether a request is one of the four that only a level-0 port may send (R181). -/
def Instr.needsLevelZero : Instr → Bool
  | .setAccess _ _ => true
  | .bayRestart _ _ => true
  | .lockCal _ _ => true
  | .unlockCal _ _ => true
  | _ => false

/-- Whether a command is a field sample, a condition drawn from one, or the expiry of a timer: none of these is taken while
RESTORING (R171). -/
def Instr.fieldOrTimer : Instr → Bool
  | .quadratureEdge _ _ _ => true
  | .illegalTransition _ => true
  | .meterFault _ => true
  | .indexPulse _ => true
  | .meterSample _ => true
  | .hookSample _ _ => true
  | .pumpRdySample _ _ => true
  | .pumpTimerExpiry _ => true
  | .authorizationTimerExpiry _ => true
  | .noFlowTimerExpiry _ => true
  | .settlePeriodEnd _ => true
  | .attentionPulseExpiry _ => true
  | .gaugeSample _ _ => true
  | .gaugeStale _ => true
  | .staleEnd _ => true
  | .noGaugeTankTimer _ => true
  | .discreteInputSample _ _ => true
  | .sourceTrip _ => true
  | .captureSampleTimerExpiry => true
  | .announcementTimerExpiry _ => true
  | .deliverySettleTimerExpiry _ => true
  | .orderDeadline _ => true
  | _ => false

/-- Whether a command is an event of the supply or of the RESET pin (R169, R171, R197). -/
def Instr.supplyOrReset : Instr → Bool
  | .powerOn _ => true
  | .resetAsserted _ => true
  | .resetReleased _ => true
  | .powerLoss => true
  | _ => false

/-- Whether a request names a lane or a tank with a number above 7, which stands for none (R182); SET_LANE names both. -/
def Instr.namesBeyond : Instr → Bool
  | .readLane _ lane => decide (7 < lane)
  | .readTank _ tank => decide (7 < tank)
  | .placeOrder _ _ tank _ _ _ => decide (7 < tank)
  | .openLane _ lane _ _ _ _ _ => decide (7 < lane)
  | .stopLane _ lane => decide (7 < lane)
  | .enableLane _ lane => decide (7 < lane)
  | .disableLane _ lane => decide (7 < lane)
  | .setTankReserve _ tank _ => decide (7 < tank)
  | .adjustStock _ tank _ _ => decide (7 < tank)
  | .ackAlarms _ tank => decide (7 < tank)
  | .announceDelivery _ tank _ _ => decide (7 < tank)
  | .setLane _ lane v => decide (7 < lane) || decide (7 < v.tank)
  | .setTank _ tank _ => decide (7 < tank)
  | .setMeter _ lane _ => decide (7 < lane)
  | .setProduct _ tank _ => decide (7 < tank)
  | .setStrapping _ tank _ => decide (7 < tank)
  | _ => false

end Sys2Proof

namespace Sys2Proof.Machine

/-- The access check of a request as the spec's tables give it (R181). -/
def State.permits (s : State) (i : PortId) (c : Instr) : Bool :=
  if c.needsLevelZero then decide ((s.port i).level = 0)
  else
    match c.requestClass with
    | none => true
    | some k =>
      decide ((s.port i).level ≤ s.ports.openLevel)
        || !((s.port i).denial.classes.getLsbD k.index || decide ((s.port i).denial.lanes &&& (c.addresses s).lanes ≠ 0#8)
              || decide ((s.port i).denial.tanks &&& (c.addresses s).tanks ≠ 0#8))

/-- A request that its owning block takes: the device RUNNING, the request's port ready for a frame, the access check
passed (R175 to R177). -/
def State.takes (s : State) (f : Frame) (c : Instr) : Bool :=
  decide (s.device.phase = .running) && (s.port f.port).ready && s.permits f.port c

/-- The port's reply to a request (R178): it holds the reply, it is BUSY, and DE is asserted. That DE is asserted in the event of
the acceptance is the model's choice (log 20). -/
def State.answers (s : State) (f : Frame) (code : Byte) (st : Status) (p : Payload) : Prop :=
  (s.port f.port).reply = some { seq := f.seq, code := code ||| 0x80#8, status := st, payload := p }
    ∧ (s.port f.port).rx = .busy ∧ (s.port f.port).de = true

/-- A state that differs from another in its ports alone. -/
def State.sameButPorts (s t : State) : Prop := t = { s with ports := t.ports }

/-- Every port but one as it was, and the open level. -/
def State.otherPorts (s t : State) (i : PortId) : Prop :=
  (∀ j, j ≠ i → t.port j = s.port j) ∧ t.ports.openLevel = s.ports.openLevel

/-- A port that is as another was but for its reply: the receive state, the DE and TX leads and the reply itself (R176). -/
def Port.replying (p q : Port) : Prop :=
  q = { p with rx := q.rx, rxBuffer := q.rxBuffer, overlapMark := q.overlapMark, de := q.de, tx := q.tx, reply := q.reply }

/-- A request answered with nothing changed but the reply of its own port. -/
def State.onlyAnswers (s t : State) (f : Frame) (code : Byte) (st : Status) (p : Payload) : Prop :=
  t.answers f code st p ∧ s.sameButPorts t ∧ s.otherPorts t f.port ∧ (s.port f.port).replying (t.port f.port)

/-- Every lane but one as it was. -/
def State.otherLanes (s t : State) (l : Lane) : Prop := ∀ j, j ≠ l → t.lane j = s.lane j

/-- Every tank but one as it was. -/
def State.otherTanks (s t : State) (k : Tank) : Prop := ∀ j, j ≠ k → t.tank j = s.tank j

/-- A port right after power-on or pin reset: R174's table, its TX lead at R197's released level. -/
def Port.fresh (p : Port) (rate : BitVec 2) : Prop :=
  p.rx = .hunting ∧ p.rxBuffer = [] ∧ p.de = false ∧ p.tx = .high ∧ p.reply = none ∧ p.rate = rate ∧ p.pendingSet = 0#16
    ∧ p.mask = 0x07FF#16 ∧ p.mode = .read ∧ p.width = 10 ∧ p.pulse = none ∧ p.attn = false ∧ p.cursor = 0
    ∧ p.gapCount = 0 ∧ p.crcCount = 0 ∧ p.overlapCount = 0

/-- A meter unit at start-up: R1's table, but for the retained totalizer. -/
def Meter.fresh (m : Meter) : Prop :=
  m.sampleAcc = 0 ∧ m.ivCount = 0 ∧ m.ivFwd = false ∧ m.ivRev = false ∧ m.ivExists = false ∧ m.consec = 0 ∧ m.rate = 0
    ∧ m.band = 0 ∧ m.accA = 0 ∧ m.gross = 0 ∧ m.accN = 0 ∧ m.net = 0 ∧ m.revSum = 0 ∧ m.txnMiscounts = 0 ∧ m.lastT10 = 0
    ∧ m.flags = ⟨false, false, false, false⟩ ∧ m.creepAcc = 0 ∧ m.creepGross = 0 ∧ m.creepCond = false ∧ m.creepTotal = 0

/-- A lane at start-up: R28's table, but for the retained configuration. -/
def LaneUnit.fresh (u : LaneUnit) : Prop :=
  u.state = .disabled ∧ u.stage = none ∧ u.pendingDisable = false ∧ u.held = .empty ∧ u.counters = ⟨0, 0, 0, 0⟩
    ∧ u.authTimer = none ∧ u.noFlowTimer = none ∧ u.settleTimer = none ∧ u.settleCap = none ∧ u.vlo = false ∧ u.vhi = false
    ∧ u.hook = ⟨false, none, false⟩ ∧ u.ctx = none ∧ u.meter.fresh

/-- A tank at start-up: R54's table, but for its retained items, with R83's count at 0 and R84's inlet released. -/
def TankUnit.fresh (k : TankUnit) : Prop :=
  k.level = none ∧ k.t10 = none ∧ k.invalid = 0 ∧ k.gaugeValid = false ∧ k.gaugedNet = none ∧ k.overTable = false
    ∧ k.draws = [] ∧ k.pump = .stopped ∧ k.pumpRun = false ∧ k.pumpTimer = none ∧ k.rdy = ⟨false, none, false⟩
    ∧ k.runs = ⟨0, 0, 0, 0⟩ ∧ k.rawZone = .normal ∧ k.zone = .normal ∧ k.alarms = ⟨false, false, false, false⟩
    ∧ k.window = none ∧ k.lossCond = false ∧ k.lossHanded = false ∧ k.overfillHanded = false ∧ k.noGaugeTimer = none
    ∧ k.drawnSince = 0 ∧ k.inlet = false

/-- A source's volatile items at start-up (R143). -/
def Source.fresh (x : Source) : Prop := x.run = 0 ∧ x.blanking = 0 ∧ x.creepTaken = false ∧ x.lastCond = false

/-- What the blocks hold from the entry to RESTORING on, whatever began it: every volatile item at its start-up value (R1,
R28, R54, R90, R115, R127, R143, R158, R163, R171, R172, R191), and the gauge bus released (log 33). -/
def State.started (t : State) (straps : BitVec 2) : Prop :=
  t.device.phase = .restoring ∧ t.device.lineRate = straps ∧ t.time.uptime = 0 ∧ t.bus = .released
    ∧ (∀ l, (t.lane l).fresh) ∧ (∀ k, (t.tank k).fresh) ∧ (∀ i, (t.source i).fresh)
    ∧ t.orders = { orders := [], next := 1 } ∧ t.spill.capture = .empty ∧ t.spill.captureTimer = none ∧ t.cal.failed = 0
    ∧ t.records.reserved = 0#8 ∧ t.records.dropped = 0
    ∧ ∀ e ∈ t.deliveries.entries, e.state.active = false ∧ e.timer = none ∧ e.waited = none

/-- A command that starts the device up after power-on or pin reset (R171, R172): POWER_ON unless the RESET pin is held low, and
RESET_RELEASED while the supply stands. -/
def State.startsUp (s : State) (straps : BitVec 2) (c : Instr) : Prop :=
  (c = .powerOn straps ∧ s.device.resetHeld = false) ∨ (c = .resetReleased straps ∧ s.device.powered = true)

/-- R93: the occupied slots stand in slot order, at most one entry to a slot. -/
def AccountLaw (s : State) : Prop := (s.accounts.slots.map (fun e => e.1)).Pairwise (· < ·)

/-- R90: a delivery entry after a start-up whose stamp is given: an active one is ABANDONED with START_UP and its complete time, and
keeps its figures; a terminal one is as it was. No timer and no count of samples waited survives. -/
def DeliveryEntry.afterStartUp (stamp : Nat × Bool) (e : DeliveryEntry) : DeliveryEntry :=
  if e.state.active = true then
    { e with
      state := .abandoned, completeTime := some stamp.1, timer := none, waited := none
      flags := { e.flags with startUp := true, clockUnset := e.flags.clockUnset || stamp.2 } }
  else { e with timer := none, waited := none }

/-- What a start-up with the marker present leaves of the store (R90, R93, R108, R127, R131, R143, R161, R170): every retained item
as it was, but for what the start-up itself files, books and abandons. The accounts of the machines of the contexts it files are
booked; every other stays. -/
def State.keepsStore (s t : State) : Prop :=
  t.device.formatMarker = s.device.formatMarker
    ∧ (∀ k, (t.tank k).book = (s.tank k).book ∧ (t.tank k).cfg = (s.tank k).cfg ∧ (t.tank k).reserve = (s.tank k).reserve
      ∧ (t.tank k).shortage = (s.tank k).shortage ∧ (t.tank k).alpha = (s.tank k).alpha
      ∧ (t.tank k).points = (s.tank k).points)
    ∧ (∀ l, (t.lane l).cfg = (s.lane l).cfg ∧ (t.lane l).meter.totalizer = (s.lane l).meter.totalizer
      ∧ (t.lane l).meter.params = (s.lane l).meter.params)
    ∧ t.cal.lock = s.cal.lock ∧ t.cal.changes = s.cal.changes ∧ t.accounts.classes = s.accounts.classes
    ∧ t.records.policy = s.records.policy ∧ t.records.threshold = s.records.threshold
    ∧ t.deliveries.next = s.deliveries.next ∧ t.spill.trips = s.spill.trips ∧ t.spill.tripsDropped = s.spill.tripsDropped
    ∧ t.spill.nextTrip = s.spill.nextTrip ∧ t.spill.captureCount = s.spill.captureCount
    ∧ (∀ i, t.source i = { s.source i with run := 0, blanking := 0, creepTaken := false, lastCond := false })
    ∧ (∀ i, (t.port i).level = (s.port i).level ∧ (t.port i).denial = (s.port i).denial)
    ∧ t.ports.openLevel = s.ports.openLevel
    ∧ t.deliveries.entries = s.deliveries.entries.map (DeliveryEntry.afterStartUp t.stamp)
    ∧ s.records.completed <+: t.records.completed
    ∧ (AccountLaw s → t.accounts.slots.map (fun e => e.1) = s.accounts.slots.map (fun e => e.1)
      ∧ ∀ e ∈ s.accounts.slots, (∀ l c, (s.lane l).ctx = some c → c.tag ≠ e.2.tag) → e ∈ t.accounts.slots)
    ∧ ((∀ l, (s.lane l).ctx = none) →
      t.records.completed = s.records.completed ∧ t.records.next = s.records.next ∧ t.accounts = s.accounts)

/-- What the store holds after the factory values are written (R23, R25, R31, R55, R61, R100, R127, R142, R143, R150, R163, R170,
R183). -/
def State.factoryStore (t : State) : Prop :=
  t.device.formatMarker = true ∧ t.accounts.slots = [] ∧
  t.records.completed = [] ∧ t.records.next = 1 ∧ t.records.policy = .hold ∧ t.records.threshold = 16 ∧
  t.deliveries = { entries := [], next := 1 } ∧ t.cal = { lock := .unlocked, failed := 0, changes := 0 } ∧
  t.accounts.classes =
    { haul := ⟨true, 35000⟩, loader := ⟨true, 30000⟩, dozer := ⟨true, 15000⟩, grader := ⟨true, 6000⟩,
      service := ⟨false, 3000⟩, light := ⟨false, 1500⟩ } ∧
  (∀ k, (t.tank k).book = 0 ∧ (t.tank k).reserve = 0 ∧ (t.tank k).shortage = 0 ∧
    (t.tank k).cfg =
      { cls := if k.val ≤ 1 then .fuel else if k.val = 5 then .coolant else .lube,
        capacity := if k.val ≤ 1 then 20000000 else 3000000, gaugeFitted := decide (k.val ≤ 5), lowLow := 5000,
        low := 15000, high := 170000, highHigh := 185000, zoneDebounce := 3, minFill := 5000, lossLimit := 20000,
        lossWindow := 600 } ∧
    (t.tank k).points = [(0, 0), (200000, if k.val ≤ 1 then 20000000 else 3000000)] ∧
    (t.tank k).alpha = (if k.val ≤ 1 then 830 else if k.val ≤ 4 then 700 else if k.val = 5 then 500 else 0)) ∧
  (∀ l, (t.lane l).meter.totalizer = 0 ∧ (t.lane l).meter.params = ⟨100000, 100, 400, 800, 0, 0, 0, 0, 0⟩ ∧
    (t.lane l).cfg.tank.val = [0, 0, 1, 1, 2, 3, 4, 5].getD l.val 0 ∧
    (t.lane l).cfg = ⟨(t.lane l).cfg.tank, 500, 3000, 120, 4, 3, 1000, 3, 200, 200⟩) ∧
  (∀ i, (t.source i).isTripped = false ∧ (t.source i).enabled = true ∧ (t.source i).tripCount = 0) ∧
  (∀ n, (t.source (.sump n)).debounce = 5 ∧ (t.source (.sump n)).lanes = 0xFF#8 ∧
    (t.source (.sump n)).inlets = 0xFF#8) ∧
  (t.source .estop).debounce = 1 ∧ (t.source .estop).lanes = 0xFF#8 ∧ (t.source .estop).inlets = 0xFF#8 ∧
  (t.source .manual).lanes = 0xFF#8 ∧ (t.source .manual).inlets = 0xFF#8 ∧
  (∀ l, (t.source (.hose l)).debounce = 3 ∧ (t.source (.hose l)).hoseLimit = 1100 ∧
    (t.source (.hose l)).lanes = bit8 l ∧ (t.source (.hose l)).inlets = 0#8) ∧
  (∀ k, (t.source (.overfill k)).debounce = 1 ∧ (t.source (.overfill k)).lanes = 0#8 ∧
    (t.source (.overfill k)).inlets = bit8 k ∧ (t.source (.loss k)).debounce = 1 ∧
    (∀ l, inSet (t.source (.loss k)).lanes l = decide ((t.lane l).cfg.tank = k)) ∧
    (t.source (.loss k)).inlets = bit8 k) ∧
  t.spill.trips = [] ∧ t.spill.nextTrip = 1 ∧ t.spill.captureCount = 16 ∧
  (t.port .console).level = 0 ∧ (t.port .dispatch).level = 1 ∧ (t.port .receipt).level = 2 ∧ t.ports.openLevel = 0 ∧
  (t.port .console).denial = ⟨0#10, 0#8, 0#8⟩ ∧ (t.port .dispatch).denial = ⟨0x284#10, 0#8, 0#8⟩ ∧
  (t.port .receipt).denial = ⟨0x3DE#10, 0#8, 0#8⟩

/-! ## Requests judged by their values -/

/-- The first of a list of checks that fails gives the status (R32). -/
def firstFailed (st : Status) : List (Prop × Status) → Prop
  | [] => False
  | c :: rest => (c.1 ∧ st = c.2) ∨ (¬c.1 ∧ firstFailed st rest)

/-- A tank's summary tells what R76 lists, of a state. -/
def TankSummary.tells (x : TankSummary) (s : State) (k : Tank) : Prop :=
  x = { book := (s.tank k).book, allocated := Machine.allocated (s.tank k).draws,
        available := (s.tank k).book - Machine.allocated (s.tank k).draws - (s.tank k).reserve,
        gaugedNet := (s.tank k).gaugedNet, level := (s.tank k).level, t10 := (s.tank k).t10,
        gaugeValid := (s.tank k).gaugeValid, zone := (s.tank k).zone, alarms := (s.tank k).alarms,
        activeDelivery := s.deliveries.entries.any (fun e => decide (e.tank = k) && e.state.active),
        shortage := (s.tank k).shortage }

/-! ## Ends of transactions and of discharges -/

/-- A record tells the transaction of a lane's context as R132 and R134 say, closed in a state for a reason; the booking alone says
SERVICE. -/
def Record.tells (x : Record) (s : State) (l : Lane) (c : Context) (r : EndReason) : Prop :=
  x = { number := s.records.next, lane := l, tank := (s.lane l).cfg.tank, endReason := r,
        flags :=
          { clampedPreset := c.flags.clampedPreset, hoursOverridden := c.flags.hoursOverridden, noHours := c.flags.noHours,
            tempAssumed := (s.lane l).meter.flags.tempAssumed, reverseSeen := (s.lane l).meter.flags.reverseSeen,
            miscountSeen := (s.lane l).meter.flags.miscountSeen, overrange := (s.lane l).meter.flags.overrange,
            trimmed := c.flags.trimmed, service := x.flags.service, priority := c.flags.priority,
            clockUnset := c.flags.clockUnset || s.stamp.2 },
        order := c.order, tag := c.tag, startTime := c.startTime, endTime := s.stamp.1, hours := c.hours,
        preset := c.effPreset, gross := (s.lane l).meter.gross, net := (s.lane l).meter.net,
        overrun := ((s.lane l).meter.net - c.effPreset).toNat, lastT10 := (s.lane l).meter.lastT10,
        totalizer := (s.lane l).meter.totalizer, calChanges := s.cal.changes, miscounts := (s.lane l).meter.txnMiscounts,
        stageAtEnd := c.stageAtEnd }

/-- One event counter after a close: raised by one up to 15 where its condition was met (R51). -/
def raised (met : Bool) (n : Nat) : Nat := if met = true then min 15 (n + 1) else n

/-- What a lane's close leaves (R46, R51, R130, R131, R136): one record filed under the next number, the reservation and the context
gone, the event counters raised, LANE_END posted, COUNTER where a rise brings a counter to 15, and RECORDS where the filing reaches
the threshold. -/
def State.filesRecord (s t : State) (l : Lane) (c : Context) (x : Record) : Prop :=
  t.records =
      { s.records with
        completed := s.records.completed ++ [x], reserved := t.records.reserved
        next := if s.records.next < 4294967295 then s.records.next + 1 else 1 }
    ∧ (∀ j, inSet t.records.reserved j = (decide (j ≠ l) && inSet s.records.reserved j)) ∧ (t.lane l).ctx = none
    ∧ (t.lane l).counters =
      { miscount := raised (s.lane l).meter.flags.miscountSeen (s.lane l).counters.miscount
        reverse := raised (s.lane l).meter.flags.reverseSeen (s.lane l).counters.reverse
        overrun := raised c.overrunTaken (s.lane l).counters.overrun
        trimmed := raised c.flags.trimmed (s.lane l).counters.trimmed }
    ∧ ∀ i, holdsKind (t.port i).pendingSet .laneEnd = true
      ∧ holdsKind (t.port i).pendingSet .counter =
        (holdsKind (s.port i).pendingSet .counter
          || ((s.lane l).meter.flags.miscountSeen && decide ((s.lane l).counters.miscount = 14))
          || ((s.lane l).meter.flags.reverseSeen && decide ((s.lane l).counters.reverse = 14))
          || (c.overrunTaken && decide ((s.lane l).counters.overrun = 14))
          || (c.flags.trimmed && decide ((s.lane l).counters.trimmed = 14)))
      ∧ holdsKind (t.port i).pendingSet .records =
        (holdsKind (s.port i).pendingSet .records || decide (s.records.completed.length + 1 = s.records.threshold))

/-- The records that an event files for the lanes it ends at once, AUTHORIZED or STARTING, and what it does to those that are
DELIVERING (R38, R43). That these records stand in lane order is the model's reading (log 10). -/
def State.endsLanes (s t : State) (ls : Lane → Bool) (r : EndReason) (xs : List Record) : Prop :=
  xs.map (fun x => x.lane) =
      allEight.filter (fun l =>
        ls l && (decide ((s.lane l).state = .authorized) || decide ((s.lane l).state = .starting)) && (s.lane l).ctx.isSome)
    ∧ (∀ x ∈ xs, x.endReason = r ∧ ∃ c, (s.lane x.lane).ctx = some c ∧ x.tag = c.tag ∧ x.order = c.order
      ∧ x.stageAtEnd = c.stageAtEnd ∧ x.net = (s.lane x.lane).meter.net)
    ∧ ∀ l c, ls l = true → (s.lane l).ctx = some c →
      ((s.lane l).state = .authorized ∨ (s.lane l).state = .starting →
        (t.lane l).ctx = none ∧ (t.lane l).state.isOpen = false)
      ∧ ((s.lane l).state = .delivering →
        (t.lane l).state = .settling ∧ (t.lane l).vlo = false ∧ (t.lane l).vhi = false
          ∧ (t.lane l).settleTimer = some (s.lane l).cfg.settleTime ∧ (t.lane l).ctx = some { c with endReason := some r })

/-- R86: a delivery entry where the inlets of some tanks become blocked: the FILLING one of such a tank is SETTLING with INTERRUPTED,
its end time taken and its settle timer started; every other entry is as it was. -/
def DeliveryEntry.interruptedAt (ts : Tank → Bool) (stamp : Nat × Bool) (e : DeliveryEntry) : DeliveryEntry :=
  if ts e.tank = true ∧ e.state = .filling then
    { e with
      state := .settling, endTime := some stamp.1, timer := e.conf.map (fun c => c.settle), waited := none
      flags := { e.flags with interrupted := true, clockUnset := e.flags.clockUnset || stamp.2 } }
  else e

/-! ## Laws -/

/-- R29: VLO is energized only in DELIVERING, VHI only in its stage HIGH. -/
def ValveLaw (s : State) : Prop :=
  ∀ l, ((s.lane l).vlo = true → (s.lane l).state = .delivering)
    ∧ ((s.lane l).vhi = true → (s.lane l).state = .delivering ∧ (s.lane l).stage = some .high)

/-- R29, R69: no lane that is AUTHORIZED, STARTING or DELIVERING is blocked or drains a tank in LOW_LOW, and the pump of a
tank in LOW_LOW is STOPPED. -/
def FlowLaw (s : State) : Prop :=
  (∀ l, (s.lane l).state.endedByTrip = true → s.laneBlocked l = false ∧ (s.tank (s.lane l).cfg.tank).zone ≠ .lowLow)
    ∧ ∀ t, (s.tank t).zone = .lowLow → (s.tank t).pump = .stopped

/-- R84: an inlet permissive is asserted only while RUNNING and not blocked. -/
def InletLaw (s : State) : Prop :=
  ∀ t, (s.tank t).inlet = true → s.device.phase = .running ∧ s.inletBlocked t = false

/-- R62, R66: the remaining allocations of a tank never exceed its book, and the book stays in its range. -/
def StockLaw (s : State) : Prop :=
  ∀ t, allocated (s.tank t).draws ≤ (s.tank t).book ∧ (s.tank t).book ≤ 2000000000

/-- R126: completed records plus reservations never exceed 64, and a lane holds a reservation exactly while it holds an open
transaction's context. -/
def RecordLaw (s : State) : Prop :=
  s.records.completed.length + setCount s.records.reserved ≤ 64
    ∧ ∀ l, inSet s.records.reserved l = (s.lane l).ctx.isSome

/-- R28, R34, R46: a lane holds a context exactly while its transaction is open. -/
def ContextLaw (s : State) : Prop := ∀ l, (s.lane l).ctx.isSome = (s.lane l).state.isOpen

/-- R184: at least one port has level 0. -/
def AccessLaw (s : State) : Prop := ∃ i, (s.port i).level = 0

/-- R195: the bits of a pending set and a mask that stand for no kind are 0. -/
def EventLaw (s : State) : Prop :=
  ∀ i, (s.port i).pendingSet &&& 0xF800#16 = 0#16 ∧ (s.port i).mask &&& 0xF800#16 = 0#16

/-- R174, R175: a port is RECEIVING exactly while its buffer holds characters, and its three counters stay from 0 to 255. -/
def ReceiveLaw (s : State) : Prop :=
  ∀ i, ((s.port i).rx = .receiving ↔ (s.port i).rxBuffer ≠ []) ∧ (s.port i).gapCount ≤ 255 ∧ (s.port i).crcCount ≤ 255
    ∧ (s.port i).overlapCount ≤ 255

/-- R19: a lane totalizer stays below 10^11. -/
def TotalizerLaw (s : State) : Prop := ∀ l, (s.lane l).meter.totalizer < 100000000000

/-- R78, R114, R155: the lists hold at most 8 deliveries, 16 orders and 16 trips. -/
def ListLaw (s : State) : Prop :=
  s.deliveries.entries.length ≤ 8 ∧ s.orders.orders.length ≤ 16 ∧ s.spill.trips.length ≤ 16

/-- The calibration parameters of R166: every meter's, and every tank's α and strapping table. -/
def State.sameCalibration (s t : State) : Prop :=
  (∀ l, (t.lane l).meter.params = (s.lane l).meter.params)
    ∧ ∀ k, (t.tank k).alpha = (s.tank k).alpha ∧ (t.tank k).points = (s.tank k).points

end Sys2Proof.Machine
end

