-- ==== Sys2Proof/Certificates/Slice0/Obligations.lean ====
section
/-! DEFINITION. The statements for the provers. Each docstring names the rules it comes from. -/

open Sys2Proof Sys2Proof.Machine

/-! ## The whole machine -/

/-- A step runs the command at the front of the queue, on the state with the queue's rest (the model's queue: log 26). -/
def Obligations.StepRunsFrontCommand : Prop :=
  ∀ (c : Instr) (s : State), step { s with pending := c :: s.pending } = exec c s

/-- Every command is taken to a next state, in every state, and leaves the queue alone: no rule of the spec stops the device.
The form is the model's (log 22, log 26). -/
def Obligations.EveryCommandCompletes : Prop :=
  ∀ (c : Instr) (s : State), ∃ t, exec c s = .next t ∧ t.pending = s.pending

/-- R177, R181, R171: a request at a ready port is answered STARTING while RESTORING and DENIED where the access check fails,
and then nothing changes but that port. -/
def Obligations.RefusedRequestChangesNothing : Prop :=
  ∀ (c : Instr) (s : State) (f : Frame) (code : Byte), c.requestFrame = some f → requestCode c = some code →
    (s.port f.port).ready = true →
    (s.device.phase = .restoring →
      ∃ t, exec c s = .next t ∧ t.answers f code .starting .nothing ∧ s.sameButPorts t ∧ s.otherPorts t f.port) ∧
    (s.device.phase = .running → s.permits f.port c = false →
      ∃ t, exec c s = .next t ∧ t.answers f code .denied .nothing ∧ s.sameButPorts t ∧ s.otherPorts t f.port)

/-- R176: a request frame at a port that is BUSY or SHUNNING is lost: it gets no reply and reaches no block. That the model
takes such a request command as an overlapping frame is its choice (log 6). -/
def Obligations.RequestAtBusyPortIsLost : Prop :=
  ∀ (c : Instr) (s : State) (f : Frame), c.requestFrame = some f → s.device.phase ≠ .held →
    (s.port f.port).ready = false →
    ∃ t, exec c s = .next t ∧ s.sameButPorts t ∧ s.otherPorts t f.port ∧ (t.port f.port).reply = (s.port f.port).reply ∧
      ((s.port f.port).rx = .busy → (s.port f.port).overlapMark = false →
        (t.port f.port).overlapCount = min 255 ((s.port f.port).overlapCount + 1) ∧ (t.port f.port).overlapMark = true)

/-- R171, R197: no field sample is taken and no timer runs outside RUNNING; a device held in reset takes nothing but the
events of its supply and its RESET pin. -/
def Obligations.NothingIsSampledOutsideRunning : Prop :=
  ∀ (c : Instr) (s : State),
    (c.fieldOrTimer = true → s.device.phase ≠ .running → exec c s = .next s) ∧
    (c.supplyOrReset = false → s.device.phase = .held → exec c s = .next s)

/-! ## Start-up (R169 to R174) -/

/-- R171, R172, R174, R190: POWER_ON and RESET_RELEASED begin RESTORING: outputs released, every block's volatile items at
their start-up values (R1, R28, R54, R115, R127, R143, R158, R163, R191), the ports fresh at the strapped rate, the clock unset;
with the marker present the books, the configurations, the calibration and its lock, the sources, the trip list, the class table and
the ports' levels and denial maps come back, the records with those of the open contexts after them, the accounts of machines with no
open context, and the delivery list: R90: an active entry ABANDONED with START_UP and its figures kept, a terminal one as it was. That POWER_ON starts up a device that
has power, and RESET_RELEASED one whose pin was not held, is the model's reading (log 5); the gauge bus at rest is its choice
(log 33). -/
def Obligations.PowerOnBeginsRestoring : Prop :=
  ∀ (s : State) (straps : BitVec 2) (cmd : Instr), s.startsUp straps cmd →
    ∃ t, exec cmd s = .next t ∧ t.started straps ∧ (∀ i, (t.port i).fresh straps) ∧
      t.time = { clock := 0, isSet := false, uptime := 0 } ∧ (s.device.formatMarker = true → s.keepsStore t)

/-- R127, R131, R135, R172: with the marker present, each open context is filed at start-up as a POWER_LOST record with end
time 0, after the records already held, in lane order, the numbers running on from the next record number; no reservation is
left. R108: the machine of a filed context is booked with its fill, its hours and its net, and with no last fill time, burn rate
or service. That POWER_ON does so in a device that already runs, and RESET_RELEASED in one whose pin was not held, is the model's
reading (log 5). -/
def Obligations.StartUpFilesPowerLostRecords : Prop :=
  ∀ (s : State) (straps : BitVec 2) (cmd : Instr), s.startsUp straps cmd → s.device.formatMarker = true →
    ∃ t rs, exec cmd s = .next t ∧ t.records.completed = s.records.completed ++ rs ∧
      rs.map (fun r => r.lane) = allEight.filter (fun l => (s.lane l).ctx.isSome) ∧
      (∀ r ∈ rs, r.endReason = .powerLost ∧ r.endTime = 0 ∧ r.flags.clockUnset = true ∧ r.flags.service = false ∧
        ∃ c, (s.lane r.lane).ctx = some c ∧ r.tag = c.tag ∧ r.order = c.order ∧ r.net = c.figures.net ∧
          r.gross = c.figures.gross ∧ r.preset = c.effPreset ∧ r.stageAtEnd = c.stageAtEnd) ∧
      t.records.policy = s.records.policy ∧ t.records.threshold = s.records.threshold ∧ t.records.reserved = 0#8 ∧
      (1 ≤ s.records.next → s.records.next ≤ 4294967295 →
        rs.map (fun r => r.number) = (List.range rs.length).map (fun i => (s.records.next - 1 + i) % 4294967295 + 1) ∧
        t.records.next = (s.records.next - 1 + rs.length) % 4294967295 + 1) ∧
      ∀ l c i a, AccountLaw s → (s.lane l).ctx = some c → (∀ j d, j ≠ l → (s.lane j).ctx = some d → d.tag ≠ c.tag) →
        findAccount s.accounts.slots c.tag = some (i, a) →
        ∃ b, findAccount t.accounts.slots c.tag = some (i, b) ∧ b.fills = min 65535 (a.fills + 1) ∧
          b.hoursLast =
            (match c.hours with
            | none => a.hoursLast
            | some h => some (max (a.hoursLast.getD 0) h)) ∧
          b.fuelTotal =
            (if (s.tank (s.lane l).cfg.tank).cfg.cls = .fuel ∧ 0 < c.figures.net then
              min 99999999999 (a.fuelTotal + c.figures.net.toNat)
            else a.fuelTotal) ∧
          b.lubeTotal =
            (if (s.tank (s.lane l).cfg.tank).cfg.cls ≠ .fuel ∧ 0 < c.figures.net then
              min 99999999999 (a.lubeTotal + c.figures.net.toNat)
            else a.lubeTotal) ∧
          b.lastFill = a.lastFill ∧ b.burnRate = a.burnRate ∧ b.burnHigh = a.burnHigh ∧ b.items = a.items

/-- R127, R163, R170, R183: a start-up that finds the marker absent writes the factory values of R23, R25, R31, R55, R61, R100,
R142, R143 and R150, and the marker. That POWER_ON does so in a device that already runs, and RESET_RELEASED in one whose pin was not
held, is the model's reading (log 5). -/
def Obligations.MissingMarkerWritesFactoryValues : Prop :=
  ∀ (s : State) (straps : BitVec 2) (cmd : Instr), s.startsUp straps cmd → s.device.formatMarker = false →
    ∃ t, exec cmd s = .next t ∧ t.started straps ∧ t.factoryStore ∧ (∀ i, (t.port i).fresh straps) ∧
      t.time = { clock := 0, isSet := false, uptime := 0 }

/-- R169, R171, R197: RESET held low, a supply below 2.7 V and a power loss release every output and answer nothing; what
the store holds stays: the format marker, every lane's and tank's retained items, the ports' levels, denial maps and open level, and
every other block whole. The gauge bus's levels at rest are the model's choice (log 33). -/
def Obligations.HeldDeviceReleasesOutputs : Prop :=
  ∀ (s : State) (c : Instr), c = .powerLoss ∨ (∃ cause, c = .resetAsserted cause) →
    ∃ t, exec c s = .next t ∧
      t.device = { s.device with phase := .held, powered := t.device.powered, resetHeld := t.device.resetHeld } ∧
      (c = .resetAsserted .pin → t.device.resetHeld = true ∧ t.device.powered = s.device.powered) ∧
      (c ≠ .resetAsserted .pin → t.device.powered = false ∧ t.device.resetHeld = s.device.resetHeld) ∧
      (∀ l, t.lane l = { s.lane l with vlo := false, vhi := false }) ∧
      (∀ k, t.tank k = { s.tank k with pumpRun := false, inlet := false }) ∧
      (∀ i, (t.port i).tx = .high ∧ (t.port i).de = false ∧ (t.port i).attn = false ∧ (t.port i).reply = none ∧
        (t.port i).level = (s.port i).level ∧ (t.port i).denial = (s.port i).denial) ∧
      t.ports.openLevel = s.ports.openLevel ∧ t.bus = .released ∧
      t = { s with device := t.device, ports := t.ports, lanes := t.lanes, tanks := t.tanks, bus := t.bus }

/-- R1, R136, R144, R172, R185: the restore completion takes a RESTORING device to RUNNING with uptime 0, the reference
pairs read, the 1 s timer of every tank with no gauge started, STARTED posted to every port, and RECORDS with it when the completed count is
at or above the threshold. -/
def Obligations.RestoreCompleteEntersRunning : Prop :=
  ∀ (s : State) (a b : LaneSet),
    (s.device.phase = .restoring →
      ∃ t, exec (.restoreComplete a b) s = .next t ∧ t.device.phase = .running ∧ t.time = { s.time with uptime := 0 } ∧
        (∀ l, (t.lane l).meter.refA = inSet a l ∧ (t.lane l).meter.refB = inSet b l ∧ (t.lane l).state = (s.lane l).state) ∧
        (∀ k, t.tank k =
          { s.tank k with noGaugeTimer := if (s.tank k).cfg.gaugeFitted = true then none else some 1 }) ∧
        (∀ i, holdsKind (t.port i).pendingSet .started = true) ∧
        (∀ i, s.records.threshold ≤ s.records.completed.length → holdsKind (t.port i).pendingSet .records = true) ∧
        (∀ i, s.records.completed.length < s.records.threshold →
          (t.port i).pendingSet = (s.port i).pendingSet ||| EventKind.started.bit) ∧
        t = { s with device := t.device, time := t.time, ports := t.ports, lanes := t.lanes, tanks := t.tanks }) ∧
    (s.device.phase ≠ .restoring → exec (.restoreComplete a b) s = .next s)

/-- R90, R127, R131, R173, R174, R190: BAY_RESTART from a level-0 port, with no transaction open and no discharge in progress, is answered OK
and begins RESTORING in the same event: the clock and the ports' attention settings are kept, and the requesting port sends
its reply at the rate with which it began. R170: with the marker present the retained items come back, the completed records, the next
record number and the accounts unchanged, and every delivery that was ANNOUNCED is ABANDONED with START_UP at the kept bay time; with the
marker absent the factory values and the marker are written. No context is filed, for no lane that holds one has its transaction closed
(ContextLaw). With a transaction open or a discharge in progress it is refused with WRONG_STATE. -/
def Obligations.BayRestartKeepsClockAndAttention : Prop :=
  ∀ (s : State) (f : Frame) (straps : BitVec 2), s.takes f (.bayRestart f straps) = true →
    ((∀ l, (s.lane l).state.isOpen = false) → (∀ e ∈ s.deliveries.entries, e.state.discharging = false) →
      ∃ t, exec (.bayRestart f straps) s = .next t ∧ t.answers f 0x60#8 .ok .nothing ∧ t.started straps ∧
        t.time.clock = s.time.clock ∧ t.time.isSet = s.time.isSet ∧ (t.port f.port).rate = (s.port f.port).rate ∧
        (∀ i, (t.port i).mask = (s.port i).mask ∧ (t.port i).mode = (s.port i).mode ∧ (t.port i).width = (s.port i).width ∧
          (t.port i).pendingSet = 0#16 ∧ (t.port i).attn = false) ∧
        (s.device.formatMarker = true → s.keepsStore t) ∧ (s.device.formatMarker = false → t.factoryStore) ∧
        (s.device.formatMarker = true → ContextLaw s →
          t.records.completed = s.records.completed ∧ t.records.next = s.records.next ∧ t.accounts = s.accounts) ∧
        (s.device.formatMarker = true → ∀ e ∈ s.deliveries.entries, e.state = .announced →
          { e with
            state := .abandoned, completeTime := some s.stamp.1, timer := none, waited := none
            flags := { e.flags with startUp := true, clockUnset := e.flags.clockUnset || s.stamp.2 } } ∈
            t.deliveries.entries)) ∧
    (((∃ l, (s.lane l).state.isOpen = true) ∨ ∃ e ∈ s.deliveries.entries, e.state.discharging = true) →
      ∃ t, exec (.bayRestart f straps) s = .next t ∧ t.answers f 0x60#8 .wrongState .nothing ∧ s.sameButPorts t ∧
        s.otherPorts t f.port)

/-! ## Metering (R1 to R22) -/

/-- R2, R5, R42, R45: a valid transition counts one signed edge and moves the reference pair; with the index check off that is
all, and the edge restarts the no-flow timer in DELIVERING and the settle timer, not its cap, in SETTLING. An unchanged pair
counts nothing. R5, R7: with the check on, the edge also counts into the index interval, and one that carries the interval's
absolute count past 2 × EPR + 2 is a miscount and restarts the interval. R3, R8: an illegal transition counts no edge, takes the
present pair, and is a miscount. -/
def Obligations.DecoderCountsEdgesAndMiscounts : Prop :=
  ∀ (s : State) (l : Lane) (a b : Bool), s.device.phase = .running →
    (∀ sign, transition (s.lane l).meter.refA (s.lane l).meter.refB a b = .edge sign →
      ∃ t, exec (.quadratureEdge l a b) s = .next t ∧ s.otherLanes t l ∧
        (t.lane l).meter.sampleAcc = (s.lane l).meter.sampleAcc + sign ∧ (t.lane l).meter.refA = a ∧
        (t.lane l).meter.refB = b ∧ (t.lane l).meter.gross = (s.lane l).meter.gross ∧
        (t.lane l).meter.net = (s.lane l).meter.net ∧ (t.lane l).meter.totalizer = (s.lane l).meter.totalizer ∧
        ((s.lane l).meter.params.epr = 0 →
          t = s.setLane l (t.lane l) ∧ (t.lane l).state = (s.lane l).state ∧
          (t.lane l).meter.consec = (s.lane l).meter.consec ∧ (t.lane l).settleCap = (s.lane l).settleCap ∧
          ((s.lane l).state = .delivering → (t.lane l).noFlowTimer = some (s.lane l).cfg.noFlowTime) ∧
          ((s.lane l).state = .settling → (t.lane l).settleTimer = some (s.lane l).cfg.settleTime)) ∧
        ((s.lane l).meter.params.epr ≠ 0 →
          (((s.lane l).meter.ivCount + sign).natAbs ≤ 2 * (s.lane l).meter.params.epr + 2 →
            t = s.setLane l (t.lane l) ∧ (t.lane l).state = (s.lane l).state ∧
            (t.lane l).meter.ivCount = (s.lane l).meter.ivCount + sign ∧
            (t.lane l).meter.ivFwd = ((s.lane l).meter.ivFwd || decide (0 < sign)) ∧
            (t.lane l).meter.ivRev = ((s.lane l).meter.ivRev || decide (sign < 0)) ∧
            (t.lane l).meter.ivExists = (s.lane l).meter.ivExists ∧ (t.lane l).meter.consec = (s.lane l).meter.consec) ∧
          (2 * (s.lane l).meter.params.epr + 2 < ((s.lane l).meter.ivCount + sign).natAbs →
            (t.lane l).meter.ivCount = 0 ∧ (t.lane l).meter.ivFwd = false ∧ (t.lane l).meter.ivRev = false ∧
            (t.lane l).meter.ivExists = true ∧ (t.lane l).meter.consec = min 15 ((s.lane l).meter.consec + 1) ∧
            ((s.lane l).state.metered = true →
              (t.lane l).meter.txnMiscounts = min 15 ((s.lane l).meter.txnMiscounts + 1) ∧
              (t.lane l).meter.flags.miscountSeen = true)))) ∧
    (transition (s.lane l).meter.refA (s.lane l).meter.refB a b = .unchanged →
      exec (.quadratureEdge l a b) s = .next s) ∧
    (∃ t, exec (.illegalTransition l) s = .next t ∧ s.otherLanes t l ∧
      (t.lane l).meter.sampleAcc = (s.lane l).meter.sampleAcc ∧
      (t.lane l).meter.ivCount = (s.lane l).meter.ivCount ∧
      (t.lane l).meter.refA = !(s.lane l).meter.refA ∧ (t.lane l).meter.refB = !(s.lane l).meter.refB ∧
      (t.lane l).meter.consec = min 15 ((s.lane l).meter.consec + 1) ∧
      ((s.lane l).state.metered = true →
        (t.lane l).meter.txnMiscounts = min 15 ((s.lane l).meter.txnMiscounts + 1) ∧
        (t.lane l).meter.flags.miscountSeen = true) ∧
      ((s.lane l).state.metered = false →
        t = s.setLane l (t.lane l) ∧ (t.lane l).meter.txnMiscounts = (s.lane l).meter.txnMiscounts))

/-- R9, R47, R48: the miscount that reaches the limit in the metered phase is a METER fault: held, LANE_FAULT posted; from
DELIVERING the valves close and the lane settles with FAULT_METER, in SETTLING the reason is replaced, and from STARTING the
transaction closes, the lane is DISABLED, its MISCOUNT counter rises (R51) and its record is filed (R132, R136). R6: an index pulse is judged. That METER_FAULT stands for the miscount event is
the model's reading (log 4). -/
def Obligations.MeterFaultAndIndexJudgement : Prop :=
  ∀ (s : State) (l : Lane) (c : Context), s.device.phase = .running →
    ((s.lane l).ctx = some c → (s.lane l).state.metered = true → (s.lane l).meter.consec < (s.lane l).cfg.miscountLimit →
      (s.lane l).cfg.miscountLimit ≤ 15 →
      ∃ t, exec (.meterFault l) s = .next t ∧ s.otherLanes t l ∧ (t.lane l).held.meter = true ∧
        (t.lane l).meter.consec = (s.lane l).cfg.miscountLimit ∧
        (∀ i, holdsKind (t.port i).pendingSet .laneFault = true) ∧
        ((s.lane l).state ≠ .starting →
          (t.lane l).state = .settling ∧ (t.lane l).ctx.bind (fun d => d.endReason) = some .faultMeter) ∧
        ((s.lane l).state ≠ .settling → (t.lane l).vlo = false ∧ (t.lane l).vhi = false) ∧
        ((s.lane l).state = .settling → (t.lane l).settleTimer = (s.lane l).settleTimer) ∧
        ((s.lane l).state = .starting → (t.lane l).state = .disabled ∧ (t.lane l).ctx = none ∧
          (∃ rec, t.records.completed = s.records.completed ++ [rec] ∧ rec.endReason = .faultMeter ∧ rec.tag = c.tag ∧
            rec.flags.miscountSeen = true ∧ rec.miscounts = min 15 ((s.lane l).meter.txnMiscounts + 1)) ∧
          (t.lane l).counters.miscount = min 15 ((s.lane l).counters.miscount + 1) ∧
          ((s.lane l).counters.miscount = 14 → ∀ i, holdsKind (t.port i).pendingSet .counter = true) ∧
          (s.records.completed.length + 1 = s.records.threshold →
            ∀ i, holdsKind (t.port i).pendingSet .records = true))) ∧
    ((s.lane l).meter.params.epr = 0 → exec (.indexPulse l) s = .next s) ∧
    ((s.lane l).meter.params.epr ≠ 0 →
      ∃ t, exec (.indexPulse l) s = .next t ∧ s.otherLanes t l ∧ (t.lane l).meter.ivCount = 0 ∧
        (t.lane l).meter.ivFwd = false ∧ (t.lane l).meter.ivRev = false ∧ (t.lane l).meter.ivExists = true ∧
        (((s.lane l).meter.ivExists = false ∨ ((s.lane l).meter.ivFwd = true ∧ (s.lane l).meter.ivRev = true)) →
          (t.lane l).meter.consec = (s.lane l).meter.consec) ∧
        ((s.lane l).meter.ivExists = true → ((s.lane l).meter.ivFwd && (s.lane l).meter.ivRev) = false →
          (if (s.lane l).meter.params.epr - 2 ≤ (s.lane l).meter.ivCount.natAbs ∧
              (s.lane l).meter.ivCount.natAbs ≤ (s.lane l).meter.params.epr + 2 then
            (t.lane l).meter.consec = 0
          else (t.lane l).meter.consec = min 15 ((s.lane l).meter.consec + 1))))

/-- R11: a meter sample's rate is |ΔE| × 600,000 / Kx, truncated and clamped to 9,999, on both paths and in every state. -/
def Obligations.SampleRateFollowsEdgeCount : Prop :=
  ∀ (s : State) (l : Lane), s.device.phase = .running →
    ∃ t, exec (.meterSample l) s = .next t ∧
      (t.lane l).meter.rate =
        min 9999 ((max (-32767) (min 32767 (s.lane l).meter.sampleAcc)).natAbs * 600000 / (s.lane l).meter.params.kx) ∧
      ((s.lane l).meter.sampleAcc = 0 → (t.lane l).meter.rate = 0)

/-- R4, R10, R12 to R16, R19: a transaction-path sample takes the clamped edge count in the band of its own rate into A, G,
N and the totalizer, with the VCF of the tank's α and held temperature; the creep accumulator is not touched. -/
def Obligations.TransactionSampleFigures : Prop :=
  ∀ (s : State) (l : Lane), s.device.phase = .running → (s.lane l).state.metered = true →
    ∃ t, exec (.meterSample l) s = .next t ∧ (t.lane l).meter.sampleAcc = 0 ∧
      (t.lane l).meter.band = bandOf (s.lane l).meter.params (t.lane l).meter.rate ∧
      (t.lane l).meter.accA =
        max (-9223372036854775807)
          (min 9223372036854775807
            ((s.lane l).meter.accA +
              max (-32767) (min 32767 (s.lane l).meter.sampleAcc) *
                (1000000 + correctionOf (s.lane l).meter.params (t.lane l).meter.band))) ∧
      (t.lane l).meter.gross = (t.lane l).meter.accA.tdiv (10 * (s.lane l).meter.params.kx) ∧
      (t.lane l).meter.accN =
        max (-9223372036854775807)
          (min 9223372036854775807
            ((s.lane l).meter.accN +
              ((t.lane l).meter.gross - (s.lane l).meter.gross) *
                vcf (s.tank (s.lane l).cfg.tank).alpha ((s.tank (s.lane l).cfg.tank).t10.getD 150))) ∧
      (t.lane l).meter.net = (t.lane l).meter.accN.tdiv 1000000 ∧
      ((t.lane l).meter.totalizer : Int) =
        ((s.lane l).meter.totalizer + ((t.lane l).meter.gross - (s.lane l).meter.gross)) % 100000000000 ∧
      (t.lane l).meter.lastT10 = (s.tank (s.lane l).cfg.tank).t10.getD 150 ∧
      (t.lane l).meter.creepAcc = (s.lane l).meter.creepAcc ∧ (t.lane l).meter.creepTotal = (s.lane l).meter.creepTotal

/-- R62, R83: a transaction-path sample lowers its tank's book by ΔN, and by nothing else; what does not fit goes to the
shortage, a negative ΔN raises the book. The drawn-since-sample count takes ΔN. No other tank's book changes. With no trim and no
clamp in the sample: R18, R48: the first reverse sum past the limit is a REVERSE fault. R41: a DELIVERING lane whose N has reached
the effective preset settles with PRESET, or, R45, with FAULT_OVERRUN where it has passed it by more than the limit. R40: below
the preset, and with no trip of its HOSE source, the lane stays DELIVERING in the stage that N gives. The order of these tests in
one sample is the model's reading (log 8). -/
def Obligations.TransactionSampleBooksNet : Prop :=
  ∀ (s : State) (l : Lane), s.device.phase = .running → (s.lane l).state.metered = true →
    ∃ t, exec (.meterSample l) s = .next t ∧
      (∀ k, k ≠ (s.lane l).cfg.tank →
        (t.tank k).book = (s.tank k).book ∧ (t.tank k).shortage = (s.tank k).shortage ∧
        (t.tank k).drawnSince = (s.tank k).drawnSince) ∧
      (t.tank (s.lane l).cfg.tank).drawnSince =
        max (-2000000000)
          (min 2000000000
            ((s.tank (s.lane l).cfg.tank).drawnSince + ((t.lane l).meter.net - (s.lane l).meter.net))) ∧
      (((t.lane l).meter.net - (s.lane l).meter.net < 0 →
        (t.tank (s.lane l).cfg.tank).book =
          min 2000000000 ((s.tank (s.lane l).cfg.tank).book + ((s.lane l).meter.net - (t.lane l).meter.net).toNat)) ∧
       (0 ≤ (t.lane l).meter.net - (s.lane l).meter.net →
        (t.tank (s.lane l).cfg.tank).book =
          (s.tank (s.lane l).cfg.tank).book - ((t.lane l).meter.net - (s.lane l).meter.net).toNat ∧
        (t.tank (s.lane l).cfg.tank).shortage =
          (if ((t.lane l).meter.net - (s.lane l).meter.net).toNat ≤ (s.tank (s.lane l).cfg.tank).book then
            (s.tank (s.lane l).cfg.tank).shortage
          else
            min 2000000000
              ((s.tank (s.lane l).cfg.tank).shortage +
                (((t.lane l).meter.net - (s.lane l).meter.net).toNat - (s.tank (s.lane l).cfg.tank).book))))) ∧
      ∀ c, (s.lane l).ctx = some c → -32767 ≤ (s.lane l).meter.sampleAcc → (s.lane l).meter.sampleAcc ≤ 32767 →
        allocated (recompute l (t.lane l).meter.net (s.tank (s.lane l).cfg.tank).draws) ≤ (t.tank (s.lane l).cfg.tank).book →
        ((s.lane l).meter.revGiven = false → (s.lane l).cfg.reverseLimit < (t.lane l).meter.revSum →
          (t.lane l).held.reverse = true ∧ (∀ i, holdsKind (t.port i).pendingSet .laneFault = true) ∧
          ((s.lane l).state = .delivering →
            (t.lane l).state = .settling ∧ (t.lane l).vlo = false ∧ (t.lane l).vhi = false) ∧
          ((s.lane l).state ≠ .starting → (t.lane l).meter.net - c.effPreset ≤ (s.lane l).cfg.overrunLimit →
            (t.lane l).ctx.bind (fun d => d.endReason) = some .faultReverse)) ∧
        ((s.lane l).state = .delivering →
          ((s.lane l).meter.revGiven = true ∨ (t.lane l).meter.revSum ≤ (s.lane l).cfg.reverseLimit) →
          (c.effPreset ≤ (t.lane l).meter.net →
            (t.lane l).state = .settling ∧ (t.lane l).vlo = false ∧ (t.lane l).vhi = false ∧
            (t.lane l).settleTimer = some (s.lane l).cfg.settleTime ∧
            (((t.lane l).meter.net - c.effPreset ≤ (s.lane l).cfg.overrunLimit ∨ c.overrunTaken = true) →
              (t.lane l).ctx.bind (fun d => d.endReason) = some .preset) ∧
            ((s.lane l).cfg.overrunLimit < (t.lane l).meter.net - c.effPreset → c.overrunTaken = false →
              (t.lane l).held.overrun = true ∧ (t.lane l).ctx.bind (fun d => d.endReason) = some .faultOverrun ∧
              ∀ i, holdsKind (t.port i).pendingSet .laneFault = true)) ∧
          ∀ st, (s.lane l).stage = some st → (t.lane l).meter.net < c.effPreset →
            (t.source (.hose l)).isTripped = (s.source (.hose l)).isTripped →
            (t.lane l).state = .delivering ∧ (t.lane l).vlo = true ∧
            (t.lane l).vhi = decide ((t.lane l).stage = some .high) ∧
            (t.lane l).stage =
              (if st = .lowEnd ∨
                  ((st = .high ∨ (s.lane l).cfg.slowStart ≤ (t.lane l).meter.net) ∧
                    c.effPreset - (s.lane l).cfg.slowdown ≤ (t.lane l).meter.net) ∨
                  (st = .lowStart ∧ (s.lane l).cfg.slowStart ≤ (t.lane l).meter.net ∧
                    c.effPreset < (s.lane l).cfg.slowStart + (s.lane l).cfg.slowdown) then some .lowEnd
              else if st = .high ∨ (s.lane l).cfg.slowStart ≤ (t.lane l).meter.net then some .high
              else some .lowStart))

/-- R10, R12, R13, R19 to R21, R62: a creep-path sample feeds its clamped edges, corrected in the band of its rate, to the creep
accumulator, and what that adds to the creep total and the totalizer; it sets the creep condition past the limit, and reaches no
transaction figure of R16 and no book. R146, R151: the lane stays as it was but for its meter, unless the sample trips a CLEAR HOSE
source whose map names it while it is AUTHORIZED; where HOSE Ln does not trip, no other lane and no block changes but that source. -/
def Obligations.CreepSampleReachesNoBook : Prop :=
  ∀ (s : State) (l : Lane), s.device.phase = .running → (s.lane l).state.metered = false →
    ∃ t, exec (.meterSample l) s = .next t ∧ (t.lane l).meter.gross = (s.lane l).meter.gross ∧
      (t.lane l).meter.net = (s.lane l).meter.net ∧ (t.lane l).meter.accA = (s.lane l).meter.accA ∧
      (t.lane l).meter.accN = (s.lane l).meter.accN ∧ (t.lane l).meter.revSum = (s.lane l).meter.revSum ∧
      (t.lane l).meter.revGiven = (s.lane l).meter.revGiven ∧
      (t.lane l).meter.txnMiscounts = (s.lane l).meter.txnMiscounts ∧ (t.lane l).meter.lastT10 = (s.lane l).meter.lastT10 ∧
      (t.lane l).meter.flags = (s.lane l).meter.flags ∧
      ((t.source (.hose l)).isTripped = (s.source (.hose l)).isTripped ∨ (s.lane l).state ≠ .authorized ∨
          inSet (s.source (.hose l)).lanes l = false →
        t.lane l = { s.lane l with meter := (t.lane l).meter }) ∧
      ((t.source (.hose l)).isTripped = (s.source (.hose l)).isTripped →
        s.otherLanes t l ∧ (∀ j, j ≠ .hose l → t.source j = s.source j) ∧
        t = { s with lanes := t.lanes, spill := { s.spill with sources := t.spill.sources } }) ∧
      (∀ k, (t.tank k).book = (s.tank k).book ∧ (t.tank k).shortage = (s.tank k).shortage ∧
        (t.tank k).drawnSince = (s.tank k).drawnSince) ∧
      (t.lane l).meter.creepAcc =
        max (-9223372036854775807)
          (min 9223372036854775807
            ((s.lane l).meter.creepAcc +
              max (-32767) (min 32767 (s.lane l).meter.sampleAcc) *
                (1000000 + correctionOf (s.lane l).meter.params (t.lane l).meter.band))) ∧
      (t.lane l).meter.band = bandOf (s.lane l).meter.params (t.lane l).meter.rate ∧ (t.lane l).meter.sampleAcc = 0 ∧
      (t.lane l).meter.creepGross = (t.lane l).meter.creepAcc.tdiv (10 * (s.lane l).meter.params.kx) ∧
      ((t.lane l).meter.totalizer : Int) =
        ((s.lane l).meter.totalizer + ((t.lane l).meter.creepGross - (s.lane l).meter.creepGross)) % 100000000000 ∧
      (t.lane l).meter.creepTotal =
        max (-2000000000)
          (min 2000000000
            ((s.lane l).meter.creepTotal + ((t.lane l).meter.creepGross - (s.lane l).meter.creepGross))) ∧
      ((s.lane l).cfg.creepLimit < (t.lane l).meter.creepGross.natAbs → (t.lane l).meter.creepCond = true)

/-! ## Lanes and pumps (R28 to R51, R68) -/

/-- R30, R35, R36, R8: two asserted HOOK samples on an AUTHORIZED lane take it to STARTING, or with the pump RUNNING to
DELIVERING in LOW_START with VLO alone energized; the consecutive-miscount count is 0. R68: the first demand on a STOPPED pump takes
the pump to STARTING with 10 s, and where PUMP_RDY is asserted to RUNNING, the lane then DELIVERING at once. R38: HOOK released in
STARTING closes the transaction with HOOK and no valve has opened: its record is filed with every field of R132, its counters rise as
R51 says, and LANE_END, COUNTER and RECORDS are posted as R46, R51 and R136 say. R43: HOOK released in DELIVERING closes the valves and the lane
settles with HOOK. R30: a sample that agrees with no sample before it changes no level. -/
def Obligations.HookStartsAndEndsALane : Prop :=
  ∀ (s : State) (l : Lane), s.device.phase = .running →
    ((s.lane l).state = .authorized → (s.lane l).hook = ⟨false, some true, true⟩ →
      (s.tank (s.lane l).cfg.tank).pump ≠ .stopped →
      ∃ t, exec (.hookSample l true) s = .next t ∧ t = s.setLane l (t.lane l) ∧ (t.lane l).hook.level = true ∧
        (t.lane l).meter.consec = 0 ∧
        ((s.tank (s.lane l).cfg.tank).pump = .starting →
          (t.lane l).state = .starting ∧ (t.lane l).authTimer = (s.lane l).authTimer) ∧
        ((s.tank (s.lane l).cfg.tank).pump = .running →
          (t.lane l).state = .delivering ∧ (t.lane l).stage = some .lowStart ∧ (t.lane l).vlo = true ∧
          (t.lane l).vhi = false ∧ (t.lane l).authTimer = none ∧
          (t.lane l).noFlowTimer = some (s.lane l).cfg.noFlowTime)) ∧
    ((s.lane l).state = .authorized → (s.lane l).hook = ⟨false, some true, true⟩ →
      (s.tank (s.lane l).cfg.tank).pump = .stopped →
      (∀ j, (s.lane j).cfg.tank = (s.lane l).cfg.tank → (s.lane j).state ≠ .starting) →
      ∃ t, exec (.hookSample l true) s = .next t ∧ s.otherLanes t l ∧ s.otherTanks t (s.lane l).cfg.tank ∧
        t = { s with lanes := t.lanes, tanks := t.tanks } ∧ (t.lane l).hook.level = true ∧ (t.lane l).meter.consec = 0 ∧
        ((s.tank (s.lane l).cfg.tank).rdy.level = false →
          t.tank (s.lane l).cfg.tank =
            { s.tank (s.lane l).cfg.tank with pump := .starting, pumpRun := true, pumpTimer := some 10 } ∧
          (t.lane l).state = .starting ∧ (t.lane l).authTimer = (s.lane l).authTimer ∧
          (t.lane l).ctx = (s.lane l).ctx) ∧
        ((s.tank (s.lane l).cfg.tank).rdy.level = true →
          t.tank (s.lane l).cfg.tank =
            { s.tank (s.lane l).cfg.tank with pump := .running, pumpRun := true, pumpTimer := none } ∧
          (t.lane l).state = .delivering ∧ (t.lane l).stage = some .lowStart ∧ (t.lane l).vlo = true ∧
          (t.lane l).vhi = false ∧ (t.lane l).authTimer = none ∧
          (t.lane l).noFlowTimer = some (s.lane l).cfg.noFlowTime)) ∧
    (∀ c, (s.lane l).state = .starting → (s.lane l).ctx = some c → (s.lane l).hook = ⟨true, some false, true⟩ →
      ∃ t rec, exec (.hookSample l false) s = .next t ∧ s.otherLanes t l ∧ (t.lane l).hook.level = false ∧
        (t.lane l).state.isOpen = false ∧ (t.lane l).ctx = none ∧ (t.lane l).vlo = false ∧ (t.lane l).vhi = false ∧
        s.filesRecord t l c rec ∧ rec.tells s l c .hook) ∧
    (∀ c, (s.lane l).state = .delivering → (s.lane l).ctx = some c → (s.lane l).hook = ⟨true, some false, true⟩ →
      ∃ t, exec (.hookSample l false) s = .next t ∧ s.otherLanes t l ∧ (t.lane l).hook.level = false ∧
        (t.lane l).state = .settling ∧ (t.lane l).vlo = false ∧ (t.lane l).vhi = false ∧ (t.lane l).stage = none ∧
        (t.lane l).settleTimer = some (s.lane l).cfg.settleTime ∧
        (t.lane l).settleCap = some (3 * (s.lane l).cfg.settleTime) ∧
        (t.lane l).ctx = some { c with endReason := some .hook }) ∧
    (∀ level, (s.lane l).hook.last ≠ some level →
      exec (.hookSample l level) s =
        .next (s.setLane l { s.lane l with hook := { (s.lane l).hook with last := some level } }))

/-- R36, R68: a pump in STARTING whose ready input is asserted is RUNNING, and every lane of the tank in STARTING delivers in
LOW_START; a RUNNING pump whose ready input falls is STARTING again with 10 s, its lanes as they were; a STOPPED pump keeps
its state. -/
def Obligations.PumpReadyMovesPump : Prop :=
  ∀ (s : State) (t : Tank), s.device.phase = .running →
    ((s.tank t).pump = .starting → (s.tank t).rdy.level = false → (s.tank t).rdy.last = some true →
      ∃ u, exec (.pumpRdySample t true) s = .next u ∧ s.otherTanks u t ∧ (u.tank t).pump = .running ∧
        (u.tank t).pumpRun = true ∧ (u.tank t).pumpTimer = none ∧ (u.tank t).rdy.level = true ∧
        ∀ l, ((s.lane l).cfg.tank = t ∧ (s.lane l).state = .starting →
            (u.lane l).state = .delivering ∧ (u.lane l).stage = some .lowStart ∧ (u.lane l).vlo = true ∧
            (u.lane l).vhi = false ∧ (u.lane l).noFlowTimer = some (s.lane l).cfg.noFlowTime) ∧
          (¬((s.lane l).cfg.tank = t ∧ (s.lane l).state = .starting) → u.lane l = s.lane l)) ∧
    ((s.tank t).pump = .running → (s.tank t).rdy.level = true → (s.tank t).rdy.last = some false →
      ∃ u, exec (.pumpRdySample t false) s = .next u ∧ u = s.setTank t (u.tank t) ∧ (u.tank t).pump = .starting ∧
        (u.tank t).pumpRun = true ∧ (u.tank t).pumpTimer = some 10 ∧ (u.tank t).rdy.level = false) ∧
    ((s.tank t).pump = .stopped → ∀ level,
      ∃ u, exec (.pumpRdySample t level) s = .next u ∧ u = s.setTank t { s.tank t with rdy := (u.tank t).rdy })

/-- R38, R43, R68, R191: the pump timer's expiry in STARTING, its time run out, leaves the pump STOPPED and no lane of the tank
STARTING or DELIVERING; every lane of another tank is as it was. In another pump state there is no timer and nothing happens, nor
does it while seconds are left (the model's count of them: log 3). -/
def Obligations.PumpTimeoutEndsItsLanes : Prop :=
  ∀ (s : State) (t : Tank), s.device.phase = .running →
    ((s.tank t).pump = .starting → (s.tank t).pumpTimer = some 0 →
      ∃ u, exec (.pumpTimerExpiry t) s = .next u ∧ (u.tank t).pump = .stopped ∧ (u.tank t).pumpRun = false ∧
        (u.tank t).pumpTimer = none ∧
        (∀ l, (s.lane l).cfg.tank = t → (u.lane l).state ≠ .starting ∧ (u.lane l).state ≠ .delivering) ∧
        (∀ l c, (s.lane l).cfg.tank = t → (s.lane l).state = .delivering → (s.lane l).ctx = some c →
          (u.lane l).state = .settling ∧ (u.lane l).vlo = false ∧ (u.lane l).ctx = some { c with endReason := some .pumpLost }) ∧
        ∀ l, (s.lane l).cfg.tank ≠ t → u.lane l = s.lane l) ∧
    ((s.tank t).pump ≠ .starting ∨ (s.tank t).pumpTimer ≠ some 0 → exec (.pumpTimerExpiry t) s = .next s)

/-- R37, R38, R42, R45 to R47, R51, R126, R130 to R132, R134, R136, R68: the expiries of a lane's timers. In AUTHORIZED the transaction closes
with EXPIRED and in SETTLING with the reason it holds: one record is filed with the next number and every field of R132 and flag of
R134, the reservation and the allocation are released, the context is cleared, the event counters rise, and LANE_END is posted, COUNTER
where a counter comes to 15 and RECORDS where the filing reaches the threshold. R120, R121: the order it claimed leaves
the list where N is above 0 or its deadline is past, and is PENDING again otherwise, and ORDER is posted. R103 to R107: its machine
is booked with hours, last fill time, fill count and totals, the burn rate of a qualifying FUEL close, and the service items, and
ACCOUNT is posted where the burn is above the ceiling or an item becomes due. In DELIVERING the no-flow expiry settles the lane with
FULL when N is above 0 and NO_FLOW otherwise. R191: an expiry acts when its timer has run out; while seconds are left nothing
happens (the model's count of them: log 3). -/
def Obligations.LaneTimersCloseOrSettle : Prop :=
  ∀ (s : State) (l : Lane) (c : Context), s.device.phase = .running → (s.lane l).ctx = some c →
    (∀ cmd r, (cmd = .authorizationTimerExpiry l ∧ (s.lane l).state = .authorized ∧ (s.lane l).authTimer = some 0 ∧
          r = .expired) ∨
        (cmd = .settlePeriodEnd l ∧ (s.lane l).state = .settling ∧
          ((s.lane l).settleTimer = some 0 ∨ (s.lane l).settleCap = some 0) ∧ c.endReason = some r) →
      ∃ t rec, exec cmd s = .next t ∧ s.otherLanes t l ∧ s.filesRecord t l c rec ∧ rec.tells s l c r ∧
        (∀ d ∈ (t.tank (s.lane l).cfg.tank).draws, d.lane ≠ l) ∧
        (t.tank (s.lane l).cfg.tank).book = (s.tank (s.lane l).cfg.tank).book ∧
        (t.lane l).vlo = false ∧ (t.lane l).vhi = false ∧
        (t.lane l).state = (if (s.lane l).pendingDisable || c.faultTaken then .disabled else .idle) ∧
        (c.order = 0 → t.orders = s.orders) ∧
        (c.order ≠ 0 → (∀ i, holdsKind (t.port i).pendingSet .order = true) ∧
          (0 < (s.lane l).meter.net →
            t.orders = { s.orders with orders := s.orders.orders.filter (fun p => decide (p.number ≠ c.order)) }) ∧
          (∀ o, (s.lane l).meter.net ≤ 0 → findOrder s.orders.orders c.order = some o →
            t.orders =
              { s.orders with
                orders :=
                  if o.expiry ≠ 0 ∧ o.placedAt + o.expiry ≤ s.time.uptime then
                    s.orders.orders.filter (fun p => decide (p.number ≠ c.order))
                  else s.orders.orders.map (fun p => if p.number = c.order then { p with claimedBy := none } else p) })) ∧
        (∀ i a, findAccount s.accounts.slots c.tag = some (i, a) →
          ∃ b, findAccount t.accounts.slots c.tag = some (i, b) ∧ b.fills = min 65535 (a.fills + 1) ∧
            b.hoursLast =
              (match c.hours with
              | none => a.hoursLast
              | some h => some (max (a.hoursLast.getD 0) h)) ∧
            b.lastFill = (if s.time.isSet then some s.time.clock else a.lastFill) ∧
            b.fuelTotal =
              (if (s.tank (s.lane l).cfg.tank).cfg.cls = .fuel ∧ 0 < (s.lane l).meter.net then
                min 99999999999 (a.fuelTotal + (s.lane l).meter.net.toNat)
              else a.fuelTotal) ∧
            b.lubeTotal =
              (if (s.tank (s.lane l).cfg.tank).cfg.cls ≠ .fuel ∧ 0 < (s.lane l).meter.net then
                min 99999999999 (a.lubeTotal + (s.lane l).meter.net.toNat)
              else a.lubeTotal) ∧
            (∀ h p, (s.tank (s.lane l).cfg.tank).cfg.cls = .fuel → c.hours = some h → a.hoursLast = some p → p + 10 ≤ h →
              0 < (s.lane l).meter.net →
              b.burnRate = some ((s.lane l).meter.net.toNat * 10 / (h - p)) ∧
              (b.burnHigh = true ↔
                (s.accounts.classes.get a.cls).ceiling < (s.lane l).meter.net.toNat * 10 / (h - p)) ∧
              (b.burnHigh = true → ∀ j, holdsKind (t.port j).pendingSet .account = true)) ∧
            (((s.tank (s.lane l).cfg.tank).cfg.cls ≠ .fuel ∨ c.hours = none ∨ a.hoursLast = none ∨
                (s.lane l).meter.net ≤ 0 ∨ ∃ h p, c.hours = some h ∧ a.hoursLast = some p ∧ h < p + 10) →
              b.burnRate = a.burnRate ∧ b.burnHigh = a.burnHigh) ∧
            (c.hours = none → b.items = a.items ∧ rec.flags.service = false) ∧
            (∀ h, c.hours = some h → b.items.length = a.items.length ∧
              (rec.flags.service = true ↔
                ∃ x ∈ a.items, x.tank = (s.lane l).cfg.tank ∧ (x.minimum : Int) ≤ (s.lane l).meter.net) ∧
              ∀ x ∈ a.items,
                (x.tank = (s.lane l).cfg.tank → (x.minimum : Int) ≤ (s.lane l).meter.net → 0 < x.interval →
                  { x with base := some h, due := false } ∈ b.items) ∧
                (¬(x.tank = (s.lane l).cfg.tank ∧ (x.minimum : Int) ≤ (s.lane l).meter.net) →
                  (x.base = none → 0 < x.interval → { x with base := some h } ∈ b.items) ∧
                  ∀ base, x.base = some base →
                    { x with due := x.due || decide (base + x.interval ≤ h) } ∈ b.items ∧
                    (x.due = false → base + x.interval ≤ h → ∀ j, holdsKind (t.port j).pendingSet .account = true))))) ∧
    ((s.lane l).authTimer ≠ some 0 → exec (.authorizationTimerExpiry l) s = .next s) ∧
    ((s.lane l).settleTimer ≠ some 0 → (s.lane l).settleCap ≠ some 0 → exec (.settlePeriodEnd l) s = .next s) ∧
    ((s.lane l).noFlowTimer ≠ some 0 → exec (.noFlowTimerExpiry l) s = .next s) ∧
    ((s.lane l).state = .delivering → (s.lane l).noFlowTimer = some 0 →
      ∃ t, exec (.noFlowTimerExpiry l) s = .next t ∧ s.otherLanes t l ∧ (t.lane l).state = .settling ∧
        (t.lane l).vlo = false ∧ (t.lane l).vhi = false ∧
        (t.lane l).ctx =
          some { c with endReason := some (if 0 < (s.lane l).meter.net then .full else .noFlow) } ∧
        t.records = s.records ∧ t.accounts = s.accounts)

/-! ## Gauges, sources and trips (R57 to R75, R87, R142 to R158) -/

/-- R57, R58, R60, R73: a gauge sample of a tank with a gauge fitted polls that tank on the gauge bus. A valid one replaces the held
level and temperature, makes the gauge VALID, computes the gauged net under the present table and α, and clears the
drawn-since-sample count; it leaves the other tanks' gauges and every lane's meter as they were. R74, R75: where no discharge is in
progress it tests the loss against the window, hands the condition, and restarts a window that is absent or as old as its length; with
the loss limit at 0 the window is discarded. An invalid one keeps the held values and counts. A tank with no gauge fitted has no gauge
sample. That the bus keeps the poll afterwards is the model's choice (log 33). -/
def Obligations.GaugeSampleHoldsReading : Prop :=
  ∀ (s : State) (k : Tank) (reply : List Byte), s.device.phase = .running →
    ((s.tank k).cfg.gaugeFitted = true → ∀ g, gaugeReading reply = some g →
      ∃ t, exec (.gaugeSample k reply) s = .next t ∧ (t.tank k).level = some g.level ∧ (t.tank k).t10 = some g.t10 ∧
        (t.tank k).invalid = 0 ∧ (t.tank k).gaugeValid = true ∧ (t.tank k).drawnSince = 0 ∧
        (t.tank k).gaugedNet =
          some (strapVolume (s.tank k).points g.level * (vcf (s.tank k).alpha g.t10).toNat / 1000000) ∧
        (t.tank k).rawZone = zoneOf (s.tank k).cfg g.level ∧
        t.bus.sel = BitVec.ofNat 3 k.val ∧ t.bus.poll = some (BitVec.ofNat 8 k.val) ∧
        ((s.tank k).cfg.lossLimit = 0 → (t.tank k).window = none) ∧
        (∀ net, s.discharging k = false → (s.tank k).cfg.lossLimit ≠ 0 → (t.tank k).gaugedNet = some net →
          ((s.tank k).window = none →
            (t.tank k).window = some { start := s.time.uptime, g0 := net, b0 := (s.tank k).book } ∧
            (t.tank k).lossHanded = false ∧ (t.tank k).lossCond = false) ∧
          ∀ w, (s.tank k).window = some w →
            (t.tank k).lossHanded =
              decide (((s.tank k).cfg.lossLimit : Int) < ((w.g0 : Int) - net) - ((w.b0 : Int) - (s.tank k).book)) ∧
            (s.time.uptime < w.start + (s.tank k).cfg.lossWindow →
              (t.tank k).window = some w ∧ (t.tank k).lossCond = (t.tank k).lossHanded) ∧
            (w.start + (s.tank k).cfg.lossWindow ≤ s.time.uptime →
              (t.tank k).window = some { start := s.time.uptime, g0 := net, b0 := (s.tank k).book } ∧
              (t.tank k).lossCond = false)) ∧
        (∀ j, j ≠ k → (t.tank j).level = (s.tank j).level ∧ (t.tank j).gaugedNet = (s.tank j).gaugedNet ∧
          (t.tank j).book = (s.tank j).book) ∧
        ∀ l, (t.lane l).meter = (s.lane l).meter) ∧
    ((s.tank k).cfg.gaugeFitted = true → gaugeReading reply = none →
      ∃ t, exec (.gaugeSample k reply) s = .next t ∧ (t.tank k).level = (s.tank k).level ∧
        t.bus.sel = BitVec.ofNat 3 k.val ∧ t.bus.poll = some (BitVec.ofNat 8 k.val) ∧
        (t.tank k).t10 = (s.tank k).t10 ∧ (t.tank k).invalid = min 10 ((s.tank k).invalid + 1) ∧
        (t.tank k).zone = (s.tank k).zone ∧ (t.tank k).runs = (s.tank k).runs ∧ (t.tank k).book = (s.tank k).book ∧
        (t.tank k).drawnSince = (s.tank k).drawnSince) ∧
    ((s.tank k).cfg.gaugeFitted = false → exec (.gaugeSample k reply) s = .next s)

/-- R70: a valid gauge sample gives the raw zone and the four runs. R71: the debounced zone goes back toward NORMAL at once, and takes a
more severe zone on the raw zone's side only where the run of that zone is at the debounce count. R73: a change of the debounced zone
sets the flags of the zones it reaches, and TANK_ALARM is posted where that set a clear one. R69, R72: the sample at which the zone
enters LOW_LOW leaves the tank's pump STOPPED and ends its lanes that are AUTHORIZED, STARTING or DELIVERING with TANK_LOW. That
these ends, and their records, stand before a trip of the tank's sources in the same sample is the model's reading (log 9), and so is
the lane order of the records (log 10). -/
def Obligations.LowLowStopsTheTank : Prop :=
  ∀ (s : State) (k : Tank) (reply : List Byte) (g : GaugeReading) (z : Zone) (cfg : TankConfig), s.device.phase = .running →
    (s.tank k).cfg.gaugeFitted = true → gaugeReading reply = some g → z = (s.tank k).zone → cfg = (s.tank k).cfg →
    ∃ t runs, exec (.gaugeSample k reply) s = .next t ∧ runs = (t.tank k).runs ∧
      runs.lowLow = (if g.level ≤ cfg.lowLow then min 255 ((s.tank k).runs.lowLow + 1) else 0) ∧
      runs.low = (if g.level ≤ cfg.low then min 255 ((s.tank k).runs.low + 1) else 0) ∧
      runs.high = (if cfg.high ≤ g.level then min 255 ((s.tank k).runs.high + 1) else 0) ∧
      runs.highHigh = (if cfg.highHigh ≤ g.level then min 255 ((s.tank k).runs.highHigh + 1) else 0) ∧
      (t.tank k).rawZone =
        (if g.level ≤ cfg.lowLow then .lowLow else if g.level ≤ cfg.low then .low
        else if cfg.highHigh ≤ g.level then .highHigh else if cfg.high ≤ g.level then .high else .normal) ∧
      ((t.tank k).rawZone = .normal → (t.tank k).zone = .normal) ∧
      ((t.tank k).rawZone = .low →
        (t.tank k).zone = (if z = .lowLow ∨ z = .low ∨ cfg.zoneDebounce ≤ runs.low then .low else .normal)) ∧
      ((t.tank k).rawZone = .lowLow →
        (t.tank k).zone =
          (if z = .lowLow ∨ cfg.zoneDebounce ≤ runs.lowLow then .lowLow
          else if z = .low ∨ cfg.zoneDebounce ≤ runs.low then .low else .normal)) ∧
      ((t.tank k).rawZone = .high →
        (t.tank k).zone = (if z = .highHigh ∨ z = .high ∨ cfg.zoneDebounce ≤ runs.high then .high else .normal)) ∧
      ((t.tank k).rawZone = .highHigh →
        (t.tank k).zone =
          (if z = .highHigh ∨ cfg.zoneDebounce ≤ runs.highHigh then .highHigh
          else if z = .high ∨ cfg.zoneDebounce ≤ runs.high then .high else .normal)) ∧
      ((t.tank k).zone = z → (t.tank k).alarms = (s.tank k).alarms) ∧
      ((t.tank k).zone ≠ z →
        (t.tank k).alarms =
          { lowLow := (s.tank k).alarms.lowLow || decide ((t.tank k).zone = .lowLow)
            low := (s.tank k).alarms.low || decide ((t.tank k).zone = .lowLow) || decide ((t.tank k).zone = .low)
            high := (s.tank k).alarms.high || decide ((t.tank k).zone = .high) || decide ((t.tank k).zone = .highHigh)
            highHigh := (s.tank k).alarms.highHigh || decide ((t.tank k).zone = .highHigh) }) ∧
      (∀ i, holdsKind (t.port i).pendingSet .tankAlarm =
        (holdsKind (s.port i).pendingSet .tankAlarm || decide ((t.tank k).alarms ≠ (s.tank k).alarms))) ∧
      (z ≠ .lowLow → (t.tank k).zone = .lowLow →
        (t.tank k).pump = .stopped ∧ (t.tank k).pumpRun = false ∧
        (∀ l, (s.lane l).cfg.tank = k → (t.lane l).state.endedByTrip = false) ∧
        ∃ xs, s.records.completed ++ xs <+: t.records.completed ∧
          s.endsLanes t (fun l => decide ((s.lane l).cfg.tank = k)) .tankLow xs)

/-- R58: the invalid sample that brings the count to 10 makes the gauge STALE. R87, R89: the tenth invalid sample an entry
waits abandons it with STALE_END, its figures absent and the book unchanged. That GAUGE_STALE and STALE_END stand for those
samples is the model's reading (log 4). -/
def Obligations.TenthInvalidSample : Prop :=
  ∀ (s : State) (k : Tank), s.device.phase = .running → (s.tank k).cfg.gaugeFitted = true →
    ((s.tank k).invalid < 10 →
      ∃ t, exec (.gaugeStale k) s = .next t ∧ (t.tank k).gaugeValid = false ∧ (t.tank k).invalid = 10 ∧
        (t.tank k).level = (s.tank k).level ∧ (t.tank k).zone = (s.tank k).zone ∧ (t.tank k).book = (s.tank k).book) ∧
    (∀ e ∈ s.deliveries.entries, e.tank = k → e.state = .settling → e.waited.isSome = true →
      ∃ t, exec (.staleEnd k) s = .next t ∧ (t.tank k).book = (s.tank k).book ∧
        (∀ i, holdsKind (t.port i).pendingSet .delivery = true) ∧
        ∃ d ∈ t.deliveries.entries, d.number = e.number ∧ d.tank = k ∧ d.state = .abandoned ∧ d.flags.staleEnd = true ∧
          d.closing = e.closing ∧ d.received = e.received ∧ d.completeTime.isSome = true)

/-- R83, R87, R88: the first valid sample while an entry waits reconciles it: received is closing less opening plus dispensed
during, the state by its sign and the tolerance, the book raised by a received that is not negative. Every other entry that is not
FILLING stays as it was. R74, R75: the loss watch runs again, and its window restarts from the new book. -/
def Obligations.ClosingGaugeReconciles : Prop :=
  ∀ (s : State) (k : Tank) (reply : List Byte) (g : GaugeReading) (e : DeliveryEntry) (c : Confirmation),
    s.device.phase = .running → (s.tank k).cfg.gaugeFitted = true → gaugeReading reply = some g →
    e ∈ s.deliveries.entries → e.tank = k → e.state = .settling → e.waited.isSome = true → e.conf = some c →
    (∀ x ∈ s.deliveries.entries, x.tank = k → x.state.discharging = true → x = e) →
    ∃ t d closing, exec (.gaugeSample k reply) s = .next t ∧ d ∈ t.deliveries.entries ∧ d.number = e.number ∧ d.tank = k ∧
      t.deliveries.entries.map (fun x => x.number) = s.deliveries.entries.map (fun x => x.number) ∧
      (∀ x ∈ s.deliveries.entries, x ≠ e → x.state ≠ .filling → x ∈ t.deliveries.entries) ∧
      ((s.tank k).cfg.lossLimit ≠ 0 → (s.tank k).window = none →
        (t.tank k).window = some { start := s.time.uptime, g0 := closing, b0 := (t.tank k).book } ∧
        (t.tank k).lossHanded = false) ∧
      (t.tank k).gaugedNet = some closing ∧ d.closing = some closing ∧ d.completeTime = some s.stamp.1 ∧
      d.received = some (max (-2000000000) (min 2000000000 ((closing : Int) - c.opening + c.dispensed))) ∧
      (∀ r, d.received = some r →
        d.variance = some (max (-2000000000) (min 2000000000 (r - e.docket))) ∧
        (r < 0 → d.state = .disputed ∧ d.flags.negative = true ∧ (t.tank k).book = (s.tank k).book) ∧
        (0 ≤ r → (t.tank k).book = min 2000000000 ((s.tank k).book + r.toNat)) ∧
        (∀ v, 0 ≤ r → d.variance = some v →
          (d.state = .complete ↔ v.natAbs ≤ max c.fixedTol (e.docket * c.propTol / 1000000)) ∧
          (d.state = .disputed ↔ max c.fixedTol (e.docket * c.propTol / 1000000) < v.natAbs))) ∧
      (∀ i, holdsKind (t.port i).pendingSet .delivery = true)

/-- R144, R145, R149: a discrete reading stores each sump's and the loop's condition and counts its run where the source is
evaluated; at a blanked sample the count falls. R22, R144, R146: a meter sample gives HOSE Ln the test of its rate against the hose
limit and, where evaluated, the creep condition, whose first presence is a trip of its own. R72, R75: a gauge sample gives OVERFILL Tn
the debounced zone's HIGH_HIGH and LOSS Tn the loss condition handed. The timer of a tank with no gauge, its second run out, gives
OVERFILL and LOSS an absent condition, which trips nothing, and starts again; R191: while its second runs nothing happens (the model's
count of it: log 3). -/
def Obligations.SourceSamplesCountRuns : Prop :=
  ∀ (s : State), s.device.phase = .running →
    (∀ (low : BitVec 4) (open_ : Bool),
      ∃ t, exec (.discreteInputSample low open_) s = .next t ∧
        ∀ i cond, (∃ n : Fin 4, i = .sump n ∧ cond = low.getLsbD n.val) ∨ (i = .estop ∧ cond = open_) →
          (t.source i).lastCond = cond ∧
          ((s.source i).evaluates = true →
            (t.source i).run = (if cond then min 255 ((s.source i).run + 1) else 0) ∧
            (cond = false → (t.source i).isTripped = (s.source i).isTripped) ∧
            (cond = true → (s.source i).run < (s.source i).debounce → (s.source i).debounce ≤ (s.source i).run + 1 →
              (s.source i).run < 255 → (t.source i).isTripped = true)) ∧
          ((s.source i).evaluates = false →
            (t.source i).run = 0 ∧ (t.source i).blanking = (s.source i).blanking - 1 ∧
            (t.source i).isTripped = (s.source i).isTripped)) ∧
    (∀ l, ∃ t m x, exec (.meterSample l) s = .next t ∧ m = (t.lane l).meter ∧ x = s.source (.hose l) ∧
      (∀ j, j ≠ .hose l → t.source j = s.source j) ∧
      (t.source (.hose l)).lastCond = decide (x.hoseLimit < m.rate) ∧
      (x.evaluates = true →
        (t.source (.hose l)).run = (if x.hoseLimit < m.rate then min 255 (x.run + 1) else 0) ∧
        (t.source (.hose l)).creepTaken = m.creepCond ∧
        ((t.source (.hose l)).isTripped = true ↔
          x.isTripped = true ∨ (m.creepCond = true ∧ x.creepTaken = false) ∨
            (x.hoseLimit < m.rate ∧ x.run < x.debounce ∧ x.debounce ≤ min 255 (x.run + 1)))) ∧
      (x.evaluates = false →
        (t.source (.hose l)).run = 0 ∧ (t.source (.hose l)).blanking = x.blanking - 1 ∧
        (t.source (.hose l)).creepTaken = x.creepTaken ∧ (t.source (.hose l)).isTripped = x.isTripped)) ∧
    (∀ k reply, (s.tank k).cfg.gaugeFitted = true →
      ∃ t, exec (.gaugeSample k reply) s = .next t ∧
        (∀ j, j ≠ .overfill k → j ≠ .loss k → t.source j = s.source j) ∧
        ∀ i cond, (i = .overfill k ∧ cond = decide ((t.tank k).zone = .highHigh)) ∨
            (i = .loss k ∧ cond = (t.tank k).lossHanded) →
          (t.source i).lastCond = cond ∧
          ((s.source i).evaluates = true →
            (t.source i).run = (if cond then min 255 ((s.source i).run + 1) else 0) ∧
            ((t.source i).isTripped = true ↔
              (s.source i).isTripped = true ∨
                (cond = true ∧ (s.source i).run < (s.source i).debounce ∧
                  (s.source i).debounce ≤ min 255 ((s.source i).run + 1)))) ∧
          ((s.source i).evaluates = false →
            (t.source i).run = 0 ∧ (t.source i).blanking = (s.source i).blanking - 1 ∧
            (t.source i).isTripped = (s.source i).isTripped)) ∧
    (∀ k, (s.tank k).noGaugeTimer ≠ some 0 → exec (.noGaugeTankTimer k) s = .next s) ∧
    (∀ k, (s.tank k).noGaugeTimer = some 0 →
      ∃ t, exec (.noGaugeTankTimer k) s = .next t ∧ t = { s with spill := t.spill, tanks := t.tanks } ∧
        s.otherTanks t k ∧ t.tank k = { s.tank k with noGaugeTimer := some 1 } ∧
        (t.source (.overfill k)).run = 0 ∧ (t.source (.overfill k)).lastCond = false ∧ (t.source (.loss k)).run = 0 ∧
        (t.source (.loss k)).lastCond = false ∧ t.spill.trips = s.spill.trips ∧
        ∀ i, (t.source i).isTripped = (s.source i).isTripped)

/-- R38, R43, R86, R146 to R148, R150, R151, R155, R157: a rise of a CLEAR source's debounced condition trips it: the trip count rises, an
entry with the lanes ended and the inlets closed joins the list under the next number, an EMPTY buffer takes the snapshot and
starts its sample timer where it is to take samples, every mapped lane leaves AUTHORIZED, STARTING and DELIVERING with end reason SPILL,
every mapped inlet is released and the FILLING delivery there is SETTLING with INTERRUPTED (R86), and TRIP is posted. A rise of
a TRIPPED source raises the count and nothing else. That SOURCE_TRIP stands for the sample or the request at which the condition
rises is the model's reading (log 4), and so is the lane order of the records filed (log 10). -/
def Obligations.RiseTripsClearSource : Prop :=
  ∀ (s : State) (i : SourceId), s.device.phase = .running →
    (i = .manual ∨ ((s.source i).evaluates = true ∧ (s.source i).run < (s.source i).debounce)) →
    ((s.source i).isTripped = false →
      ∃ t e, exec (.sourceTrip i) s = .next t ∧ (t.source i).isTripped = true ∧
        (t.source i).tripCount = min 255 ((s.source i).tripCount + 1) ∧
        t.spill.trips = (if s.spill.trips.length < 16 then s.spill.trips else s.spill.trips.tail) ++ [e] ∧
        e.number = s.spill.nextTrip ∧ e.source = i ∧ e.time = s.stamp.1 ∧ e.clockUnset = s.stamp.2 ∧
        t.spill.nextTrip = min 4294967295 (s.spill.nextTrip + 1) ∧ (∀ j, j ≠ i → t.source j = s.source j) ∧
        (∀ l, inSet e.lanesEnded l = (inSet (s.source i).lanes l && (s.lane l).state.endedByTrip)) ∧
        (∀ k, inSet e.inletsClosed k = (inSet (s.source i).inlets k && (s.tank k).inlet)) ∧
        (e.captured = true ↔ s.spill.capture = .empty) ∧ 
        (s.spill.capture ≠ .empty →
          t.spill.capture = s.spill.capture ∧ t.spill.captureTimer = s.spill.captureTimer) ∧
        (s.spill.capture = .empty →
          ∃ c, c.tripNumber = s.spill.nextTrip ∧ c.m = s.spill.captureCount ∧ c.samples = [] ∧
            (∀ l, c.rates.get l = (s.lane l).meter.rate ∧ c.states.get l = (s.lane l).state) ∧
            (∀ k, c.levels.get k = (s.tank k).level) ∧
            (c.m = 0 → t.spill.capture = .full c) ∧
            (c.m ≠ 0 → t.spill.capture = .filling c ∧ t.spill.captureTimer = some 1)) ∧
        (∀ l, inSet (s.source i).lanes l = true → (t.lane l).state.endedByTrip = false) ∧
        (∀ l, inSet (s.source i).lanes l = false → t.lane l = s.lane l) ∧
        (∀ k, inSet (s.source i).inlets k = true → (t.tank k).inlet = false) ∧
        (∃ xs, t.records.completed = s.records.completed ++ xs ∧ s.endsLanes t (inSet (s.source i).lanes) .spill xs) ∧
        t.deliveries =
          { s.deliveries with
            entries := s.deliveries.entries.map (DeliveryEntry.interruptedAt (inSet (s.source i).inlets) s.stamp) } ∧
        ∀ j, holdsKind (t.port j).pendingSet .trip = true) ∧
    ((s.source i).isTripped = true →
      ∃ t, exec (.sourceTrip i) s = .next t ∧
        t = { s with spill := { s.spill with sources := t.spill.sources } } ∧ (∀ j, j ≠ i → t.source j = s.source j) ∧
        (t.source i).isTripped = true ∧ (t.source i).lanes = (s.source i).lanes ∧
        (t.source i).inlets = (s.source i).inlets ∧
        (t.source i).tripCount = min 255 ((s.source i).tripCount + 1))

/-- R157, R191: a capture in FILLING takes one post-trip sample, the tanks' levels and the sum of the lanes' rates, at each expiry of its
sample timer, which then starts again, and is
FULL at its M-th, the timer stopped; while the timer's second runs nothing happens (the model's count of it: log 3). R187: the expiry
of a running pulse releases the line; R190, R191: a whole second in RUNNING adds one to the uptime and to a set clock, each
saturating, and takes one from every running timer (log 3); in RESTORING only a set clock rises. That one command is the whole second
of both the clock and the uptime is the model's choice (log 28). -/
def Obligations.CapturePulseAndSecond : Prop :=
  ∀ (s : State),
    (s.device.phase = .running → s.spill.captureTimer ≠ some 0 → exec .captureSampleTimerExpiry s = .next s) ∧
    (∀ c, s.device.phase = .running → s.spill.capture = .filling c → s.spill.captureTimer = some 0 →
      ∃ t p, exec .captureSampleTimerExpiry s = .next t ∧ t = { s with spill := t.spill } ∧
        (∀ k, p.levels.get k = (s.tank k).level) ∧
        p.rateSum = (allEight.map (fun l => (s.lane l).meter.rate)).sum ∧
        t.spill = { s.spill with capture := t.spill.capture, captureTimer := t.spill.captureTimer } ∧
        (c.samples.length + 1 < c.m →
          t.spill.capture = .filling { c with samples := c.samples ++ [p] } ∧ t.spill.captureTimer = some 1) ∧
        (c.m ≤ c.samples.length + 1 →
          t.spill.capture = .full { c with samples := c.samples ++ [p] } ∧ t.spill.captureTimer = none)) ∧
    (∀ i w, s.device.phase = .running → (s.port i).pulse = some w →
      ∃ t, exec (.attentionPulseExpiry i) s = .next t ∧
        t = s.setPort i { s.port i with pulse := none, attn := false }) ∧
    (s.device.phase = .running →
      ∃ t, exec .wholeSecond s = .next t ∧ t.time.uptime = min 4294967295 (s.time.uptime + 1) ∧
        t.time.isSet = s.time.isSet ∧
        t.time.clock = (if s.time.isSet then min 4294967295 (s.time.clock + 1) else s.time.clock) ∧
        t = { s with time := t.time, lanes := t.lanes, tanks := t.tanks, deliveries := t.deliveries,
                     spill := { s.spill with captureTimer := s.spill.captureTimer.map (fun n => n - 1) } } ∧
        (∀ l, t.lane l =
          { s.lane l with
            authTimer := (s.lane l).authTimer.map (fun n => n - 1)
            noFlowTimer := (s.lane l).noFlowTimer.map (fun n => n - 1)
            settleTimer := (s.lane l).settleTimer.map (fun n => n - 1)
            settleCap := (s.lane l).settleCap.map (fun n => n - 1) }) ∧
        t.deliveries =
          { s.deliveries with
            entries := s.deliveries.entries.map (fun e => { e with timer := e.timer.map (fun n => n - 1) }) } ∧
        ∀ k, t.tank k =
          { s.tank k with
            pumpTimer := (s.tank k).pumpTimer.map (fun n => n - 1)
            noGaugeTimer := (s.tank k).noGaugeTimer.map (fun n => n - 1) }) ∧
    (s.device.phase = .restoring →
      ∃ t, exec .wholeSecond s = .next t ∧ t = { s with time := t.time } ∧ t.time.uptime = s.time.uptime ∧
        t.time.clock = (if s.time.isSet then min 4294967295 (s.time.clock + 1) else s.time.clock))

/-- R81, R87, R89, R117: an announcement that runs out is WITHDRAWN with EXPIRED; a settle timer that runs out leaves its
entry waiting with count 0; no other entry changes. R191: while seconds are left nothing happens (the model's count of them: log 3).
A PENDING order whose deadline the uptime has reached leaves the list and ORDER is posted; that an expiry command for a CLAIMED order or
one not yet due changes nothing is the model's reading (log 18). -/
def Obligations.DeliveryAndOrderDeadlines : Prop :=
  ∀ (s : State) (n : Nat), s.device.phase = .running →
    (∀ e ∈ s.deliveries.entries, e.number = n → (∀ x ∈ s.deliveries.entries, x.number = n → x = e) →
      e.state = .announced → e.timer = some 0 →
      ∃ t d, exec (.announcementTimerExpiry n) s = .next t ∧
        t.deliveries =
          { s.deliveries with entries := s.deliveries.entries.map (fun x => if x.number = n then d else x) } ∧
        d.state = .withdrawn ∧ d.flags.expired = true ∧ d.completeTime = some s.stamp.1 ∧ d.number = n ∧
        d.docket = e.docket ∧ (∀ i, holdsKind (t.port i).pendingSet .delivery = true) ∧
        t = { s with deliveries := t.deliveries, ports := t.ports }) ∧
    (∀ e ∈ s.deliveries.entries, e.number = n → (∀ x ∈ s.deliveries.entries, x.number = n → x = e) →
      e.state = .settling → e.timer = some 0 →
      ∃ t, exec (.deliverySettleTimerExpiry n) s = .next t ∧
        t =
          { s with
            deliveries :=
              { s.deliveries with
                entries :=
                  s.deliveries.entries.map
                    (fun x => if x.number = n then { e with timer := none, waited := some 0 } else x) } }) ∧
    ((∀ e ∈ s.deliveries.entries, e.number = n → e.timer ≠ some 0) →
      exec (.announcementTimerExpiry n) s = .next s ∧ exec (.deliverySettleTimerExpiry n) s = .next s) ∧
    (∀ o ∈ s.orders.orders, o.number = n → (∀ p ∈ s.orders.orders, p.number = n → p = o) →
      (o.claimedBy = none ∧ o.expiry ≠ 0 ∧ o.placedAt + o.expiry ≤ s.time.uptime →
        ∃ t, exec (.orderDeadline n) s = .next t ∧ t = { s with orders := t.orders, ports := t.ports } ∧
          t.orders.orders = s.orders.orders.filter (fun p => decide (p.number ≠ n)) ∧ t.orders.next = s.orders.next ∧
          ∀ i, holdsKind (t.port i).pendingSet .order = true) ∧
      ((o.claimedBy.isSome = true ∨ o.expiry = 0 ∨ s.time.uptime < o.placedAt + o.expiry) →
        exec (.orderDeadline n) s = .next s))

/-! ## Link ports (R174 to R191) -/

/-- R174 to R176, character by character: in HUNTING every character but 0xC3 is discarded, and one with its stop bit low; 0xC3 takes
the port to RECEIVING with the buffer holding it. In RECEIVING a character is appended; a length outside 2 to 242, a CRC mismatch in a
complete frame and a low stop bit each empty the buffer, raise the CRC counter by one and take the port to HUNTING, and the characters
after it are judged from there. A gap in RECEIVING raises the GAP counter, and in HUNTING does nothing. An overlapping frame raises the
OVERLAP counter once; the end of a reply releases DE and TX and leaves the port SHUNNING if it was overlapped and HUNTING if not;
SHUNNING ends in HUNTING. Only that port changes. That one command brings several characters is the model's choice (log 23); that a
crossing reply, overlapped or not, ends in HUNTING at the new rate is its reading (log 7). -/
def Obligations.FramingEventsMoveOnePort : Prop :=
  ∀ (s : State) (i : PortId), s.device.phase ≠ .held →
    (ReceiveLaw s → (s.port i).rx = .hunting →
      (∀ byte stopLow, (byte ≠ 0xC3#8 ∨ stopLow = true) → exec (.frameRejected i [byte] stopLow) s = .next s) ∧
      exec (.frameRejected i [0xC3#8] false) s =
        .next (s.setPort i { s.port i with rx := .receiving, rxBuffer := [0xC3#8] }) ∧
      exec (.frameGapTimeout i) s = .next s) ∧
    (ReceiveLaw s → (s.port i).rx = .receiving →
      (∀ byte stopLow, (stopLow = true ∨ charsVerdict ((s.port i).rxBuffer ++ [byte]) = .rejected) →
        exec (.frameRejected i [byte] stopLow) s =
          .next (s.setPort i
            { s.port i with rx := .hunting, rxBuffer := [], crcCount := min 255 ((s.port i).crcCount + 1) })) ∧
      (∀ byte, charsVerdict ((s.port i).rxBuffer ++ [byte]) = .incomplete →
        exec (.frameRejected i [byte] false) s =
          .next (s.setPort i { s.port i with rx := .receiving, rxBuffer := (s.port i).rxBuffer ++ [byte] })) ∧
      exec (.frameGapTimeout i) s =
        .next (s.setPort i
          { s.port i with rx := .hunting, rxBuffer := [], gapCount := min 255 ((s.port i).gapCount + 1) })) ∧
    (∀ len : Byte, (charsVerdict [0xC3#8, len] = .rejected ↔ len.toNat < 2 ∨ 242 < len.toNat)) ∧
    (∀ (len : Byte) (body : List Byte) (hi lo : Byte), 2 ≤ len.toNat → len.toNat ≤ 242 → body.length = len.toNat →
      (charsVerdict (0xC3#8 :: len :: (body ++ [hi, lo])) = .rejected ↔
        hi.toNat * 256 + lo.toNat ≠ (crc16 (len :: body)).toNat)) ∧
    (∀ first rest stopLow u, rest ≠ [] → (s.port i).ready = true →
      receiveChars (s.port i).heard (first :: rest) stopLow ≠ none → ReceiveLaw s →
      exec (.frameRejected i [first] false) s = .next u →
      exec (.frameRejected i (first :: rest) stopLow) s = exec (.frameRejected i rest stopLow) u) ∧
    ((s.port i).rx = .busy → (s.port i).overlapMark = false →
      ∃ t, exec (.overlappingFrame i) s = .next t ∧
        t = s.setPort i { s.port i with overlapMark := true, overlapCount := min 255 ((s.port i).overlapCount + 1) }) ∧
    ((s.port i).rx = .busy → (s.port i).overlapMark = true → exec (.overlappingFrame i) s = .next s) ∧
    ((s.port i).rx = .busy →
      ∃ t, exec (.replyComplete i) s = .next t ∧ s.sameButPorts t ∧ s.otherPorts t i ∧ (t.port i).de = false ∧
        (t.port i).tx = .high ∧ (t.port i).reply = none ∧ (t.port i).overlapCount = (s.port i).overlapCount ∧
        ((s.port i).crossing = false →
          (t.port i).rate = (s.port i).rate ∧ (t.port i).rx = (if (s.port i).overlapMark then .shunning else .hunting)) ∧
        ((s.port i).crossing = true → (t.port i).rx = .hunting ∧ (t.port i).rate = s.device.lineRate)) ∧
    ((s.port i).rx = .shunning →
      ∃ t, exec (.shunningIdleEnd i) s = .next t ∧ t = s.setPort i { s.port i with rx := .hunting, rxBuffer := [] })

/-- R171, R177, R178: a frame whose code or payload length the device does not know is answered BAD_REQUEST, in RESTORING as
in RUNNING, and nothing else changes. R194: every code from 0x80 on is such a code, and 0x28 needs a payload of 16 bytes. -/
def Obligations.UnknownRequestIsBadRequest : Prop :=
  (∀ (s : State) (f : Frame) (code : Byte) (payload : List Byte), s.device.phase ≠ .held → (s.port f.port).ready = true →
    decodeRequest 0#2 f code payload = none →
    ∃ t, exec (.unknownRequest f code payload) s = .next t ∧ t.answers f code .badRequest .nothing ∧ s.sameButPorts t ∧
      s.otherPorts t f.port) ∧
  (∀ (straps : BitVec 2) (f : Frame) (code : Byte) (payload : List Byte), code.msb = true →
    decodeRequest straps f code payload = none) ∧
  ∀ (straps : BitVec 2) (f : Frame) (payload : List Byte),
    (decodeRequest straps f 0x28#8 payload).isSome = true ↔ payload.length = 16

/-- R185 to R188, R195: READ_EVENTS reports the set, the mask and the mode, and empties the set in READ and PULSE and not in
WRITE; CLEAR_EVENTS removes the kinds named and reports what is left. R189: SET_ATTENTION replaces mask, mode and width, keeps
the set, and sets the line: by the set in READ and WRITE, released on entering PULSE, left to a running pulse when PULSE is
kept. A bit that stands for no kind, another mode or another width is RANGE. No other port and no block changes. -/
def Obligations.EventRequestsOnOnePort : Prop :=
  ∀ (s : State) (f : Frame),
    (s.takes f (.readEvents f) = true →
      ∃ t, exec (.readEvents f) s = .next t ∧ s.sameButPorts t ∧ s.otherPorts t f.port ∧
        t.answers f 0x01#8 .ok (.events (s.port f.port).pendingSet (s.port f.port).mask (s.port f.port).mode.code) ∧
        ((s.port f.port).mode = .write → (t.port f.port).pendingSet = (s.port f.port).pendingSet) ∧
        ((s.port f.port).mode ≠ .write → (t.port f.port).pendingSet = 0#16) ∧
        ((s.port f.port).mode = .read → (t.port f.port).attn = false) ∧
        ((s.port f.port).mode = .pulse → (t.port f.port).attn = (s.port f.port).attn ∧
          (t.port f.port).pulse = (s.port f.port).pulse)) ∧
    (∀ kinds, s.takes f (.clearEvents f kinds) = true →
      (kinds &&& 0xF800#16 = 0#16 →
        ∃ t, exec (.clearEvents f kinds) s = .next t ∧ s.sameButPorts t ∧ s.otherPorts t f.port ∧
          (t.port f.port).pendingSet = (s.port f.port).pendingSet &&& ~~~kinds ∧
          t.answers f 0x02#8 .ok (.eventsLeft (t.port f.port).pendingSet) ∧
          ((s.port f.port).mode ≠ .pulse →
            ((t.port f.port).attn = true ↔ (t.port f.port).pendingSet &&& (t.port f.port).mask ≠ 0#16))) ∧
      (kinds &&& 0xF800#16 ≠ 0#16 →
        ∃ t, exec (.clearEvents f kinds) s = .next t ∧ s.sameButPorts t ∧ s.otherPorts t f.port ∧
          t.answers f 0x02#8 .range .nothing ∧ (t.port f.port).pendingSet = (s.port f.port).pendingSet)) ∧
    ∀ (mask : BitVec 16) (mode width : Nat) (m : LatchMode),
      s.takes f (.setAttention f mask mode width) = true →
      (modeOf mode = some m → width ∈ [1, 2, 5, 10, 20, 50, 100, 200] → mask &&& 0xF800#16 = 0#16 →
        ∃ t, exec (.setAttention f mask mode width) s = .next t ∧ s.sameButPorts t ∧ s.otherPorts t f.port ∧
          t.answers f 0x03#8 .ok (.attention mask mode width) ∧ (t.port f.port).mask = mask ∧ (t.port f.port).mode = m ∧
          (t.port f.port).width = width ∧ (t.port f.port).pendingSet = (s.port f.port).pendingSet ∧
          (m ≠ .pulse →
            (t.port f.port).pulse = none ∧ ((t.port f.port).attn = true ↔ (s.port f.port).pendingSet &&& mask ≠ 0#16)) ∧
          (m = .pulse → (s.port f.port).mode ≠ .pulse → (t.port f.port).attn = false ∧ (t.port f.port).pulse = none) ∧
          (m = .pulse → (s.port f.port).mode = .pulse →
            (t.port f.port).attn = (s.port f.port).attn ∧ (t.port f.port).pulse = (s.port f.port).pulse)) ∧
      ((2 < mode ∨ width ∉ [1, 2, 5, 10, 20, 50, 100, 200] ∨ mask &&& 0xF800#16 ≠ 0#16) →
        ∃ t, exec (.setAttention f mask mode width) s = .next t ∧ s.sameButPorts t ∧ s.otherPorts t f.port ∧
          t.answers f 0x03#8 .range .nothing ∧ (t.port f.port).mask = (s.port f.port).mask ∧
          (t.port f.port).mode = (s.port f.port).mode)

/-- R185 to R187: an event posted joins the pending set of every port and moves no other; in READ and WRITE the line then
follows set and mask; in PULSE a kind newly added that the mask includes starts a pulse when none runs, and any other
posting leaves the line. -/
def Obligations.PostingReachesEveryPort : Prop :=
  ∀ (s : State) (k : EventKind) (i : PortId),
    s.sameButPorts (post k s) ∧ ((post k s).port i).pendingSet = (s.port i).pendingSet ||| k.bit ∧
    ((post k s).port i).mask = (s.port i).mask ∧ ((post k s).port i).reply = (s.port i).reply ∧
    ((s.port i).mode ≠ .pulse →
      (((post k s).port i).attn = true ↔ ((s.port i).pendingSet ||| k.bit) &&& (s.port i).mask ≠ 0#16)) ∧
    ((s.port i).mode = .pulse →
      (holdsKind (s.port i).pendingSet k = false → holdsKind (s.port i).mask k = true → (s.port i).pulse = none →
        ((post k s).port i).attn = true ∧ ((post k s).port i).pulse = some (s.port i).width) ∧
      ((holdsKind (s.port i).pendingSet k = true ∨ holdsKind (s.port i).mask k = false ∨ (s.port i).pulse ≠ none) →
        ((post k s).port i).attn = (s.port i).attn ∧ ((post k s).port i).pulse = (s.port i).pulse))

/-! ## Reads (R27, R51, R52, R76, R77, R91, R110 to R112, R122, R138, R140, R159, R160, R168, R179) -/

/-- R51, R52, R174, R179: READ_PORT reports its port's line rate and counters and clears the counters; READ_LANE reports the
lane's event counters and clears them. R140, R160: the list form of READ_TRIPS and READ_RECORD_STATUS report the dropped count
as it stood and clear it only when the flag is set. Nothing else changes but the reply: the requesting port keeps its pending set, its
attention settings, its access settings and its cursor. -/
def Obligations.CountersAreReadAndCleared : Prop :=
  ∀ (s : State) (f : Frame),
    (s.takes f (.readPort f) = true →
      ∃ t r, exec (.readPort f) s = .next t ∧ s.sameButPorts t ∧ s.otherPorts t f.port ∧ t.answers f 0x04#8 .ok (.port r) ∧
        r.gapCount = (s.port f.port).gapCount ∧ r.crcCount = (s.port f.port).crcCount ∧
        r.overlapCount = (s.port f.port).overlapCount ∧ r.pendingSet = (s.port f.port).pendingSet ∧
        r.lineRate = [9600, 19200, 57600, 115200].getD (s.port f.port).rate.toNat 0 ∧
        r.uptime = s.time.uptime ∧
        ({ s.port f.port with gapCount := 0, crcCount := 0, overlapCount := 0 } : Port).replying (t.port f.port)) ∧
    (∀ l : Lane, s.takes f (.readLane f l.val) = true →
      ∃ t r, exec (.readLane f l.val) s = .next t ∧ t.answers f 0x05#8 .ok (.lane r) ∧ s.otherLanes t l ∧
        s.otherPorts t f.port ∧ (s.port f.port).replying (t.port f.port) ∧
        t = { s with lanes := t.lanes, ports := t.ports } ∧
        t.lane l = { s.lane l with counters := ⟨0, 0, 0, 0⟩ } ∧ r.counters = (s.lane l).counters ∧
        r.state = (s.lane l).state ∧ r.held = (s.lane l).held ∧ r.blocked = s.laneBlocked l ∧ r.cfg = (s.lane l).cfg ∧
        r.meter.net = (s.lane l).meter.net ∧ r.meter.totalizer = (s.lane l).meter.totalizer) ∧
    ∀ flag : Nat,
      (s.takes f (.readTrips f flag) = true → flag ≤ 1 →
        ∃ t r, exec (.readTrips f flag) s = .next t ∧ t.answers f 0x0D#8 .ok (.trips r) ∧ s.otherPorts t f.port ∧
          (s.port f.port).replying (t.port f.port) ∧
          r.trips = s.spill.trips ∧ r.dropped = s.spill.tripsDropped ∧ r.next = s.spill.nextTrip ∧
          (∀ l, inSet r.blockedLanes l = s.laneBlocked l) ∧ (∀ k, inSet r.blockedInlets k = s.inletBlocked k) ∧
          t = { s with ports := t.ports, spill := { s.spill with tripsDropped := if flag = 1 then 0 else s.spill.tripsDropped } }) ∧
      (s.takes f (.readTrips f flag) = true → 1 < flag →
        ∃ t, exec (.readTrips f flag) s = .next t ∧ s.onlyAnswers t f 0x0D#8 .range .nothing) ∧
      (s.takes f (.readRecordStatus f flag) = true → flag ≤ 1 →
        ∃ t r, exec (.readRecordStatus f flag) s = .next t ∧ t.answers f 0x11#8 .ok (.recordStatus r) ∧
          s.otherPorts t f.port ∧ (s.port f.port).replying (t.port f.port) ∧
          r.completed = s.records.completed.length ∧ r.dropped = s.records.dropped ∧
          (r.droppedFlag = true ↔ 0 < s.records.dropped) ∧ r.next = s.records.next ∧ r.threshold = s.records.threshold ∧
          r.free = 64 - (s.records.completed.length + setCount s.records.reserved) ∧
          t = { s with ports := t.ports, records := { s.records with dropped := if flag = 1 then 0 else s.records.dropped } }) ∧
      (s.takes f (.readRecordStatus f flag) = true → 1 < flag →
        ∃ t, exec (.readRecordStatus f flag) s = .next t ∧ s.onlyAnswers t f 0x11#8 .range .nothing)

/-- R76, R77, R91, R110, R122, R138, R159, R160, R168: these reads are answered OK with what their rule names and change
nothing but the reply of the requesting port. That a loss watch without a window has not begun is the model's reading (log 12). -/
def Obligations.PlainReadsChangeNothing : Prop :=
  ∀ (s : State) (f : Frame),
    (s.takes f (.readStock f) = true → ∃ t r, exec (.readStock f) s = .next t ∧ s.onlyAnswers t f 0x06#8 .ok (.stock r) ∧
      ∀ k, (r.get k).tells s k) ∧
    (∀ k : Tank, s.takes f (.readTank f k.val) = true →
      ∃ t r, exec (.readTank f k.val) s = .next t ∧ s.onlyAnswers t f 0x07#8 .ok (.tank r) ∧ r.summary.tells s k ∧
        r = { summary := r.summary, cfg := (s.tank k).cfg, reserve := (s.tank k).reserve, alpha := (s.tank k).alpha,
              points := (s.tank k).points, overTable := (s.tank k).overTable, invalid := (s.tank k).invalid,
              rawZone := (s.tank k).rawZone, runs := (s.tank k).runs, draws := (s.tank k).draws, pump := (s.tank k).pump,
              pumpRun := (s.tank k).pumpRun, rdy := (s.tank k).rdy.level, pumpTimer := (s.tank k).pumpTimer,
              watchRuns := r.watchRuns, window := if r.watchRuns = true then (s.tank k).window else none,
              lastLoss := if r.watchRuns = true then (s.tank k).lastLoss else none,
              lossHanded := (s.tank k).lossHanded, overfillHanded := (s.tank k).overfillHanded } ∧
        (r.watchRuns = true ↔
          (s.tank k).cfg.gaugeFitted = true ∧ (s.tank k).gaugeValid = true ∧ (s.tank k).cfg.lossLimit ≠ 0 ∧
          (∀ e ∈ s.deliveries.entries, e.tank = k → e.state.discharging = false) ∧ (s.tank k).window.isSome = true)) ∧
    (∀ tag i a, s.takes f (.readAccount f tag) = true → findAccount s.accounts.slots tag = some (i, a) →
      ∃ t ls, exec (.readAccount f tag) s = .next t ∧ s.onlyAnswers t f 0x08#8 .ok (.account i a (s.accounts.classes.get a.cls) ls) ∧
        ∀ l, l ∈ ls ↔ (s.lane l).state.isOpen = true ∧ ∃ c, (s.lane l).ctx = some c ∧ c.tag = tag) ∧
    (s.takes f (.listOrders f) = true →
      ∃ t, exec (.listOrders f) s = .next t ∧
        s.onlyAnswers t f 0x0B#8 .ok
          (.orders
            (s.orders.orders.map (fun o =>
              { order := o, slot := (findAccount s.accounts.slots o.tag).map (fun e => e.1)
                timeLeft := if o.expiry = 0 then none else some (o.placedAt + o.expiry - s.time.uptime) }))
            s.orders.next s.time.uptime)) ∧
    (s.takes f (.readDelivery f 0) = true → ∃ t, exec (.readDelivery f 0) s = .next t ∧ s.onlyAnswers t f 0x0C#8 .ok (.deliveries (s.deliveries.entries.map (fun e => (e.number, e.tank, e.state))) s.deliveries.next)) ∧
    (∀ n e, n ≠ 0 → findDelivery s.deliveries.entries n = some e → s.takes f (.readDelivery f n) = true →
      ∃ t, exec (.readDelivery f n) s = .next t ∧ s.onlyAnswers t f 0x0C#8 .ok (.delivery e)) ∧
    (∀ n i, sourceOf n = some i → s.takes f (.readTripsSource f n) = true → ∃ t, exec (.readTripsSource f n) s = .next t ∧
      s.onlyAnswers t f 0x0E#8 .ok
        (.source
          { id := i, isTripped := (s.source i).isTripped, enabled := (s.source i).enabled,
            debounce := if i = .manual then none else some (s.source i).debounce,
            hoseLimit := if ∃ l, i = .hose l then some (s.source i).hoseLimit else none, lanes := (s.source i).lanes,
            inlets := (s.source i).inlets, tripCount := (s.source i).tripCount, run := (s.source i).run,
            blanking := (s.source i).blanking, lastCond := (s.source i).lastCond, debounced := (s.source i).debounced,
            creepTaken := if ∃ l, i = .hose l then some (s.source i).creepTaken else none })) ∧
    (∀ n, n ≤ 31 → s.takes f (.readCapture f n) = true → ∃ t ss, exec (.readCapture f n) s = .next t ∧ s.onlyAnswers t f 0x0F#8 .ok (.capture s.spill.capture ss) ∧ ss.length ≤ 4 ∧
      (s.spill.capture = .empty → ss = []) ∧
      ∀ c, s.spill.capture = .filling c ∨ s.spill.capture = .full c → ss = (c.samples.drop n).take 4) ∧
    (s.takes f (.readCal f) = true → ∃ t r, exec (.readCal f) s = .next t ∧ s.onlyAnswers t f 0x10#8 .ok (.cal r) ∧ r.changes = s.cal.changes ∧ r.failed = s.cal.failed ∧
      (s.cal.lock = .unlocked → r.lockKind = 0 ∧ r.codeStored = false) ∧
      (∀ c, s.cal.lock = .locked c → r.lockKind = 1 ∧ r.codeStored = true) ∧
      (s.cal.lock = .permanent → r.lockKind = 2 ∧ r.codeStored = false) ∧ (r.barred = true ↔ s.cal.failed = 3) ∧
      (∀ l, r.meters.get l = (s.lane l).meter.params) ∧ ∀ k, r.alphas.get k = (s.tank k).alpha) ∧
    (∀ n, 1 ≤ n → n ≤ 4 → s.takes f (.collectRecords f n) = true → ∃ t, exec (.collectRecords f n) s = .next t ∧
      s.onlyAnswers t f 0x48#8 .ok (.collected (s.records.completed.take n) s.records.completed.length))

/-- R111, R112: READ_ACCOUNTS returns the occupied slots from the port's cursor on, in its direction, at most the count
asked, and moves that port's cursor alone: to the slot after the last entry where the count was reached before the last slot of the
table, and else, with END, to slot 0 going UP and slot 255 going DOWN. SET_CURSOR sets the port's own cursor, and refuses a value
above 255 with RANGE. -/
def Obligations.AccountWalkMovesOneCursor : Prop :=
  ∀ (s : State) (f : Frame),
    (∀ n, 1 ≤ n → n ≤ 4 → s.takes f (.readAccounts f 0 n) = true →
      ∃ t es last, exec (.readAccounts f 0 n) s = .next t ∧ s.sameButPorts t ∧ s.otherPorts t f.port ∧
        ({ s.port f.port with cursor := (t.port f.port).cursor } : Port).replying (t.port f.port) ∧
        t.answers f 0x09#8 .ok (.accounts es last) ∧
        es = (s.accounts.slots.filter (fun e => decide ((s.port f.port).cursor ≤ e.1))).take n ∧
        (last = false ↔ es.length = n ∧ ∃ e, es.getLast? = some e ∧ e.1 < 255) ∧
        (last = true → (t.port f.port).cursor = 0) ∧
        (last = false → ∀ e, es.getLast? = some e → (t.port f.port).cursor = e.1 + 1)) ∧
    (∀ n, 1 ≤ n → n ≤ 4 → s.takes f (.readAccounts f 1 n) = true →
      ∃ t es last, exec (.readAccounts f 1 n) s = .next t ∧ s.sameButPorts t ∧ s.otherPorts t f.port ∧
        ({ s.port f.port with cursor := (t.port f.port).cursor } : Port).replying (t.port f.port) ∧
        t.answers f 0x09#8 .ok (.accounts es last) ∧
        es = (s.accounts.slots.filter (fun e => decide (e.1 ≤ (s.port f.port).cursor))).reverse.take n ∧
        (last = false ↔ es.length = n ∧ ∃ e, es.getLast? = some e ∧ 0 < e.1) ∧
        (last = true → (t.port f.port).cursor = 255) ∧
        (last = false → ∀ e, es.getLast? = some e → (t.port f.port).cursor = e.1 - 1)) ∧
    (∀ n, s.takes f (.setCursor f n) = true →
      (n ≤ 255 → ∃ t, exec (.setCursor f n) s = .next t ∧ s.sameButPorts t ∧ s.otherPorts t f.port ∧
        t.answers f 0x0A#8 .ok .nothing ∧ ({ s.port f.port with cursor := n } : Port).replying (t.port f.port)) ∧
      (255 < n → ∃ t, exec (.setCursor f n) s = .next t ∧ s.onlyAnswers t f 0x0A#8 .range .nothing)) ∧
    ∀ d n, s.takes f (.readAccounts f d n) = true → (1 < d ∨ n = 0 ∨ 4 < n) →
      ∃ t, exec (.readAccounts f d n) s = .next t ∧ s.onlyAnswers t f 0x09#8 .range .nothing

/-! ## Orders and lane requests (R32 to R34, R50, R56, R63, R73, R114 to R119) -/

/-- R114 to R116: an accepted PLACE_ORDER puts one PENDING order at the end of the list, under a number that no order of the
list carries, and changes nothing else; a refused one changes nothing. -/
def Obligations.PlaceOrderAppendsOneOrder : Prop :=
  ∀ (s : State) (f : Frame) (tag : Tag) (k : Tank) (volume expiry : Nat) (pr : Bool),
    s.takes f (.placeOrder f tag k.val volume (if pr then 1 else 0) expiry) = true →
    (∀ i a, 1 ≤ volume → volume ≤ 2000000 → expiry ≤ 86400 → findAccount s.accounts.slots tag = some (i, a) →
      a.suspended = false → inSet a.permits k = true → (∀ o ∈ s.orders.orders, ¬(o.tag = tag ∧ o.tank = k)) →
      s.orders.orders.length < 16 →
      ∃ t o, exec (.placeOrder f tag k.val volume (if pr then 1 else 0) expiry) s = .next t ∧
        t = { s with orders := t.orders, ports := t.ports } ∧ s.otherPorts t f.port ∧
        t.orders.orders = s.orders.orders ++ [o] ∧ (∀ p ∈ s.orders.orders, p.number ≠ o.number) ∧ o.tag = tag ∧ o.tank = k ∧
        o.volume = volume ∧ o.priority = pr ∧ o.placedAt = s.time.uptime ∧ o.expiry = expiry ∧ o.claimedBy = none ∧
        t.answers f 0x20#8 .ok
          (.placed o.number s.time.uptime (if expiry = 0 then none else some (s.time.uptime + expiry)))) ∧
    (∀ st,
      ((volume = 0 ∨ 2000000 < volume ∨ 86400 < expiry) ∧ st = .range) ∨
        (1 ≤ volume ∧ volume ≤ 2000000 ∧ expiry ≤ 86400 ∧
          ((findAccount s.accounts.slots tag = none ∧ st = .notFound) ∨
            ∃ i a, findAccount s.accounts.slots tag = some (i, a) ∧
              ((a.suspended = true ∧ st = .accountHeld) ∨
                (a.suspended = false ∧ inSet a.permits k = false ∧ st = .notPermitted) ∨
                (a.suspended = false ∧ inSet a.permits k = true ∧
                  (((∃ o ∈ s.orders.orders, o.tag = tag ∧ o.tank = k) ∧ st = .alreadyExists) ∨
                    ((∀ o ∈ s.orders.orders, ¬(o.tag = tag ∧ o.tank = k)) ∧ 16 ≤ s.orders.orders.length ∧ st = .full)))))) →
      ∃ t, exec (.placeOrder f tag k.val volume (if pr then 1 else 0) expiry) s = .next t ∧ t.answers f 0x20#8 st .nothing ∧
        s.sameButPorts t ∧ s.otherPorts t f.port)

/-- R118: CANCEL_ORDER answers NOT_FOUND where no order carries the number; a PENDING order leaves the list, a CLAIMED one
stays and is answered TOO_LATE; no event is posted. -/
def Obligations.CancelRemovesPendingOrder : Prop :=
  ∀ (s : State) (f : Frame) (n : Nat), s.takes f (.cancelOrder f n) = true →
    ((∀ o ∈ s.orders.orders, o.number ≠ n) →
      ∃ t, exec (.cancelOrder f n) s = .next t ∧ t.answers f 0x21#8 .notFound .nothing ∧ s.sameButPorts t ∧
        s.otherPorts t f.port ∧ (t.port f.port).pendingSet = (s.port f.port).pendingSet) ∧
    (∀ o ∈ s.orders.orders, o.number = n → (∀ p ∈ s.orders.orders, p.number = n → p = o) →
      (o.claimedBy = none →
        ∃ t, exec (.cancelOrder f n) s = .next t ∧ t.answers f 0x21#8 .ok .nothing ∧ s.otherPorts t f.port ∧
          (t.port f.port).pendingSet = (s.port f.port).pendingSet ∧
          t = { s with ports := t.ports,
                       orders := { s.orders with orders := s.orders.orders.filter (fun p => decide (p.number ≠ n)) } }) ∧
      (o.claimedBy.isSome = true →
        ∃ t, exec (.cancelOrder f n) s = .next t ∧ t.answers f 0x21#8 .tooLate .nothing ∧ s.sameButPorts t ∧
          s.otherPorts t f.port ∧ (t.port f.port).pendingSet = (s.port f.port).pendingSet))

/-- R16, R33, R34, R64, R65, R102, R119, R128, R129: an OPEN_LANE that passes R32's checks opens one transaction: the preset chosen,
clamped to a FUEL machine's capacity and to the stock, the context written, the meter at its opening values, the draw entry
and the reservation taken, a full queue under OVERWRITE first dropping its oldest record and counting it, and the named order claimed.
A gap in the hours that only the override of a level-0 port passes sets HOURS_OVERRIDDEN. With HOOK released the lane is AUTHORIZED and its timer runs; with
HOOK asserted it is STARTING or already DELIVERING. -/
def Obligations.OpenLaneOpensATransaction : Prop :=
  ∀ (s : State) (f : Frame) (l : Lane) (tag : Tag) (n : Nat) (preset hours : Option Nat) (i : Nat) (a : Account)
    (ord : Option Order) (p q avail : Nat) (override overridden : Bool),
    s.takes f (.openLane f l.val tag n preset hours (if override then 1 else 0)) = true → (s.lane l).state = .idle →
    s.laneBlocked l = false →
    (s.tank (s.lane l).cfg.tank).zone ≠ .lowLow →
    ((s.tank (s.lane l).cfg.tank).cfg.gaugeFitted = true → (s.tank (s.lane l).cfg.tank).gaugeValid = true) →
    findAccount s.accounts.slots tag = some (i, a) → a.suspended = false → inSet a.permits (s.lane l).cfg.tank = true →
    (∀ j c, j ≠ l → (s.lane j).cfg.tank = (s.lane l).cfg.tank → (s.lane j).ctx = some c → c.tag ≠ tag) →
    ((n = 0 ∧ ord = none) ∨
      ∃ o, ord = some o ∧ n ≠ 0 ∧ findOrder s.orders.orders n = some o ∧ o.claimedBy = none ∧ o.tag = tag ∧
        o.tank = (s.lane l).cfg.tank) →
    ((hours = none ∧ (s.accounts.classes.get a.cls).hoursRequired = false ∧ overridden = false) ∨
      (∃ h, hours = some h ∧ h ≤ 9999999 ∧ overridden = false ∧ ∀ last, a.hoursLast = some last →
        last ≤ h ∧ (s.time.isSet = true → ∀ fill, a.lastFill = some fill → h - last ≤ (s.time.clock - fill) / 360 + 10)) ∨
      ∃ h last fill, hours = some h ∧ h ≤ 9999999 ∧ overridden = true ∧ override = true ∧ (s.port f.port).level = 0 ∧
        a.hoursLast = some last ∧ last ≤ h ∧ s.time.isSet = true ∧ a.lastFill = some fill ∧
        (s.time.clock - fill) / 360 + 10 < h - last) →
    ((preset = some p ∧ 1 ≤ p ∧ p ≤ 2000000) ∨ (preset = none ∧ ord.map (fun o => o.volume) = some p) ∨
      (preset = none ∧ ord = none ∧ (s.tank (s.lane l).cfg.tank).cfg.cls = .fuel ∧ p = a.capacity)) →
    avail = (if ord.any (fun o => o.priority) then
        (s.tank (s.lane l).cfg.tank).book - allocated (s.tank (s.lane l).cfg.tank).draws
      else (s.tank (s.lane l).cfg.tank).book - allocated (s.tank (s.lane l).cfg.tank).draws -
        (s.tank (s.lane l).cfg.tank).reserve) →
    (((if (s.tank (s.lane l).cfg.tank).cfg.cls = .fuel then min p a.capacity else p) ≤ avail ∧
        q = (if (s.tank (s.lane l).cfg.tank).cfg.cls = .fuel then min p a.capacity else p)) ∨
      (avail < (if (s.tank (s.lane l).cfg.tank).cfg.cls = .fuel then min p a.capacity else p) ∧
        (s.tank (s.lane l).cfg.tank).cfg.minFill ≤ avail ∧ 0 < avail ∧ q = avail)) →
    (s.records.completed.length + setCount s.records.reserved < 64 ∨ s.records.policy = .overwrite) →
    ∃ t c, exec (.openLane f l.val tag n preset hours (if override then 1 else 0)) s = .next t ∧
      t.answers f 0x28#8 (if q ≠ p then .clamped else .ok) (.opened q (s.lane l).cfg.tank n c.flags) ∧
      (t.lane l).ctx = some c ∧ c.tag = tag ∧ c.order = n ∧ c.preset = q ∧ c.effPreset = q ∧ c.hours = hours ∧
      c.startTime = s.stamp.1 ∧ c.flags.clockUnset = s.stamp.2 ∧ c.endReason = none ∧
      c.flags.clampedPreset = decide (q ≠ p) ∧ c.flags.noHours = hours.isNone ∧ c.flags.hoursOverridden = overridden ∧
      c.flags.priority = ord.any (fun o => o.priority) ∧ c.flags.trimmed = false ∧
      (t.lane l).meter.gross = 0 ∧ (t.lane l).meter.net = 0 ∧ (t.lane l).meter.revSum = 0 ∧
      (t.lane l).meter.txnMiscounts = 0 ∧ (t.lane l).meter.creepAcc = 0 ∧ (t.lane l).meter.creepCond = false ∧
      (t.lane l).meter.totalizer = (s.lane l).meter.totalizer ∧ inSet t.records.reserved l = true ∧
      (s.records.completed.length + setCount s.records.reserved < 64 →
        t.records.completed = s.records.completed ∧ t.records.dropped = s.records.dropped) ∧
      (64 ≤ s.records.completed.length + setCount s.records.reserved →
        t.records.completed = s.records.completed.tail ∧ t.records.dropped = min 255 (s.records.dropped + 1)) ∧
      (t.tank (s.lane l).cfg.tank).draws = (s.tank (s.lane l).cfg.tank).draws ++ [{ lane := l, alloc := q, remaining := q }] ∧
      (t.tank (s.lane l).cfg.tank).book = (s.tank (s.lane l).cfg.tank).book ∧
      (n ≠ 0 → ∀ o ∈ t.orders.orders, o.number = n → o.claimedBy = some l) ∧ t.accounts = s.accounts ∧
      ((s.lane l).hook.level = false →
        s.otherLanes t l ∧ (t.lane l).state = .authorized ∧ (t.lane l).authTimer = some (s.lane l).cfg.authTime ∧
        c.stageAtEnd = none) ∧
      ((s.lane l).hook.level = true →
        ((t.lane l).state = .starting ∨ (t.lane l).state = .delivering) ∧ (t.lane l).meter.consec = 0)

/-- R32, R33, R65, R101, R102, R116, R119, R128: an OPEN_LANE is refused by the first check of R32's table that fails, in the table's
order, with or without an order, a preset, a reading and an override, which counts from a port of level 0 alone; and nothing but the
reply of its own port changes. A lane number above 7 is RANGE before any check; that an override flag above 1 is RANGE there too is the
model's choice (log 14). -/
def Obligations.OpenLaneFirstFailedCheck : Prop :=
  (∀ (s : State) (f : Frame) (l : Lane) (tag : Tag) (n : Nat) (preset hours : Option Nat) (override : Bool) (st : Status)
      (k : TankUnit),
    s.takes f (.openLane f l.val tag n preset hours (if override then 1 else 0)) = true → k = s.tank (s.lane l).cfg.tank →
    firstFailed st
      [((s.lane l).state = .disabled, .disabled),
       ((s.lane l).state.isOpen = true, .wrongState),
       (s.laneBlocked l = true, .tripped),
       (k.zone = .lowLow, .tankLow),
       (k.cfg.gaugeFitted = true ∧ k.gaugeValid = false, .gauge),
       (findAccount s.accounts.slots tag = none, .notFound),
       (∃ i a, findAccount s.accounts.slots tag = some (i, a) ∧ a.suspended = true, .accountHeld),
       (∃ i a, findAccount s.accounts.slots tag = some (i, a) ∧ inSet a.permits (s.lane l).cfg.tank = false, .notPermitted),
       (∃ j c, j ≠ l ∧ (s.lane j).cfg.tank = (s.lane l).cfg.tank ∧ (s.lane j).ctx = some c ∧ c.tag = tag, .wrongState),
       (n ≠ 0 ∧ findOrder s.orders.orders n = none, .notFound),
       (∃ o, n ≠ 0 ∧ findOrder s.orders.orders n = some o ∧ o.claimedBy.isSome = true, .wrongState),
       (∃ o, n ≠ 0 ∧ findOrder s.orders.orders n = some o ∧ ¬(o.tag = tag ∧ o.tank = (s.lane l).cfg.tank), .range),
       (∃ i a, findAccount s.accounts.slots tag = some (i, a) ∧
          ((hours = none ∧ (s.accounts.classes.get a.cls).hoursRequired = true) ∨
            ∃ h, hours = some h ∧
              (9999999 < h ∨
                ∃ last, a.hoursLast = some last ∧
                  (h < last ∨
                    (¬(override = true ∧ (s.port f.port).level = 0) ∧ s.time.isSet = true ∧
                      ∃ fill, a.lastFill = some fill ∧ (s.time.clock - fill) / 360 + 10 < h - last)))), .hours),
       ((∃ p, preset = some p ∧ (p = 0 ∨ 2000000 < p)) ∨ (preset = none ∧ n = 0 ∧ k.cfg.cls ≠ .fuel), .range),
       (∃ i a p avail, findAccount s.accounts.slots tag = some (i, a) ∧
          (preset = some p ∨ (preset = none ∧ n = 0 ∧ p = a.capacity) ∨
            (preset = none ∧ n ≠ 0 ∧ ∃ o, findOrder s.orders.orders n = some o ∧ p = o.volume)) ∧
          avail =
            (if n ≠ 0 ∧ (findOrder s.orders.orders n).any (fun o => o.priority) = true then k.book - allocated k.draws
            else k.book - allocated k.draws - k.reserve) ∧
          avail < (if k.cfg.cls = .fuel then min p a.capacity else p) ∧ (avail < k.cfg.minFill ∨ avail = 0), .noStock),
       (64 ≤ s.records.completed.length + setCount s.records.reserved ∧ s.records.policy = .hold, .full)] →
    ∃ t, exec (.openLane f l.val tag n preset hours (if override then 1 else 0)) s = .next t ∧
      s.onlyAnswers t f 0x28#8 st .nothing) ∧
  ∀ (s : State) (f : Frame) (lane : Nat) (tag : Tag) (n : Nat) (preset hours : Option Nat) (override : Nat),
    s.takes f (.openLane f lane tag n preset hours override) = true → (7 < lane ∨ 1 < override) →
    ∃ t, exec (.openLane f lane tag n preset hours override) s = .next t ∧ s.onlyAnswers t f 0x28#8 .range .nothing

/-- R38, R43, R49, R50: ENABLE_LANE, DISABLE_LANE and STOP_LANE in each lane state, and RANGE for a lane number above 7. -/
def Obligations.LaneRequestsByState : Prop :=
  ∀ (s : State) (f : Frame) (l : Lane),
    (s.takes f (.enableLane f l.val) = true →
      ∃ t, exec (.enableLane f l.val) s = .next t ∧ t.answers f 0x2A#8 .ok .nothing ∧ s.otherLanes t l ∧
        s.otherPorts t f.port ∧ t = { s with lanes := t.lanes, ports := t.ports } ∧
        ((s.lane l).state = .disabled → t.lane l = { s.lane l with state := .idle, held := ⟨false, false, false⟩ }) ∧
        ((s.lane l).state = .idle → t.lane l = s.lane l) ∧
        ((s.lane l).state.isOpen = true → t.lane l = { s.lane l with pendingDisable := false })) ∧
    (s.takes f (.disableLane f l.val) = true →
      ∃ t, exec (.disableLane f l.val) s = .next t ∧ t.answers f 0x2B#8 .ok .nothing ∧ s.otherLanes t l ∧
        s.otherPorts t f.port ∧ t = { s with lanes := t.lanes, ports := t.ports } ∧
        ((s.lane l).state = .disabled → t.lane l = s.lane l) ∧
        ((s.lane l).state = .idle → t.lane l = { s.lane l with state := .disabled }) ∧
        ((s.lane l).state.isOpen = true → t.lane l = { s.lane l with pendingDisable := true })) ∧
    (s.takes f (.stopLane f l.val) = true →
      ((s.lane l).state.isOpen = false →
        ∃ t, exec (.stopLane f l.val) s = .next t ∧ s.onlyAnswers t f 0x29#8 .wrongState .nothing) ∧
      (∀ c, (s.lane l).ctx = some c →
        ((s.lane l).state = .authorized ∨ (s.lane l).state = .starting →
          ∃ t rec, exec (.stopLane f l.val) s = .next t ∧ t.answers f 0x29#8 .ok .nothing ∧ s.otherLanes t l ∧
            t.records.completed = s.records.completed ++ [rec] ∧ rec.endReason = .stopped ∧ rec.tag = c.tag ∧
            (t.lane l).ctx = none ∧ (t.lane l).state.isOpen = false) ∧
        ((s.lane l).state = .delivering →
          ∃ t, exec (.stopLane f l.val) s = .next t ∧ t.answers f 0x29#8 .ok .nothing ∧ s.otherLanes t l ∧
            (t.lane l).state = .settling ∧ (t.lane l).vlo = false ∧ (t.lane l).vhi = false ∧
            (t.lane l).ctx = some { c with endReason := some .stopped } ∧ t.records = s.records)) ∧
      ((s.lane l).state = .settling →
        ∃ t, exec (.stopLane f l.val) s = .next t ∧ s.onlyAnswers t f 0x29#8 .ok .nothing)) ∧
    (∀ lane cmd code, 7 < lane →
      (cmd = .enableLane f lane ∧ code = 0x2A#8) ∨ (cmd = .disableLane f lane ∧ code = 0x2B#8) ∨
        (cmd = .stopLane f lane ∧ code = 0x29#8) →
      s.takes f cmd = true → ∃ t, exec cmd s = .next t ∧ s.onlyAnswers t f code .range .nothing)

/-- R56: SET_TANK_RESERVE sets the reserve, clamped to the capacity and then answered CLAMPED; the reply carries the reserve
in force, no allocation changes, and later normal admissions see the smaller stock. -/
def Obligations.ReserveIsClampedToCapacity : Prop :=
  ∀ (s : State) (f : Frame) (k : Tank) (reserve : Nat), s.takes f (.setTankReserve f k.val reserve) = true →
    reserve ≤ 2000000000 →
    ∃ t, exec (.setTankReserve f k.val reserve) s = .next t ∧ s.otherTanks t k ∧ s.otherPorts t f.port ∧
      t = { s with tanks := t.tanks, ports := t.ports } ∧
      t.tank k = { s.tank k with reserve := min reserve (s.tank k).cfg.capacity } ∧
      t.answers f 0x30#8 (if (s.tank k).cfg.capacity < reserve then .clamped else .ok)
        (.reserve (min reserve (s.tank k).cfg.capacity)) ∧
      (t.tank k).available false =
        (s.tank k).book - allocated (s.tank k).draws - min reserve (s.tank k).cfg.capacity ∧
      (t.tank k).available true = (s.tank k).available true

/-- R63, R66: ADJUST_STOCK sets the book, clears the shortage when asked, and leaves the remaining allocations within the new
book; no other tank's book changes. R44, R66, R67: where the youngest allocation covers the excess, that one alone is cut, and its lane's
effective preset falls to what is left of it, with TRIMMED set; a lane that has not metered so much goes on, and one that has ends with
PRESET. R73: ACK_ALARMS clears the latched flags of the zones that the debounced zone no longer
reaches, for the tank named or for all. -/
def Obligations.AdjustAndAcknowledge : Prop :=
  ∀ (s : State) (f : Frame),
    (∀ (k : Tank) (book : Nat) (clear : Bool),
      s.takes f (.adjustStock f k.val book (if clear then 1 else 0)) = true → book ≤ 2000000000 →
      ∃ t, exec (.adjustStock f k.val book (if clear then 1 else 0)) s = .next t ∧ (t.tank k).book = book ∧
        (t.tank k).shortage = (if clear then 0 else (s.tank k).shortage) ∧ allocated (t.tank k).draws ≤ book ∧
        (allocated (s.tank k).draws ≤ book → (t.tank k).draws = (s.tank k).draws ∧ t.lanes = s.lanes) ∧
        (∀ older d c excess, (s.tank k).draws = older ++ [d] → allocated (s.tank k).draws = book + excess → 0 < excess →
          excess ≤ d.remaining → (s.lane d.lane).ctx = some c →
          s.otherLanes t d.lane ∧
          ((s.lane d.lane).meter.net < min (c.preset : Int) (d.alloc - excess) →
            (t.tank k).draws = older ++ [{ d with alloc := d.alloc - excess, remaining := d.remaining - excess }] ∧
            (t.lane d.lane).state = (s.lane d.lane).state ∧
            ∃ c', (t.lane d.lane).ctx = some c' ∧ c'.effPreset = min (c.preset : Int) (d.alloc - excess) ∧
              c'.flags.trimmed = true ∧ c'.endReason = c.endReason) ∧
          (min (c.preset : Int) (d.alloc - excess) ≤ (s.lane d.lane).meter.net →
            ((s.lane d.lane).state = .delivering →
              (t.lane d.lane).state = .settling ∧ (t.lane d.lane).vlo = false ∧ (t.lane d.lane).vhi = false ∧
              ∃ c', (t.lane d.lane).ctx = some c' ∧ c'.effPreset = min (c.preset : Int) (d.alloc - excess) ∧
                c'.flags.trimmed = true ∧ c'.endReason = some .preset) ∧
            ((s.lane d.lane).state = .authorized ∨ (s.lane d.lane).state = .starting →
              (t.lane d.lane).ctx = none ∧ (t.lane d.lane).state.isOpen = false ∧
              ∃ rec, t.records.completed = s.records.completed ++ [rec] ∧ rec.lane = d.lane ∧ rec.endReason = .preset ∧
                rec.flags.trimmed = true))) ∧
        ((∀ d ∈ (s.tank k).draws, (s.lane d.lane).cfg.tank = k) → s.otherTanks t k) ∧
        t.answers f 0x31#8 .ok (.stockSet book (t.tank k).shortage (allocated (t.tank k).draws))) ∧
    (∀ (k : Tank), s.takes f (.ackAlarms f k.val) = true →
      ∃ t, exec (.ackAlarms f k.val) s = .next t ∧ s.otherTanks t k ∧ s.otherPorts t f.port ∧
        t = { s with tanks := t.tanks, ports := t.ports } ∧
        t.answers f 0x32#8 .ok (.alarms [(k, (t.tank k).alarms)]) ∧
        t.tank k = { s.tank k with alarms := (t.tank k).alarms } ∧
        (t.tank k).alarms.lowLow = ((s.tank k).alarms.lowLow && decide ((s.tank k).zone = .lowLow)) ∧
        (t.tank k).alarms.low =
          ((s.tank k).alarms.low && (decide ((s.tank k).zone = .lowLow) || decide ((s.tank k).zone = .low))) ∧
        (t.tank k).alarms.high =
          ((s.tank k).alarms.high && (decide ((s.tank k).zone = .high) || decide ((s.tank k).zone = .highHigh))) ∧
        (t.tank k).alarms.highHigh = ((s.tank k).alarms.highHigh && decide ((s.tank k).zone = .highHigh))) ∧
    (s.takes f (.ackAlarmsAll f) = true →
      ∃ t, exec (.ackAlarmsAll f) s = .next t ∧ s.otherPorts t f.port ∧ t = { s with tanks := t.tanks, ports := t.ports } ∧
        t.answers f 0x33#8 .ok (.alarms (allEight.map (fun k => (k, (t.tank k).alarms)))) ∧
        ∀ k, t.tank k = { s.tank k with alarms := (s.tank k).alarms.inter (s.tank k).zone.reached })

/-! ## Machines, settings, deliveries (R78 to R100, R137, R184, R190) -/

/-- R93, R95 to R99: ENROL_MACHINE writes one new entry into the lowest free way of its tag's bucket; RETIRE_MACHINE frees the
slot of a machine with no open transaction and no order; SET_MACHINE replaces the changeable values and keeps the rest. R99: an item
that carries its hours takes them and is not due; one that carries none takes the base and the due flag of the present item for its tank,
or no base where there is none. No other entry changes, and a refused request changes nothing. R96, R98: a value out of its range is
RANGE before any other check. -/
def Obligations.MachineRequestsChangeOneSlot : Prop :=
  (∀ (s : State) (f : Frame) (tag : Tag) (cls state : Nat) (permits : TankSet) (capacity : Nat) (items : List ItemSetting)
      (bad : Prop),
    (bad ↔ 5 < cls ∨ capacity = 0 ∨ 2000000 < capacity ∨ 4 < items.length ∨ ¬(items.map (fun v => v.tank)).Nodup ∨
      ∃ v ∈ items, 7 < v.tank ∨ v.interval < 10 ∨ 50000 < v.interval ∨ v.minimum = 0 ∨ 2000000 < v.minimum ∨
        ∃ h, v.base = some h ∧ 9999999 < h) →
    (bad → s.takes f (.enrolMachine f tag cls permits capacity items) = true →
      ∃ t, exec (.enrolMachine f tag cls permits capacity items) s = .next t ∧ s.onlyAnswers t f 0x38#8 .range .nothing) ∧
    (bad ∨ 1 < state → s.takes f (.setMachine f tag cls state permits capacity items) = true →
      ∃ t, exec (.setMachine f tag cls state permits capacity items) s = .next t ∧
        s.onlyAnswers t f 0x3A#8 .range .nothing)) ∧
  ∀ (s : State) (f : Frame) (tag : Tag) (cls : Nat) (c : MachineClass) (permits : TankSet) (capacity : Nat)
    (items : List ItemSetting) (is : List ServiceItem),
    machineClassOf cls = some c → itemsOf items = some is → 1 ≤ capacity → capacity ≤ 2000000 →
    (s.takes f (.enrolMachine f tag cls permits capacity items) = true →
      (∀ w, w < 4 → findAccount s.accounts.slots tag = none →
        (∀ e ∈ s.accounts.slots, e.1 ≠ bucketOf tag * 4 + w) →
        (∀ v, v < w → ∃ e ∈ s.accounts.slots, e.1 = bucketOf tag * 4 + v) →
        ∃ t a, exec (.enrolMachine f tag cls permits capacity items) s = .next t ∧
          t.answers f 0x38#8 .ok (.slot (bucketOf tag * 4 + w)) ∧ s.otherPorts t f.port ∧
          t = { s with accounts := t.accounts, ports := t.ports } ∧ t.accounts.classes = s.accounts.classes ∧
          a = Account.enrolled tag c permits capacity is ∧ a.suspended = false ∧ a.hoursLast = none ∧ a.fuelTotal = 0 ∧
          a.fills = 0 ∧ a.burnRate = none ∧
          ∀ e, e ∈ t.accounts.slots ↔ e = (bucketOf tag * 4 + w, a) ∨ e ∈ s.accounts.slots) ∧
      (findAccount s.accounts.slots tag = none → (∀ w, w < 4 → ∃ e ∈ s.accounts.slots, e.1 = bucketOf tag * 4 + w) →
        ∃ t, exec (.enrolMachine f tag cls permits capacity items) s = .next t ∧ s.onlyAnswers t f 0x38#8 .full .nothing) ∧
      (findAccount s.accounts.slots tag ≠ none →
        ∃ t, exec (.enrolMachine f tag cls permits capacity items) s = .next t ∧ s.onlyAnswers t f 0x38#8 .alreadyExists .nothing)) ∧
    (s.takes f (.retireMachine f tag) = true →
      (findAccount s.accounts.slots tag = none →
        ∃ t, exec (.retireMachine f tag) s = .next t ∧ s.onlyAnswers t f 0x39#8 .notFound .nothing) ∧
      (∀ i a, findAccount s.accounts.slots tag = some (i, a) →
        ((∀ l d, (s.lane l).state.isOpen = true → (s.lane l).ctx = some d → d.tag ≠ tag) →
          (∀ o ∈ s.orders.orders, o.tag ≠ tag) →
          ∃ t, exec (.retireMachine f tag) s = .next t ∧ t.answers f 0x39#8 .ok .nothing ∧ s.otherPorts t f.port ∧
            t = { s with ports := t.ports,
                         accounts := { s.accounts with slots := s.accounts.slots.filter (fun e => decide (e.1 ≠ i)) } }) ∧
        (((∃ l d, (s.lane l).state.isOpen = true ∧ (s.lane l).ctx = some d ∧ d.tag = tag) ∨
            ∃ o ∈ s.orders.orders, o.tag = tag) →
          ∃ t, exec (.retireMachine f tag) s = .next t ∧ s.onlyAnswers t f 0x39#8 .wrongState .nothing))) ∧
    ∀ sus : Bool, s.takes f (.setMachine f tag cls (if sus then 1 else 0) permits capacity items) = true →
      (findAccount s.accounts.slots tag = none →
        ∃ t, exec (.setMachine f tag cls (if sus then 1 else 0) permits capacity items) s = .next t ∧
          s.onlyAnswers t f 0x3A#8 .notFound .nothing) ∧
      (∀ i a, findAccount s.accounts.slots tag = some (i, a) →
        ∃ t b, exec (.setMachine f tag cls (if sus then 1 else 0) permits capacity items) s = .next t ∧
          t.answers f 0x3A#8 .ok .nothing ∧ s.otherPorts t f.port ∧ t = { s with accounts := t.accounts, ports := t.ports } ∧
          t.accounts.classes = s.accounts.classes ∧ (i, b) ∈ t.accounts.slots ∧
          (∀ e ∈ s.accounts.slots, e.1 ≠ i → e ∈ t.accounts.slots) ∧
          b = { a with cls := c, suspended := sus, permits := permits, capacity := capacity, items := b.items } ∧
          b.items.length = is.length ∧ b.items.map (fun x => x.tank) = is.map (fun x => x.tank) ∧
          ∀ x ∈ is, x.due = false ∧ (x.base.isSome = true → x ∈ b.items) ∧
            (x.base = none → (∀ y ∈ a.items, y.tank ≠ x.tank) → x ∈ b.items) ∧
            ∀ y ∈ a.items, x.base = none → y.tank = x.tank → (∀ w ∈ a.items, w.tank = x.tank → w = y) →
              { x with base := y.base, due := y.due } ∈ b.items)

/-- R100, R136, R137, R184, R190: SET_CLASS, SET_RECORD_POLICY, SET_CLOCK and SET_ACCESS replace the values they name and
nothing else; an access setting that leaves no port at level 0 is RANGE. That an hours required of 1 is yes is the model's reading
(log 34). -/
def Obligations.SettingsReplaceTheirValues : Prop :=
  ∀ (s : State) (f : Frame),
    (∀ cls c req ceiling, machineClassOf cls = some c → s.takes f (.setClass f cls req ceiling) = true →
      (req ≤ 1 → 1 ≤ ceiling → ceiling ≤ 10000000 →
        ∃ t, exec (.setClass f cls req ceiling) s = .next t ∧ t.answers f 0x5C#8 .ok .nothing ∧ s.otherPorts t f.port ∧
          t = { s with ports := t.ports, accounts := { s.accounts with classes := t.accounts.classes } } ∧
          t.accounts.classes.get c = ⟨decide (req = 1), ceiling⟩ ∧
          ∀ d, d ≠ c → t.accounts.classes.get d = s.accounts.classes.get d) ∧
      ((1 < req ∨ ceiling = 0 ∨ 10000000 < ceiling) →
        ∃ t, exec (.setClass f cls req ceiling) s = .next t ∧ s.onlyAnswers t f 0x5C#8 .range .nothing)) ∧
    (∀ p pol threshold, policyOf p = some pol → s.takes f (.setRecordPolicy f p threshold) = true →
      (1 ≤ threshold → threshold ≤ 64 →
        ∃ t, exec (.setRecordPolicy f p threshold) s = .next t ∧
          t.answers f 0x5D#8 .ok (.policy pol threshold s.records.completed.length) ∧
          t = { s with ports := t.ports, records := { s.records with policy := pol, threshold := threshold } } ∧
          ∀ i, (threshold ≤ s.records.completed.length → holdsKind (t.port i).pendingSet .records = true) ∧
            (s.records.completed.length < threshold → (t.port i).pendingSet = (s.port i).pendingSet)) ∧
      ((threshold = 0 ∨ 64 < threshold) →
        ∃ t, exec (.setRecordPolicy f p threshold) s = .next t ∧ s.onlyAnswers t f 0x5D#8 .range .nothing)) ∧
    (∀ v, s.takes f (.setClock f v) = true → v ≤ 4294967295 →
      ∃ t, exec (.setClock f v) s = .next t ∧ t.answers f 0x5E#8 .ok (.clock v s.time.uptime) ∧ s.otherPorts t f.port ∧
        t = { s with ports := t.ports, time := { clock := v, isSet := true, uptime := s.time.uptime } }) ∧
    ∀ v, s.takes f (.setAccess f v) = true →
      (∀ d c r, denialOf v.dispatchDenial = some d → denialOf v.consoleDenial = some c → denialOf v.receiptDenial = some r →
        v.dispatchLevel ≤ 3 → v.consoleLevel ≤ 3 → v.receiptLevel ≤ 3 → v.openLevel ≤ 3 →
        (v.dispatchLevel = 0 ∨ v.consoleLevel = 0 ∨ v.receiptLevel = 0) →
        ∃ t, exec (.setAccess f v) s = .next t ∧ t.answers f 0x5F#8 .ok (.access v) ∧ s.sameButPorts t ∧
          t.ports.openLevel = v.openLevel ∧ (t.port .dispatch).level = v.dispatchLevel ∧ (t.port .dispatch).denial = d ∧
          (t.port .console).level = v.consoleLevel ∧ (t.port .console).denial = c ∧
          (t.port .receipt).level = v.receiptLevel ∧ (t.port .receipt).denial = r ∧
          ∀ i, (t.port i).pendingSet = (s.port i).pendingSet ∧ (t.port i).mask = (s.port i).mask) ∧
      (v.dispatchLevel ≠ 0 → v.consoleLevel ≠ 0 → v.receiptLevel ≠ 0 →
        ∃ t, exec (.setAccess f v) s = .next t ∧ s.onlyAnswers t f 0x5F#8 .range .nothing)

/-- R78 to R82, R84: ANNOUNCE_DELIVERY adds one ANNOUNCED entry under a number no entry carries; CONFIRM_DELIVERY of an
ANNOUNCED entry with a VALID gauge and an unblocked inlet asserts the inlet and makes the entry FILLING with its opening
gauged net and what its lanes drew since the last sample, with OVER_TABLE where the held level lies above the table; every other entry
is as it was. Each refusal leaves everything as it was but the reply of its own port. -/
def Obligations.AnnounceAndConfirm : Prop :=
  ∀ (s : State) (f : Frame),
    (∀ (k : Tank) (identity : BitVec 64) (docket : Nat), s.takes f (.announceDelivery f k.val identity docket) = true →
      (1 ≤ docket → docket ≤ 200000000 → (∀ e ∈ s.deliveries.entries, e.tank = k → e.state.active = false) →
        s.deliveries.entries.length < 8 →
        ∃ t e, exec (.announceDelivery f k.val identity docket) s = .next t ∧ t.answers f 0x40#8 .ok (.announced e.number) ∧
          s.otherPorts t f.port ∧ t = { s with deliveries := t.deliveries, ports := t.ports } ∧
          t.deliveries.entries = s.deliveries.entries ++ [e] ∧ (∀ d ∈ s.deliveries.entries, d.number ≠ e.number) ∧
          e.tank = k ∧ e.identity = identity ∧ e.docket = docket ∧ e.state = .announced ∧ e.timer = some 1800 ∧
          e.conf = none ∧ e.announceTime = s.stamp.1 ∧ e.flags.clockUnset = s.stamp.2) ∧
      (∀ st,
        ((docket = 0 ∨ 200000000 < docket) ∧ st = .range) ∨
          (1 ≤ docket ∧ docket ≤ 200000000 ∧
            (((∃ e ∈ s.deliveries.entries, e.tank = k ∧ e.state.active = true) ∧ st = .alreadyExists) ∨
              ((∀ e ∈ s.deliveries.entries, e.tank = k → e.state.active = false) ∧ 8 ≤ s.deliveries.entries.length ∧
                st = .full))) →
        ∃ t, exec (.announceDelivery f k.val identity docket) s = .next t ∧ s.onlyAnswers t f 0x40#8 st .nothing)) ∧
    (∀ (n : Nat) (settle fixedTol propTol : Option Nat), findDelivery s.deliveries.entries n = none →
      s.takes f (.confirmDelivery f n settle fixedTol propTol) = true →
      ∃ t, exec (.confirmDelivery f n settle fixedTol propTol) s = .next t ∧ s.onlyAnswers t f 0x41#8 .notFound .nothing) ∧
    ∀ (n : Nat) (settle fixedTol propTol : Option Nat) (e : DeliveryEntry),
      s.takes f (.confirmDelivery f n settle fixedTol propTol) = true → findDelivery s.deliveries.entries n = some e →
      ((∀ v, settle = some v → 30 ≤ v ∧ v ≤ 900) → (∀ v, fixedTol = some v → v ≤ 10000000) →
        (∀ v, propTol = some v → v ≤ 100000) → e.state = .announced → s.inletBlocked e.tank = false →
        (s.tank e.tank).gaugeValid = true →
        ∃ t d c, exec (.confirmDelivery f n settle fixedTol propTol) s = .next t ∧ s.otherPorts t f.port ∧
          s.otherTanks t e.tank ∧ t = { s with deliveries := t.deliveries, tanks := t.tanks, ports := t.ports } ∧
          (t.tank e.tank).inlet = true ∧ (t.tank e.tank).window = none ∧ (t.tank e.tank).book = (s.tank e.tank).book ∧
          ((∀ x ∈ s.deliveries.entries, x.number = n → x = e) →
            t.deliveries =
              { s.deliveries with entries := s.deliveries.entries.map (fun x => if x.number = n then d else x) }) ∧
          d ∈ t.deliveries.entries ∧
          d =
            { e with
              state := .filling, timer := none, conf := some c
              flags := { e.flags with overTable := d.flags.overTable, clockUnset := e.flags.clockUnset || s.stamp.2 } } ∧
          (∀ lv, (s.tank e.tank).level = some lv →
            (d.flags.overTable = true ↔
              e.flags.overTable = true ∨ ∃ p, (s.tank e.tank).points.getLast? = some p ∧ p.1 < lv)) ∧ c.settle = settle.getD 120 ∧ c.fixedTol = fixedTol.getD 20000 ∧
          c.propTol = propTol.getD 5000 ∧
          (∀ lv, (s.tank e.tank).level = some lv → c.opening =
            gaugedNetOf (s.tank e.tank).points (s.tank e.tank).alpha lv ((s.tank e.tank).t10.getD 150)) ∧
          c.dispensed = (s.tank e.tank).drawnSince ∧ c.confirmTime = s.stamp.1 ∧
          t.answers f 0x41#8 .ok (.confirmed c.opening c.settle c.fixedTol c.propTol)) ∧
      (∀ st,
        (e.state ≠ .announced ∧ st = .wrongState) ∨
          (e.state = .announced ∧ st = .range ∧
            ((∃ v, settle = some v ∧ (v < 30 ∨ 900 < v)) ∨ (∃ v, fixedTol = some v ∧ 10000000 < v) ∨
              ∃ v, propTol = some v ∧ 100000 < v)) ∨
          (e.state = .announced ∧ (∀ v, settle = some v → 30 ≤ v ∧ v ≤ 900) ∧ (∀ v, fixedTol = some v → v ≤ 10000000) ∧
            (∀ v, propTol = some v → v ≤ 100000) ∧
            ((s.inletBlocked e.tank = true ∧ st = .tripped) ∨
              (s.inletBlocked e.tank = false ∧ (s.tank e.tank).gaugeValid = false ∧ st = .gauge))) →
        ∃ t, exec (.confirmDelivery f n settle fixedTol propTol) s = .next t ∧ s.onlyAnswers t f 0x41#8 st .nothing)

/-- R81, R85, R89: END_DELIVERY of a FILLING entry releases the inlet and starts the settle period, and of a SETTLING one
changes nothing; WITHDRAW_DELIVERY makes an ANNOUNCED entry WITHDRAWN and posts DELIVERY; RELEASE_DELIVERY frees an entry in a
terminal state. In any other state each is WRONG_STATE, and a number that no entry carries is NOT_FOUND. -/
def Obligations.DeliveryRequestsByState : Prop :=
  ∀ (s : State) (f : Frame) (n : Nat),
    (∀ e ∈ s.deliveries.entries, e.number = n → (∀ x ∈ s.deliveries.entries, x.number = n → x = e) →
      (s.takes f (.endDelivery f n) = true →
        (e.state = .filling → (∀ x ∈ s.deliveries.entries, x.tank = e.tank → x.state = .filling → x = e) →
          ∃ t d, exec (.endDelivery f n) s = .next t ∧ t.answers f 0x42#8 .ok .nothing ∧ s.otherTanks t e.tank ∧
            s.otherPorts t f.port ∧ t = { s with deliveries := t.deliveries, tanks := t.tanks, ports := t.ports } ∧
            t.tank e.tank = { s.tank e.tank with inlet := false } ∧
            t.deliveries =
              { s.deliveries with entries := s.deliveries.entries.map (fun x => if x.number = n then d else x) } ∧
            d.number = n ∧
            d.state = .settling ∧ d.endTime = some s.stamp.1 ∧ d.timer = e.conf.map (fun c => c.settle) ∧
            d.flags.interrupted = e.flags.interrupted ∧ d.conf = e.conf) ∧
        (e.state = .settling →
          ∃ t, exec (.endDelivery f n) s = .next t ∧ s.onlyAnswers t f 0x42#8 .ok .nothing) ∧
        (e.state.discharging = false →
          ∃ t, exec (.endDelivery f n) s = .next t ∧ s.onlyAnswers t f 0x42#8 .wrongState .nothing)) ∧
      (s.takes f (.withdrawDelivery f n) = true →
        (e.state = .announced →
          ∃ t d, exec (.withdrawDelivery f n) s = .next t ∧ t.answers f 0x43#8 .ok .nothing ∧
            t =
              { s with
                deliveries :=
                  { s.deliveries with entries := s.deliveries.entries.map (fun x => if x.number = n then d else x) }
                ports := t.ports } ∧
            d.state = .withdrawn ∧
            d.number = n ∧ d.flags.expired = e.flags.expired ∧ d.timer = none ∧ d.completeTime = some s.stamp.1 ∧
            ∀ i, holdsKind (t.port i).pendingSet .delivery = true) ∧
        (e.state ≠ .announced →
          ∃ t, exec (.withdrawDelivery f n) s = .next t ∧ s.onlyAnswers t f 0x43#8 .wrongState .nothing)) ∧
      (s.takes f (.releaseDelivery f n) = true →
        (e.state.active = false →
          ∃ t, exec (.releaseDelivery f n) s = .next t ∧ t.answers f 0x44#8 .ok .nothing ∧ s.otherPorts t f.port ∧
            t =
              { s with
                deliveries :=
                  { s.deliveries with entries := s.deliveries.entries.filter (fun x => decide (x.number ≠ n)) }
                ports := t.ports }) ∧
        (e.state.active = true →
          ∃ t, exec (.releaseDelivery f n) s = .next t ∧ s.onlyAnswers t f 0x44#8 .wrongState .nothing))) ∧
    (∀ cmd code, (cmd = .endDelivery f n ∧ code = 0x42#8) ∨ (cmd = .withdrawDelivery f n ∧ code = 0x43#8) ∨
        (cmd = .releaseDelivery f n ∧ code = 0x44#8) →
      s.takes f cmd = true → findDelivery s.deliveries.entries n = none →
      ∃ t, exec cmd s = .next t ∧ s.onlyAnswers t f code .notFound .nothing)

/-! ## Records, trips, sources (R139, R148, R152 to R158) -/

/-- R139, R156, R158: RELEASE_RECORDS and RELEASE_TRIPS remove the entries from the oldest through the one named, and nothing
where none carries the number; RELEASE_CAPTURE empties a FULL buffer. No reservation, source or block changes. -/
def Obligations.ReleasesRemoveFromTheOldest : Prop :=
  ∀ (s : State) (f : Frame) (n : Nat),
    (∀ pre r post, s.takes f (.releaseRecords f n) = true → s.records.completed = pre ++ r :: post → r.number = n →
      (∀ p ∈ pre, p.number ≠ n) →
      ∃ t, exec (.releaseRecords f n) s = .next t ∧ t.answers f 0x49#8 .ok (.released (pre.length + 1) post.length) ∧
        s.otherPorts t f.port ∧ t = { s with ports := t.ports, records := { s.records with completed := post } }) ∧
    (s.takes f (.releaseRecords f n) = true → (∀ r ∈ s.records.completed, r.number ≠ n) →
      ∃ t, exec (.releaseRecords f n) s = .next t ∧ s.onlyAnswers t f 0x49#8 .notFound .nothing) ∧
    (∀ pre e post, s.takes f (.releaseTrips f n) = true → s.spill.trips = pre ++ e :: post → e.number = n →
      (∀ p ∈ pre, p.number ≠ n) →
      ∃ t, exec (.releaseTrips f n) s = .next t ∧ t.answers f 0x53#8 .ok (.tripsReleased (pre.length + 1)) ∧
        s.otherPorts t f.port ∧ t = { s with ports := t.ports, spill := { s.spill with trips := post } }) ∧
    (s.takes f (.releaseTrips f n) = true → (∀ e ∈ s.spill.trips, e.number ≠ n) →
      ∃ t, exec (.releaseTrips f n) s = .next t ∧ s.onlyAnswers t f 0x53#8 .notFound .nothing) ∧
    (s.takes f (.releaseCapture f) = true →
      (∀ c, s.spill.capture = .full c →
        ∃ t, exec (.releaseCapture f) s = .next t ∧ t.answers f 0x54#8 .ok .nothing ∧ s.otherPorts t f.port ∧
          t = { s with ports := t.ports, spill := { s.spill with capture := .empty } }) ∧
      ((∀ c, s.spill.capture ≠ .full c) →
        ∃ t, exec (.releaseCapture f) s = .next t ∧ s.onlyAnswers t f 0x54#8 .wrongState .nothing))

/-- R148, R151, R153: REARM clears a TRIPPED source whose blanking is over and whose debounced condition is absent, changing
nothing else, and is refused otherwise; MANUAL_TRIP trips a CLEAR MANUAL source and else raises its count. -/
def Obligations.RearmAndManualTrip : Prop :=
  ∀ (s : State) (f : Frame),
    (∀ n i, sourceOf n = some i → s.takes f (.rearm f n) = true →
      ((s.source i).isTripped = false →
        ∃ t, exec (.rearm f n) s = .next t ∧ s.onlyAnswers t f 0x50#8 .wrongState .nothing) ∧
      ((s.source i).isTripped = true →
        (0 < (s.source i).blanking ∨ ((s.source i).enabled = true ∧ (s.source i).debounce ≤ (s.source i).run)) →
        ∃ t, exec (.rearm f n) s = .next t ∧ s.onlyAnswers t f 0x50#8 .stillActive .nothing) ∧
      ((s.source i).isTripped = true → (s.source i).blanking = 0 →
        ((s.source i).enabled = false ∨ (s.source i).run < (s.source i).debounce) →
        ∃ t, exec (.rearm f n) s = .next t ∧ t.answers f 0x50#8 .ok .nothing ∧ s.otherPorts t f.port ∧
          t = { s with ports := t.ports, spill := { s.spill with sources := t.spill.sources } } ∧
          t.source i = { s.source i with isTripped := false } ∧ (∀ j, j ≠ i → t.source j = s.source j) ∧
          (∀ l, t.laneBlocked l = true ↔ ∃ j, j ≠ i ∧ (s.source j).isTripped = true ∧ inSet (s.source j).lanes l = true) ∧
          ∀ k, t.inletBlocked k = true ↔ ∃ j, j ≠ i ∧ (s.source j).isTripped = true ∧ inSet (s.source j).inlets k = true)) ∧
    (∀ n, 29 < n → s.takes f (.rearm f n) = true →
      ∃ t, exec (.rearm f n) s = .next t ∧ s.onlyAnswers t f 0x50#8 .range .nothing) ∧
    (s.takes f (.manualTrip f) = true →
      ((s.source .manual).isTripped = false →
        ∃ t e, exec (.manualTrip f) s = .next t ∧ t.answers f 0x52#8 .ok (.manual true (some s.spill.nextTrip)) ∧
          (t.source .manual).isTripped = true ∧ e ∈ t.spill.trips ∧ e.number = s.spill.nextTrip ∧ e.source = .manual ∧
          (∀ l, inSet (s.source .manual).lanes l = true → t.laneBlocked l = true ∧ (t.lane l).state.endedByTrip = false) ∧
          (∀ k, inSet (s.source .manual).inlets k = true → (t.tank k).inlet = false) ∧
          ∀ i, holdsKind (t.port i).pendingSet .trip = true) ∧
      ((s.source .manual).isTripped = true →
        ∃ t, exec (.manualTrip f) s = .next t ∧ t.answers f 0x52#8 .ok (.manual false none) ∧ s.otherPorts t f.port ∧
          t = { s with ports := t.ports, spill := { s.spill with sources := t.spill.sources } } ∧
          t.source .manual =
            { s.source .manual with tripCount := min 255 ((s.source .manual).tripCount + 1) } ∧
          ∀ j, j ≠ .manual → t.source j = s.source j))

/-- R154: REARM ALL judges every TRIPPED source as R153 states, lists those that remain TRIPPED in index order, and answers
STILL_ACTIVE where the list is not empty. -/
def Obligations.RearmAllJudgesEverySource : Prop :=
  ∀ (s : State) (f : Frame), s.takes f (.rearmAll f) = true →
    ∃ t rest, exec (.rearmAll f) s = .next t ∧
      t.answers f 0x51#8 (if rest = [] then .ok else .stillActive) (.remaining rest) ∧
      rest = allSources.filter (fun i => (t.source i).isTripped) ∧
      (∀ i, t.source i =
        { s.source i with
          isTripped := (s.source i).isTripped &&
            (decide (0 < (s.source i).blanking) ||
              ((s.source i).enabled && decide ((s.source i).debounce ≤ (s.source i).run))) }) ∧
      (∀ l, t.laneBlocked l = true ↔ ∃ i ∈ rest, inSet (s.source i).lanes l = true) ∧
      (∀ k, t.inletBlocked k = true ↔ ∃ i ∈ rest, inSet (s.source i).inlets k = true) ∧ s.otherPorts t f.port ∧
      (t.port f.port).pendingSet = (s.port f.port).pendingSet ∧
      t = { s with ports := t.ports, spill := { s.spill with sources := t.spill.sources } }

/-- R86, R149 to R152: SET_SOURCE replaces the values of a source, keeps its state, and starts blanking where the enable, the
debounce count or a HOSE limit changes; a map change of a TRIPPED source ends the lanes it newly blocks with SPILL, releases the inlets it
newly blocks and interrupts their FILLING deliveries (R86), and adds no trip entry and no capture and posts no TRIP. ESTOP takes only its
own values, MANUAL is always enabled, an index above 29, a debounce count outside 1 to 255 or a hose limit above 9,999 is RANGE, and the unit form sets the capture sample count up to 32. R152: the reply carries the values
and then the state. That an enable of 1 enables the source is the model's reading (log 34), and so is the lane order of the records
that a map change files (log 10). -/
def Obligations.SetSourceKeepsItsState : Prop :=
  ∀ (s : State) (f : Frame),
    (∀ n i v, sourceOf n = some i → s.takes f (.setSource f n v) = true →
      (i ≠ .estop → i ≠ .manual → v.enable ≤ 1 → v.clearCount ≤ 1 → 1 ≤ v.debounce → v.debounce ≤ 255 → v.hoseLimit ≤ 9999 →
        ∃ t, exec (.setSource f n v) s = .next t ∧
          t.answers f 0x5A#8 .ok
            (.sourceSet
              { enabled := (t.source i).enabled, debounce := some v.debounce,
                hoseLimit := if ∃ l, i = .hose l then some v.hoseLimit else none, lanes := v.lanes, inlets := v.inlets,
                isTripped := (s.source i).isTripped }) ∧
          (t.source i).isTripped = (s.source i).isTripped ∧ (t.source i).enabled = decide (v.enable = 1) ∧
          (t.source i).debounce = v.debounce ∧ (t.source i).lanes = v.lanes ∧ (t.source i).inlets = v.inlets ∧
          (t.source i).tripCount = (if v.clearCount = 1 then 0 else (s.source i).tripCount) ∧
          (∀ j, j ≠ i → t.source j = s.source j) ∧
          ((s.source i).enabled ≠ decide (v.enable = 1) ∨ (s.source i).debounce ≠ v.debounce →
            (t.source i).run = 0 ∧ (t.source i).blanking = 4) ∧
          (∀ l : Lane, i = .hose l → (t.source i).hoseLimit = v.hoseLimit ∧
            ((s.source i).hoseLimit ≠ v.hoseLimit → (t.source i).run = 0 ∧ (t.source i).blanking = 4)) ∧
          ((s.source i).enabled = decide (v.enable = 1) → (s.source i).debounce = v.debounce →
            (s.source i).hoseLimit = v.hoseLimit →
            (t.source i).run = (s.source i).run ∧ (t.source i).blanking = (s.source i).blanking) ∧
          ((s.source i).isTripped = false → t = { s with spill := t.spill, ports := t.ports }) ∧
          t.spill = { s.spill with sources := t.spill.sources } ∧
          (∀ j, holdsKind (t.port j).pendingSet .trip = holdsKind (s.port j).pendingSet .trip) ∧
          ((s.source i).isTripped = true →
            (∀ l, inSet v.lanes l = true → s.laneBlocked l = false →
              t.laneBlocked l = true ∧ (t.lane l).state.endedByTrip = false) ∧
            (∀ l, ¬(inSet v.lanes l = true ∧ s.laneBlocked l = false) → t.lane l = s.lane l) ∧
            (∃ xs, t.records.completed = s.records.completed ++ xs ∧
              s.endsLanes t (fun l => inSet v.lanes l && !s.laneBlocked l) .spill xs) ∧
            (∀ k, inSet v.inlets k = true → s.inletBlocked k = false →
              t.inletBlocked k = true ∧ (t.tank k).inlet = false) ∧
            t.deliveries =
              { s.deliveries with
                entries :=
                  s.deliveries.entries.map
                    (DeliveryEntry.interruptedAt (fun k => inSet v.inlets k && !s.inletBlocked k) s.stamp) })) ∧
      (i ≠ .estop → i ≠ .manual →
        (1 < v.enable ∨ 1 < v.clearCount ∨ v.debounce = 0 ∨ 255 < v.debounce ∨ (9999 < v.hoseLimit ∧ ∃ l, i = .hose l)) →
        ∃ t, exec (.setSource f n v) s = .next t ∧ s.onlyAnswers t f 0x5A#8 .range .nothing) ∧
      (i = .manual ∨ (i = .estop ∧ v.debounce = 1 ∧ v.lanes = 0xFF#8 ∧ v.inlets = 0xFF#8) → v.enable = 1 →
        v.clearCount ≤ 1 →
        ∃ t, exec (.setSource f n v) s = .next t ∧
          t.answers f 0x5A#8 .ok
            (.sourceSet
              { enabled := true, debounce := if i = .manual then none else some 1, hoseLimit := none, lanes := v.lanes,
                inlets := v.inlets, isTripped := (s.source i).isTripped }) ∧
          (t.source i).isTripped = (s.source i).isTripped ∧ (t.source i).lanes = v.lanes ∧
          (t.source i).inlets = v.inlets ∧
          (t.source i).tripCount = (if v.clearCount = 1 then 0 else (s.source i).tripCount) ∧
          ∀ j, j ≠ i → t.source j = s.source j) ∧
      (i = .estop → v.enable = 0 ∨ v.debounce ≠ 1 ∨ v.lanes ≠ 0xFF#8 ∨ v.inlets ≠ 0xFF#8 →
        ∃ t, exec (.setSource f n v) s = .next t ∧ s.onlyAnswers t f 0x5A#8 .range .nothing) ∧
      (i = .manual → v.enable = 0 →
        ∃ t, exec (.setSource f n v) s = .next t ∧ s.onlyAnswers t f 0x5A#8 .range .nothing)) ∧
    (∀ n v, 29 < n → s.takes f (.setSource f n v) = true →
      ∃ t, exec (.setSource f n v) s = .next t ∧ s.onlyAnswers t f 0x5A#8 .range .nothing) ∧
    ∀ m, s.takes f (.setSourceUnit f m) = true →
      (m ≤ 32 → ∃ t, exec (.setSourceUnit f m) s = .next t ∧ t.answers f 0x5B#8 .ok (.captureCount m) ∧
        s.otherPorts t f.port ∧ t = { s with ports := t.ports, spill := { s.spill with captureCount := m } }) ∧
      (32 < m → ∃ t, exec (.setSourceUnit f m) s = .next t ∧ s.onlyAnswers t f 0x5B#8 .range .nothing)

/-! ## Configuration and calibration (R23 to R25, R31, R55, R61, R149, R163 to R168) -/

/-- R31, R149, R182: SET_LANE replaces a lane's configuration in DISABLED, and in IDLE when the binding stays; a changed creep limit
blanks HOSE Ln. R55, R149: SET_TANK replaces a tank's configuration while it has no allocation and no discharge, clamps the
reserve, and keeps the book and the calibration; a changed threshold or zone debounce count sets the four runs to 0, a changed loss limit
or loss window discards the window, a gauge removed takes its readings with it, and a changed HIGH_HIGH or loss limit blanks the source it
feeds. R182: in SET_LANE, SET_TANK and every other request that names a lane or a tank, a number above 7 addresses nothing: the
request passes or fails on its class alone, and is then RANGE. A value outside
its range is RANGE: before WRONG_STATE in SET_LANE, which is the model's reading (log 30). That the window of a tank that loses
its gauge is discarded in the same event (R74: a condition of the watch has failed) is the model's reading too (log 12), and so is
that a gauge fitted of 1 is yes (log 34), and that OVER_TABLE stays as it was when the gauge is taken away (log 31). -/
def Obligations.LaneAndTankConfiguration : Prop :=
  ∀ (s : State) (f : Frame),
    (∀ (l : Lane) (v : LaneSetting), s.takes f (.setLane f l.val v) = true →
      (v.tank < 8 → v.slowStart ≤ 100000 → v.slowdown ≤ 100000 → 10 ≤ v.authTime → v.authTime ≤ 600 → 1 ≤ v.noFlowTime →
        v.noFlowTime ≤ 30 → 1 ≤ v.settleTime → v.settleTime ≤ 10 → v.overrunLimit ≤ 10000 → 1 ≤ v.miscountLimit →
        v.miscountLimit ≤ 15 → v.reverseLimit ≤ 10000 → 1 ≤ v.creepLimit → v.creepLimit ≤ 100000 →
        ((s.lane l).state = .disabled ∨ ((s.lane l).state = .idle ∧ v.tank = (s.lane l).cfg.tank.val) →
          ∃ t c, exec (.setLane f l.val v) s = .next t ∧ t.answers f 0x58#8 .ok .nothing ∧ s.otherPorts t f.port ∧
            s.otherLanes t l ∧ t.lane l = { s.lane l with cfg := c } ∧ c.tank.val = v.tank ∧ c.slowStart = v.slowStart ∧
            c.slowdown = v.slowdown ∧ c.authTime = v.authTime ∧ c.noFlowTime = v.noFlowTime ∧ c.settleTime = v.settleTime ∧
            c.overrunLimit = v.overrunLimit ∧ c.miscountLimit = v.miscountLimit ∧ c.reverseLimit = v.reverseLimit ∧
            c.creepLimit = v.creepLimit ∧
            t = { s with lanes := t.lanes, ports := t.ports, spill := { s.spill with sources := t.spill.sources } } ∧
            (∀ j, j ≠ .hose l → t.source j = s.source j) ∧
            t.source (.hose l) =
              (if v.creepLimit = (s.lane l).cfg.creepLimit then s.source (.hose l)
              else { s.source (.hose l) with run := 0, blanking := 4 })) ∧
        ((s.lane l).state.isOpen = true ∨ ((s.lane l).state = .idle ∧ v.tank ≠ (s.lane l).cfg.tank.val) →
          ∃ t, exec (.setLane f l.val v) s = .next t ∧ s.onlyAnswers t f 0x58#8 .wrongState .nothing)) ∧
      ((7 < v.tank ∨ 100000 < v.slowStart ∨ 100000 < v.slowdown ∨ v.authTime < 10 ∨ 600 < v.authTime ∨ v.noFlowTime = 0 ∨
          30 < v.noFlowTime ∨ v.settleTime = 0 ∨ 10 < v.settleTime ∨ 10000 < v.overrunLimit ∨ v.miscountLimit = 0 ∨
          15 < v.miscountLimit ∨ 10000 < v.reverseLimit ∨ v.creepLimit = 0 ∨ 100000 < v.creepLimit) →
        ∃ t, exec (.setLane f l.val v) s = .next t ∧ s.onlyAnswers t f 0x58#8 .range .nothing)) ∧
    (∀ cmd code k, cmd.requestFrame = some f → requestCode cmd = some code → cmd.namesBeyond = true →
      cmd.requestClass = some k → s.device.phase = .running → (s.port f.port).ready = true →
      ((s.port f.port).level ≤ s.ports.openLevel ∨ (s.port f.port).denial.classes.getLsbD k.index = false →
        ∃ t, exec cmd s = .next t ∧ s.onlyAnswers t f code .range .nothing) ∧
      (s.ports.openLevel < (s.port f.port).level → (s.port f.port).denial.classes.getLsbD k.index = true →
        ∃ t, exec cmd s = .next t ∧ s.onlyAnswers t f code .denied .nothing)) ∧
    ∀ (k : Tank) (v : TankSetting), s.takes f (.setTank f k.val v) = true →
      (∀ cls, productClassOf v.cls = some cls → v.gaugeFitted ≤ 1 → 1 ≤ v.capacity → v.capacity ≤ 2000000000 →
        v.lowLow < v.low → v.low < v.high → v.high < v.highHigh → v.highHigh ≤ 200000 → v.zoneDebounce ≤ 255 →
        v.minFill ≤ 2000000 → v.lossLimit ≤ 10000000 → 60 ≤ v.lossWindow → v.lossWindow ≤ 3600 →
        ((s.tank k).draws = [] → s.discharging k = false →
          ∃ t c, exec (.setTank f k.val v) s = .next t ∧ t.answers f 0x59#8 .ok .nothing ∧ s.otherPorts t f.port ∧
            s.otherTanks t k ∧
            t = { s with tanks := t.tanks, ports := t.ports, spill := { s.spill with sources := t.spill.sources } } ∧
            (t.tank k).cfg = c ∧ c.cls = cls ∧ c.capacity = v.capacity ∧
            c.gaugeFitted = decide (v.gaugeFitted = 1) ∧ c.lowLow = v.lowLow ∧ c.low = v.low ∧ c.high = v.high ∧
            c.highHigh = v.highHigh ∧ c.zoneDebounce = v.zoneDebounce ∧ c.minFill = v.minFill ∧
            c.lossLimit = v.lossLimit ∧ c.lossWindow = v.lossWindow ∧
            (t.tank k).reserve = min (s.tank k).reserve v.capacity ∧ (t.tank k).book = (s.tank k).book ∧
            (t.tank k).alpha = (s.tank k).alpha ∧ (t.tank k).points = (s.tank k).points ∧
            ((s.tank k).cfg.gaugeFitted = true → v.gaugeFitted = 0 →
              t.tank k =
                { s.tank k with
                  cfg := c, reserve := min (s.tank k).reserve v.capacity, level := none, t10 := none, gaugedNet := none
                  gaugeValid := false, invalid := 0, runs := ⟨0, 0, 0, 0⟩, rawZone := .normal, zone := .normal
                  window := none, lossCond := (t.tank k).lossCond, noGaugeTimer := some 1 } ∧
              ((s.tank k).window.isSome = true → (t.tank k).lossCond = false)) ∧
            (((s.tank k).cfg.gaugeFitted = false ∨ v.gaugeFitted = 1) →
              t.tank k =
                { s.tank k with
                  cfg := c, reserve := min (s.tank k).reserve v.capacity, runs := (t.tank k).runs
                  window := (t.tank k).window, lossCond := (t.tank k).lossCond, noGaugeTimer := (t.tank k).noGaugeTimer } ∧
              (t.tank k).noGaugeTimer =
                (if (s.tank k).cfg.gaugeFitted = false ∧ v.gaugeFitted = 1 then none else (s.tank k).noGaugeTimer) ∧
              (v.lowLow ≠ (s.tank k).cfg.lowLow ∨ v.low ≠ (s.tank k).cfg.low ∨ v.high ≠ (s.tank k).cfg.high ∨
                  v.highHigh ≠ (s.tank k).cfg.highHigh ∨ v.zoneDebounce ≠ (s.tank k).cfg.zoneDebounce →
                (t.tank k).runs = ⟨0, 0, 0, 0⟩) ∧
              (v.lowLow = (s.tank k).cfg.lowLow → v.low = (s.tank k).cfg.low → v.high = (s.tank k).cfg.high →
                v.highHigh = (s.tank k).cfg.highHigh → v.zoneDebounce = (s.tank k).cfg.zoneDebounce →
                (t.tank k).runs = (s.tank k).runs) ∧
              (v.lossLimit ≠ (s.tank k).cfg.lossLimit ∨ v.lossWindow ≠ (s.tank k).cfg.lossWindow →
                (t.tank k).window = none ∧ (t.tank k).lossCond = false) ∧
              (v.lossLimit = (s.tank k).cfg.lossLimit → v.lossWindow = (s.tank k).cfg.lossWindow →
                (t.tank k).window = (s.tank k).window ∧ (t.tank k).lossCond = (s.tank k).lossCond)) ∧
            t.source (.overfill k) =
              (if v.highHigh = (s.tank k).cfg.highHigh then s.source (.overfill k)
              else { s.source (.overfill k) with run := 0, blanking := 4 }) ∧
            t.source (.loss k) =
              (if v.lossLimit = (s.tank k).cfg.lossLimit then s.source (.loss k)
              else { s.source (.loss k) with run := 0, blanking := 4 }) ∧
            ∀ i, i ≠ .overfill k → i ≠ .loss k → t.source i = s.source i) ∧
        ((s.tank k).draws ≠ [] ∨ s.discharging k = true →
          ∃ t, exec (.setTank f k.val v) s = .next t ∧ s.onlyAnswers t f 0x59#8 .wrongState .nothing)) ∧
      ((2 < v.cls ∨ 1 < v.gaugeFitted ∨ v.capacity = 0 ∨ 2000000000 < v.capacity ∨ v.low ≤ v.lowLow ∨ v.high ≤ v.low ∨
          v.highHigh ≤ v.high ∨ 200000 < v.highHigh ∨ 255 < v.zoneDebounce ∨ 2000000 < v.minFill ∨
          10000000 < v.lossLimit ∨ v.lossWindow < 60 ∨ 3600 < v.lossWindow) →
        ∃ t, exec (.setTank f k.val v) s = .next t ∧ s.onlyAnswers t f 0x59#8 .range .nothing)

/-- R23 to R25, R61, R166, R167: a guarded request with values in range is refused with LOCKED while the lock is shut, with
WRONG_STATE while the lane is open or the tank takes a discharge, and is else accepted: the parameters replaced, the change
count raised, CAL posted. R164: LOCK_CAL of an UNLOCKED lock stores a code that is not 0, or makes the lock PERMANENT, posts
CAL and leaves the change count; a shut lock refuses it. -/
def Obligations.GuardedRequestsChangeCalibration : Prop :=
  ∀ (s : State) (f : Frame) (l : Lane) (k : Tank) (v : MeterSetting) (alpha : Nat) (points : List (Nat × Nat)),
    meterInRange v = true → alpha ≤ 2000 → pointsInRange points = true →
    (∀ cmd code, (cmd = .setMeter f l.val v ∧ code = 0x68#8) ∨ (cmd = .setProduct f k.val alpha ∧ code = 0x69#8) ∨
        (cmd = .setStrapping f k.val points ∧ code = 0x6A#8) →
      s.takes f cmd = true → s.cal.lock ≠ .unlocked →
      ∃ t, exec cmd s = .next t ∧ s.onlyAnswers t f code .locked .nothing) ∧
    (s.cal.lock = .unlocked →
      (∀ cmd code, (cmd = .setMeter f l.val v ∧ code = 0x68#8 ∧ (s.lane l).state.isOpen = true) ∨
          (cmd = .setProduct f k.val alpha ∧ code = 0x69#8 ∧ s.discharging k = true) ∨
          (cmd = .setStrapping f k.val points ∧ code = 0x6A#8 ∧ s.discharging k = true) →
        s.takes f cmd = true → ∃ t, exec cmd s = .next t ∧ s.onlyAnswers t f code .wrongState .nothing) ∧
      (s.takes f (.setMeter f l.val v) = true → (s.lane l).state.isOpen = false →
        ∃ t, exec (.setMeter f l.val v) s = .next t ∧
          t.answers f 0x68#8 .ok (.calChanges (min 65535 (s.cal.changes + 1))) ∧
          t = { s with lanes := t.lanes, ports := t.ports,
                       cal := { s.cal with changes := min 65535 (s.cal.changes + 1) } } ∧ s.otherLanes t l ∧
          t.lane l = { s.lane l with meter := (t.lane l).meter } ∧ (t.lane l).meter.params = v ∧
          (t.lane l).meter.consec = 0 ∧ (t.lane l).meter.creepAcc = 0 ∧ (t.lane l).meter.creepGross = 0 ∧
          (t.lane l).meter.creepCond = false ∧ (t.lane l).meter.ivExists = false ∧
          (t.lane l).meter.totalizer = (s.lane l).meter.totalizer ∧
          (t.lane l).meter.creepTotal = (s.lane l).meter.creepTotal ∧
          ∀ i, holdsKind (t.port i).pendingSet .cal = true) ∧
      (s.takes f (.setProduct f k.val alpha) = true → s.discharging k = false →
        ∃ t, exec (.setProduct f k.val alpha) s = .next t ∧
          t.answers f 0x69#8 .ok (.calChanges (min 65535 (s.cal.changes + 1))) ∧
          t = { s with tanks := t.tanks, ports := t.ports,
                       cal := { s.cal with changes := min 65535 (s.cal.changes + 1) } } ∧ s.otherTanks t k ∧
          t.tank k = { s.tank k with alpha := alpha, window := none, lossCond := false } ∧
          ∀ i, holdsKind (t.port i).pendingSet .cal = true) ∧
      (s.takes f (.setStrapping f k.val points) = true → s.discharging k = false →
        ∃ t, exec (.setStrapping f k.val points) s = .next t ∧
          t.answers f 0x6A#8 .ok (.calChanges (min 65535 (s.cal.changes + 1))) ∧
          t = { s with tanks := t.tanks, ports := t.ports,
                       cal := { s.cal with changes := min 65535 (s.cal.changes + 1) } } ∧ s.otherTanks t k ∧
          t.tank k = { s.tank k with points := points, window := none, lossCond := false } ∧
          ∀ i, holdsKind (t.port i).pendingSet .cal = true)) ∧
    ∀ code : Nat, s.takes f (.lockCal f code) = true →
      (s.cal.lock = .unlocked →
        ∃ t, exec (.lockCal f code) s = .next t ∧ t.answers f 0x6B#8 .ok .nothing ∧
          t = { s with ports := t.ports, cal := { s.cal with lock := t.cal.lock } } ∧
          (code ≠ 0 → t.cal.lock = .locked code) ∧ (code = 0 → t.cal.lock = .permanent) ∧
          ∀ i, holdsKind (t.port i).pendingSet .cal = true) ∧
      (s.cal.lock ≠ .unlocked →
        ∃ t, exec (.lockCal f code) s = .next t ∧ s.onlyAnswers t f 0x6B#8 .wrongState .nothing)

/-- R165: UNLOCK_CAL by lock state, failed-attempt count and code: only the stored code, before three failures, opens the
lock; a code of 0 never matches; from a port above level 0 the request is DENIED and the lock keeps its count. -/
def Obligations.UnlockCalNeedsTheCode : Prop :=
  ∀ (s : State) (f : Frame) (code : Nat),
    (s.takes f (.unlockCal f code) = true →
      (s.cal.lock = .unlocked →
        ∃ t, exec (.unlockCal f code) s = .next t ∧ s.onlyAnswers t f 0x6C#8 .wrongState .nothing) ∧
      (s.cal.lock = .permanent →
        ∃ t, exec (.unlockCal f code) s = .next t ∧ s.onlyAnswers t f 0x6C#8 .locked .nothing) ∧
      (∀ c, s.cal.lock = .locked c →
        (s.cal.failed ≤ 2 → code = c → code ≠ 0 →
          ∃ t, exec (.unlockCal f code) s = .next t ∧ t.answers f 0x6C#8 .ok .nothing ∧
            t = { s with ports := t.ports, cal := { lock := .unlocked, failed := 0, changes := s.cal.changes } } ∧
            ∀ i, holdsKind (t.port i).pendingSet .cal = true) ∧
        (s.cal.failed ≤ 2 → (code ≠ c ∨ code = 0) →
          ∃ t, exec (.unlockCal f code) s = .next t ∧ t.answers f 0x6C#8 .locked .nothing ∧ s.otherPorts t f.port ∧
            t = { s with ports := t.ports, cal := { s.cal with failed := s.cal.failed + 1 } }) ∧
        (3 ≤ s.cal.failed →
          ∃ t, exec (.unlockCal f code) s = .next t ∧ s.onlyAnswers t f 0x6C#8 .locked .nothing))) ∧
    (s.device.phase = .running → (s.port f.port).ready = true → (s.port f.port).level ≠ 0 →
      ∃ t, exec (.unlockCal f code) s = .next t ∧ s.onlyAnswers t f 0x6C#8 .denied .nothing)

/-! ## Laws that every command keeps -/

/-- R29, R38, R69, R72, R84, R151: from any state that meets it, every command keeps each safety law: valves energized only in
DELIVERING, no flowing lane blocked or on a LOW_LOW tank, no pump run there, no inlet open while blocked or not RUNNING. -/
def Obligations.EveryStepKeepsSafetyLaws : Prop :=
  ∀ (s t : State), Sys2Proof.Machine.step s = .next t →
    (ValveLaw s → ValveLaw t) ∧ (FlowLaw s → FlowLaw t) ∧ (InletLaw s → InletLaw t)

/-- R62, R64, R66: from any state whose books hold their allocations, every command keeps it so: no book goes out of range and
the remaining allocations of a tank never exceed its book. -/
def Obligations.EveryStepKeepsStockLaw : Prop := ∀ (s t : State), Sys2Proof.Machine.step s = .next t → StockLaw s → StockLaw t

/-- R28, R34, R46, R126, R128, R130, R172: from any state that meets it, every command keeps completed records and reservations within 64,
and a reservation with exactly the lanes that hold a context: no transaction is left without room for its record. R28, R34, R46: a lane holds a context
exactly while its transaction is open. -/
def Obligations.EveryStepKeepsRecordLaw : Prop :=
  ∀ (s t : State), Sys2Proof.Machine.step s = .next t → (RecordLaw s → RecordLaw t) ∧ (ContextLaw s → ContextLaw t)

/-- R19, R78, R93, R114, R155, R174, R175, R184, R195: every command keeps a port at level 0, the event sets to the kinds there are,
the totalizers below their modulus, the delivery, order and trip lists within their places, at most one account to a slot, and each
port RECEIVING exactly while its buffer holds characters, its counters within 255. -/
def Obligations.EveryStepKeepsTableLaws : Prop :=
  ∀ (s t : State), Sys2Proof.Machine.step s = .next t →
    (AccessLaw s → AccessLaw t) ∧ (EventLaw s → EventLaw t) ∧ (TotalizerLaw s → TotalizerLaw t) ∧ (ListLaw s → ListLaw t) ∧
      (AccountLaw s → AccountLaw t) ∧ (ReceiveLaw s → ReceiveLaw t)

/-- R163, R166, R170: while the lock is shut and the format marker is present, no command changes a calibration parameter, and
a PERMANENT lock stays PERMANENT. -/
def Obligations.ShutLockGuardsCalibration : Prop :=
  ∀ (c : Instr) (s t : State), exec c s = .next t → s.device.formatMarker = true → s.cal.lock ≠ .unlocked →
    s.sameCalibration t ∧ (s.cal.lock = .permanent → t.cal.lock = .permanent)

/-- The state after reset meets every law: R28, R29, R62, R69, R84, R126, R174, R175, R184, R195. Its start in RESTORING with a factory-written
store is the model's choice (log 1). -/
def Obligations.ResetMeetsEveryLaw : Prop :=
  ValveLaw State.reset ∧ FlowLaw State.reset ∧ InletLaw State.reset ∧ StockLaw State.reset ∧ RecordLaw State.reset ∧
    AccessLaw State.reset ∧ EventLaw State.reset ∧ TotalizerLaw State.reset ∧ ListLaw State.reset ∧ AccountLaw State.reset ∧
    ReceiveLaw State.reset ∧ ContextLaw State.reset
end

