-- ==== Sys2Proof/Laws/Containers.lean ====
section
/-! SUPPORT. Reading back what was written: the eight lanes or tanks, the three ports, the thirty sources, and sets of eight. -/

namespace Sys2Proof

open Machine

/-! ## Eight like things -/

@[simp] theorem Eight.get_set_same {α : Type} (v : Eight α) (i : Fin 8) (x : α) : (v.set i x).get i = x := by
  fin_cases i <;> rfl

theorem Eight.get_set_ne {α : Type} (v : Eight α) (i j : Fin 8) (x : α) (h : j ≠ i) : (v.set i x).get j = v.get j := by
  fin_cases i <;> fin_cases j <;> first | rfl | exact absurd rfl h

theorem Eight.get_set {α : Type} (v : Eight α) (i j : Fin 8) (x : α) :
    (v.set i x).get j = if j = i then x else v.get j := by
  by_cases h : j = i
  · subst h; simp
  · simp [h, Eight.get_set_ne v i j x h]

@[simp] theorem Eight.get_ofFn {α : Type} (f : Fin 8 → α) (i : Fin 8) : (Eight.ofFn f).get i = f i := by
  fin_cases i <;> rfl

@[simp] theorem Eight.get_map {α β : Type} (f : α → β) (v : Eight α) (i : Fin 8) : (v.map f).get i = f (v.get i) := by
  fin_cases i <;> rfl

@[simp] theorem Eight.set_set {α : Type} (v : Eight α) (i : Fin 8) (x y : α) : (v.set i x).set i y = v.set i y := by
  fin_cases i <;> rfl

@[simp] theorem Eight.set_get {α : Type} (v : Eight α) (i : Fin 8) : v.set i (v.get i) = v := by
  fin_cases i <;> rfl

theorem Eight.ext_get {α : Type} {v w : Eight α} (h : ∀ i, v.get i = w.get i) : v = w := by
  have h0 := h 0; have h1 := h 1; have h2 := h 2; have h3 := h 3
  have h4 := h 4; have h5 := h 5; have h6 := h 6; have h7 := h 7
  cases v; cases w; simp_all [Eight.get]

theorem mem_allEight (i : Fin 8) : i ∈ allEight := by fin_cases i <;> decide

theorem allEight_nodup : allEight.Nodup := by decide

/-! ## Sets of eight -/

theorem inSet_bit8 (i j : Fin 8) : inSet (bit8 i) j = decide (j = i) := by
  revert i j; decide

theorem inSet_or (a b : BitVec 8) (i : Fin 8) : inSet (a ||| b) i = (inSet a i || inSet b i) := by simp [inSet]

theorem inSet_and (a b : BitVec 8) (i : Fin 8) : inSet (a &&& b) i = (inSet a i && inSet b i) := by simp [inSet]

theorem inSet_not (a : BitVec 8) (i : Fin 8) : inSet (~~~a) i = !inSet a i := by simp [inSet]

@[simp] theorem inSet_zero (i : Fin 8) : inSet 0#8 i = false := by simp [inSet]

/-- A set of eight is its members. -/
theorem set_ext {a b : BitVec 8} (h : ∀ i, inSet a i = inSet b i) : a = b := by
  apply BitVec.eq_of_getLsbD_eq
  intro i hi
  exact h ⟨i, hi⟩

@[simp] theorem inSet_setOf (p : Fin 8 → Bool) (i : Fin 8) : inSet (setOf p) i = p i := by
  have key : ∀ b0 b1 b2 b3 b4 b5 b6 b7 : Bool, ∀ i : Fin 8,
      inSet (setOf (fun j => [b0, b1, b2, b3, b4, b5, b6, b7].getD j.val false)) i =
        [b0, b1, b2, b3, b4, b5, b6, b7].getD i.val false := by decide
  have hp : p = fun j => [p 0, p 1, p 2, p 3, p 4, p 5, p 6, p 7].getD j.val false := by
    funext j; fin_cases j <;> rfl
  rw [hp]; exact key _ _ _ _ _ _ _ _ i

/-- A set of eight names at most eight. -/
theorem setCount_le (s : BitVec 8) : setCount s ≤ 8 := by
  unfold setCount
  exact le_trans (List.length_filter_le _ _) (by decide)

theorem setCount_zero : setCount 0#8 = 0 := by decide

/-- Adding a lane that a set does not name raises its count by one. -/
theorem setCount_add (s : BitVec 8) (i : Fin 8) (h : inSet s i = false) : setCount (s ||| bit8 i) = setCount s + 1 := by
  revert s i; decide

/-- Removing a lane that a set names lowers its count by one. -/
theorem setCount_remove (s : BitVec 8) (i : Fin 8) (h : inSet s i = true) :
    setCount (s &&& ~~~(bit8 i)) + 1 = setCount s := by
  revert s i; decide

/-- Adding a lane that a set names changes nothing. -/
theorem set_add_mem (s : BitVec 8) (i : Fin 8) (h : inSet s i = true) : s ||| bit8 i = s := by
  revert s i; decide

end Sys2Proof

namespace Sys2Proof.Machine

/-! ## The three ports -/

@[simp] theorem Ports.get_set_same (ps : Ports) (i : PortId) (p : Port) : (ps.set i p).get i = p := by cases i <;> rfl

theorem Ports.get_set_ne (ps : Ports) (i j : PortId) (p : Port) (h : j ≠ i) : (ps.set i p).get j = ps.get j := by
  cases i <;> cases j <;> first | rfl | exact absurd rfl h

@[simp] theorem Ports.get_map (f : Port → Port) (ps : Ports) (i : PortId) : (ps.map f).get i = f (ps.get i) := by
  cases i <;> rfl

@[simp] theorem Ports.set_set (ps : Ports) (i : PortId) (p q : Port) : (ps.set i p).set i q = ps.set i q := by cases i <;> rfl

@[simp] theorem Ports.set_get (ps : Ports) (i : PortId) : ps.set i (ps.get i) = ps := by cases i <;> rfl

@[simp] theorem Ports.set_openLevel (ps : Ports) (i : PortId) (p : Port) : (ps.set i p).openLevel = ps.openLevel := by
  cases i <;> rfl

@[simp] theorem Ports.map_openLevel (f : Port → Port) (ps : Ports) : (ps.map f).openLevel = ps.openLevel := rfl

/-! ## The thirty sources -/

@[simp] theorem Sources.get_set_same (s : Sources) (i : SourceId) (x : Source) : (s.set i x).get i = x := by
  cases i with
  | sump n => fin_cases n <;> rfl
  | _ => simp [Sources.get, Sources.set]

theorem Sources.get_set_ne (s : Sources) (i j : SourceId) (x : Source) (h : j ≠ i) : (s.set i x).get j = s.get j := by
  cases i with
  | sump n =>
    cases j with
    | sump m => fin_cases n <;> fin_cases m <;> first | rfl | exact absurd rfl h
    | _ => fin_cases n <;> rfl
  | hose l =>
    cases j with
    | hose m => exact Eight.get_set_ne _ _ _ _ (fun e => h (e ▸ rfl))
    | _ => rfl
  | overfill l =>
    cases j with
    | overfill m => exact Eight.get_set_ne _ _ _ _ (fun e => h (e ▸ rfl))
    | _ => rfl
  | loss l =>
    cases j with
    | loss m => exact Eight.get_set_ne _ _ _ _ (fun e => h (e ▸ rfl))
    | _ => rfl
  | _ => cases j <;> first | rfl | exact absurd rfl h

@[simp] theorem Sources.get_map (f : Source → Source) (s : Sources) (i : SourceId) : (s.map f).get i = f (s.get i) := by
  cases i with
  | sump n => fin_cases n <;> rfl
  | _ => simp [Sources.get, Sources.map]

theorem mem_allSources (i : SourceId) : i ∈ allSources := by
  cases i with
  | sump n => fin_cases n <;> decide
  | hose l => fin_cases l <;> decide
  | overfill l => fin_cases l <;> decide
  | loss l => fin_cases l <;> decide
  | _ => decide

/-- The source numbered by its index is itself. -/
theorem sourceOf_sourceIndex (i : SourceId) : sourceOf (sourceIndex i) = some i := by
  cases i with
  | sump n => fin_cases n <;> decide
  | hose l => fin_cases l <;> decide
  | overfill l => fin_cases l <;> decide
  | loss l => fin_cases l <;> decide
  | _ => decide

end Sys2Proof.Machine
end

