-- ==== Sys2Proof/Laws/State.lean ====
section
/-! SUPPORT. One lemma per field per update of State, true by rfl, and reading a unit back after an update. -/

namespace Sys2Proof.Machine

/-! ## State.setLane -/

@[simp] theorem State.setLane_device (s : State) (l : Lane) (u : LaneUnit) : (s.setLane l u).device = s.device := rfl

@[simp] theorem State.setLane_bus (s : State) (l : Lane) (u : LaneUnit) : (s.setLane l u).bus = s.bus := rfl

@[simp] theorem State.setLane_time (s : State) (l : Lane) (u : LaneUnit) : (s.setLane l u).time = s.time := rfl

@[simp] theorem State.setLane_ports (s : State) (l : Lane) (u : LaneUnit) : (s.setLane l u).ports = s.ports := rfl

@[simp] theorem State.setLane_tanks (s : State) (l : Lane) (u : LaneUnit) : (s.setLane l u).tanks = s.tanks := rfl

@[simp] theorem State.setLane_deliveries (s : State) (l : Lane) (u : LaneUnit) : (s.setLane l u).deliveries = s.deliveries := rfl

@[simp] theorem State.setLane_accounts (s : State) (l : Lane) (u : LaneUnit) : (s.setLane l u).accounts = s.accounts := rfl

@[simp] theorem State.setLane_orders (s : State) (l : Lane) (u : LaneUnit) : (s.setLane l u).orders = s.orders := rfl

@[simp] theorem State.setLane_records (s : State) (l : Lane) (u : LaneUnit) : (s.setLane l u).records = s.records := rfl

@[simp] theorem State.setLane_spill (s : State) (l : Lane) (u : LaneUnit) : (s.setLane l u).spill = s.spill := rfl

@[simp] theorem State.setLane_cal (s : State) (l : Lane) (u : LaneUnit) : (s.setLane l u).cal = s.cal := rfl

@[simp] theorem State.setLane_pending (s : State) (l : Lane) (u : LaneUnit) : (s.setLane l u).pending = s.pending := rfl

@[simp] theorem State.setLane_lanes (s : State) (l : Lane) (u : LaneUnit) :
    (s.setLane l u).lanes = s.lanes.set l u := rfl

/-! ## State.setTank -/

@[simp] theorem State.setTank_device (s : State) (k : Tank) (u : TankUnit) : (s.setTank k u).device = s.device := rfl

@[simp] theorem State.setTank_bus (s : State) (k : Tank) (u : TankUnit) : (s.setTank k u).bus = s.bus := rfl

@[simp] theorem State.setTank_time (s : State) (k : Tank) (u : TankUnit) : (s.setTank k u).time = s.time := rfl

@[simp] theorem State.setTank_ports (s : State) (k : Tank) (u : TankUnit) : (s.setTank k u).ports = s.ports := rfl

@[simp] theorem State.setTank_lanes (s : State) (k : Tank) (u : TankUnit) : (s.setTank k u).lanes = s.lanes := rfl

@[simp] theorem State.setTank_deliveries (s : State) (k : Tank) (u : TankUnit) : (s.setTank k u).deliveries = s.deliveries := rfl

@[simp] theorem State.setTank_accounts (s : State) (k : Tank) (u : TankUnit) : (s.setTank k u).accounts = s.accounts := rfl

@[simp] theorem State.setTank_orders (s : State) (k : Tank) (u : TankUnit) : (s.setTank k u).orders = s.orders := rfl

@[simp] theorem State.setTank_records (s : State) (k : Tank) (u : TankUnit) : (s.setTank k u).records = s.records := rfl

@[simp] theorem State.setTank_spill (s : State) (k : Tank) (u : TankUnit) : (s.setTank k u).spill = s.spill := rfl

@[simp] theorem State.setTank_cal (s : State) (k : Tank) (u : TankUnit) : (s.setTank k u).cal = s.cal := rfl

@[simp] theorem State.setTank_pending (s : State) (k : Tank) (u : TankUnit) : (s.setTank k u).pending = s.pending := rfl

@[simp] theorem State.setTank_tanks (s : State) (k : Tank) (u : TankUnit) :
    (s.setTank k u).tanks = s.tanks.set k u := rfl

/-! ## State.setPort -/

@[simp] theorem State.setPort_device (s : State) (i : PortId) (p : Port) : (s.setPort i p).device = s.device := rfl

@[simp] theorem State.setPort_bus (s : State) (i : PortId) (p : Port) : (s.setPort i p).bus = s.bus := rfl

@[simp] theorem State.setPort_time (s : State) (i : PortId) (p : Port) : (s.setPort i p).time = s.time := rfl

@[simp] theorem State.setPort_lanes (s : State) (i : PortId) (p : Port) : (s.setPort i p).lanes = s.lanes := rfl

@[simp] theorem State.setPort_tanks (s : State) (i : PortId) (p : Port) : (s.setPort i p).tanks = s.tanks := rfl

@[simp] theorem State.setPort_deliveries (s : State) (i : PortId) (p : Port) : (s.setPort i p).deliveries = s.deliveries := rfl

@[simp] theorem State.setPort_accounts (s : State) (i : PortId) (p : Port) : (s.setPort i p).accounts = s.accounts := rfl

@[simp] theorem State.setPort_orders (s : State) (i : PortId) (p : Port) : (s.setPort i p).orders = s.orders := rfl

@[simp] theorem State.setPort_records (s : State) (i : PortId) (p : Port) : (s.setPort i p).records = s.records := rfl

@[simp] theorem State.setPort_spill (s : State) (i : PortId) (p : Port) : (s.setPort i p).spill = s.spill := rfl

@[simp] theorem State.setPort_cal (s : State) (i : PortId) (p : Port) : (s.setPort i p).cal = s.cal := rfl

@[simp] theorem State.setPort_pending (s : State) (i : PortId) (p : Port) : (s.setPort i p).pending = s.pending := rfl

@[simp] theorem State.setPort_ports (s : State) (i : PortId) (p : Port) :
    (s.setPort i p).ports = s.ports.set i p := rfl

/-! ## State.setSource -/

@[simp] theorem State.setSource_device (s : State) (i : SourceId) (x : Source) : (s.setSource i x).device = s.device := rfl

@[simp] theorem State.setSource_bus (s : State) (i : SourceId) (x : Source) : (s.setSource i x).bus = s.bus := rfl

@[simp] theorem State.setSource_time (s : State) (i : SourceId) (x : Source) : (s.setSource i x).time = s.time := rfl

@[simp] theorem State.setSource_ports (s : State) (i : SourceId) (x : Source) : (s.setSource i x).ports = s.ports := rfl

@[simp] theorem State.setSource_lanes (s : State) (i : SourceId) (x : Source) : (s.setSource i x).lanes = s.lanes := rfl

@[simp] theorem State.setSource_tanks (s : State) (i : SourceId) (x : Source) : (s.setSource i x).tanks = s.tanks := rfl

@[simp] theorem State.setSource_deliveries (s : State) (i : SourceId) (x : Source) : (s.setSource i x).deliveries = s.deliveries := rfl

@[simp] theorem State.setSource_accounts (s : State) (i : SourceId) (x : Source) : (s.setSource i x).accounts = s.accounts := rfl

@[simp] theorem State.setSource_orders (s : State) (i : SourceId) (x : Source) : (s.setSource i x).orders = s.orders := rfl

@[simp] theorem State.setSource_records (s : State) (i : SourceId) (x : Source) : (s.setSource i x).records = s.records := rfl

@[simp] theorem State.setSource_cal (s : State) (i : SourceId) (x : Source) : (s.setSource i x).cal = s.cal := rfl

@[simp] theorem State.setSource_pending (s : State) (i : SourceId) (x : Source) : (s.setSource i x).pending = s.pending := rfl

@[simp] theorem State.setSource_spill_trips (s : State) (i : SourceId) (x : Source) :
    (s.setSource i x).spill.trips = s.spill.trips := rfl

@[simp] theorem State.setSource_spill_tripsDropped (s : State) (i : SourceId) (x : Source) :
    (s.setSource i x).spill.tripsDropped = s.spill.tripsDropped := rfl

@[simp] theorem State.setSource_spill_nextTrip (s : State) (i : SourceId) (x : Source) :
    (s.setSource i x).spill.nextTrip = s.spill.nextTrip := rfl

@[simp] theorem State.setSource_spill_captureCount (s : State) (i : SourceId) (x : Source) :
    (s.setSource i x).spill.captureCount = s.spill.captureCount := rfl

@[simp] theorem State.setSource_spill_capture (s : State) (i : SourceId) (x : Source) :
    (s.setSource i x).spill.capture = s.spill.capture := rfl

@[simp] theorem State.setSource_spill_captureTimer (s : State) (i : SourceId) (x : Source) :
    (s.setSource i x).spill.captureTimer = s.spill.captureTimer := rfl

/-! ## Reading a unit back -/

@[simp] theorem State.lane_setLane_same (s : State) (l : Lane) (u : LaneUnit) : (s.setLane l u).lane l = u := by
  simp [State.lane, State.setLane]

theorem State.lane_setLane_ne (s : State) (l j : Lane) (u : LaneUnit) (h : j ≠ l) : (s.setLane l u).lane j = s.lane j :=
  Eight.get_set_ne _ _ _ _ h

@[simp] theorem State.tank_setTank_same (s : State) (k : Tank) (u : TankUnit) : (s.setTank k u).tank k = u := by
  simp [State.tank, State.setTank]

theorem State.tank_setTank_ne (s : State) (k j : Tank) (u : TankUnit) (h : j ≠ k) : (s.setTank k u).tank j = s.tank j :=
  Eight.get_set_ne _ _ _ _ h

@[simp] theorem State.port_setPort_same (s : State) (i : PortId) (u : Port) : (s.setPort i u).port i = u := by
  simp [State.port, State.setPort]

theorem State.port_setPort_ne (s : State) (i j : PortId) (u : Port) (h : j ≠ i) : (s.setPort i u).port j = s.port j :=
  Ports.get_set_ne _ _ _ _ h

@[simp] theorem State.source_setSource_same (s : State) (i : SourceId) (u : Source) : (s.setSource i u).source i = u := by
  simp [State.source, State.setSource]

theorem State.source_setSource_ne (s : State) (i j : SourceId) (u : Source) (h : j ≠ i) : (s.setSource i u).source j = s.source j :=
  Sources.get_set_ne _ _ _ _ h

@[simp] theorem State.lane_setTank (s : State) (j : Lane) (k : Tank) (u : TankUnit) : (s.setTank k u).lane j = s.lane j := rfl

@[simp] theorem State.lane_setPort (s : State) (j : Lane) (i : PortId) (u : Port) : (s.setPort i u).lane j = s.lane j := rfl

@[simp] theorem State.lane_setSource (s : State) (j : Lane) (i : SourceId) (u : Source) : (s.setSource i u).lane j = s.lane j := rfl

@[simp] theorem State.tank_setLane (s : State) (j : Tank) (l : Lane) (u : LaneUnit) : (s.setLane l u).tank j = s.tank j := rfl

@[simp] theorem State.tank_setPort (s : State) (j : Tank) (i : PortId) (u : Port) : (s.setPort i u).tank j = s.tank j := rfl

@[simp] theorem State.tank_setSource (s : State) (j : Tank) (i : SourceId) (u : Source) : (s.setSource i u).tank j = s.tank j := rfl

@[simp] theorem State.port_setLane (s : State) (j : PortId) (l : Lane) (u : LaneUnit) : (s.setLane l u).port j = s.port j := rfl

@[simp] theorem State.port_setTank (s : State) (j : PortId) (k : Tank) (u : TankUnit) : (s.setTank k u).port j = s.port j := rfl

@[simp] theorem State.port_setSource (s : State) (j : PortId) (i : SourceId) (u : Source) : (s.setSource i u).port j = s.port j := rfl

@[simp] theorem State.source_setLane (s : State) (j : SourceId) (l : Lane) (u : LaneUnit) : (s.setLane l u).source j = s.source j := rfl

@[simp] theorem State.source_setTank (s : State) (j : SourceId) (k : Tank) (u : TankUnit) : (s.setTank k u).source j = s.source j := rfl

@[simp] theorem State.source_setPort (s : State) (j : SourceId) (i : PortId) (u : Port) : (s.setPort i u).source j = s.source j := rfl

@[simp] theorem State.setLane_setLane (s : State) (l : Lane) (u v : LaneUnit) : (s.setLane l u).setLane l v = s.setLane l v := by
  simp [State.setLane]

@[simp] theorem State.setLane_lane_self (s : State) (l : Lane) : s.setLane l (s.lane l) = s := by
  simp [State.setLane, State.lane]

@[simp] theorem State.setTank_setTank (s : State) (k : Tank) (u v : TankUnit) : (s.setTank k u).setTank k v = s.setTank k v := by
  simp [State.setTank]

@[simp] theorem State.setTank_tank_self (s : State) (k : Tank) : s.setTank k (s.tank k) = s := by
  simp [State.setTank, State.tank]

@[simp] theorem State.setPort_setPort (s : State) (i : PortId) (u v : Port) : (s.setPort i u).setPort i v = s.setPort i v := by
  simp [State.setPort]

@[simp] theorem State.setPort_port_self (s : State) (i : PortId) : s.setPort i (s.port i) = s := by
  simp [State.setPort, State.port]

/-! ## Updates of the blocks that hold no lane, tank or port -/

@[simp] theorem State.lane_with_device (s : State) (x : Device) (j : Lane) :
    State.lane { s with device := x } j = s.lane j := rfl

@[simp] theorem State.lane_with_bus (s : State) (x : GaugeBus) (j : Lane) :
    State.lane { s with bus := x } j = s.lane j := rfl

@[simp] theorem State.tank_with_device (s : State) (x : Device) (j : Tank) :
    State.tank { s with device := x } j = s.tank j := rfl

@[simp] theorem State.tank_with_bus (s : State) (x : GaugeBus) (j : Tank) :
    State.tank { s with bus := x } j = s.tank j := rfl

@[simp] theorem State.port_with_device (s : State) (x : Device) (j : PortId) :
    State.port { s with device := x } j = s.port j := rfl

@[simp] theorem State.port_with_bus (s : State) (x : GaugeBus) (j : PortId) :
    State.port { s with bus := x } j = s.port j := rfl

@[simp] theorem State.source_with_device (s : State) (x : Device) (j : SourceId) :
    State.source { s with device := x } j = s.source j := rfl

@[simp] theorem State.source_with_bus (s : State) (x : GaugeBus) (j : SourceId) :
    State.source { s with bus := x } j = s.source j := rfl

@[simp] theorem State.lane_with_time (s : State) (x : BayTime) (j : Lane) :
    State.lane { s with time := x } j = s.lane j := rfl

@[simp] theorem State.tank_with_time (s : State) (x : BayTime) (j : Tank) :
    State.tank { s with time := x } j = s.tank j := rfl

@[simp] theorem State.port_with_time (s : State) (x : BayTime) (j : PortId) :
    State.port { s with time := x } j = s.port j := rfl

@[simp] theorem State.source_with_time (s : State) (x : BayTime) (j : SourceId) :
    State.source { s with time := x } j = s.source j := rfl

@[simp] theorem State.lane_with_deliveries (s : State) (x : DeliveryUnit) (j : Lane) :
    State.lane { s with deliveries := x } j = s.lane j := rfl

@[simp] theorem State.tank_with_deliveries (s : State) (x : DeliveryUnit) (j : Tank) :
    State.tank { s with deliveries := x } j = s.tank j := rfl

@[simp] theorem State.port_with_deliveries (s : State) (x : DeliveryUnit) (j : PortId) :
    State.port { s with deliveries := x } j = s.port j := rfl

@[simp] theorem State.source_with_deliveries (s : State) (x : DeliveryUnit) (j : SourceId) :
    State.source { s with deliveries := x } j = s.source j := rfl

@[simp] theorem State.lane_with_accounts (s : State) (x : AccountTable) (j : Lane) :
    State.lane { s with accounts := x } j = s.lane j := rfl

@[simp] theorem State.tank_with_accounts (s : State) (x : AccountTable) (j : Tank) :
    State.tank { s with accounts := x } j = s.tank j := rfl

@[simp] theorem State.port_with_accounts (s : State) (x : AccountTable) (j : PortId) :
    State.port { s with accounts := x } j = s.port j := rfl

@[simp] theorem State.source_with_accounts (s : State) (x : AccountTable) (j : SourceId) :
    State.source { s with accounts := x } j = s.source j := rfl

@[simp] theorem State.lane_with_orders (s : State) (x : OrderList) (j : Lane) :
    State.lane { s with orders := x } j = s.lane j := rfl

@[simp] theorem State.tank_with_orders (s : State) (x : OrderList) (j : Tank) :
    State.tank { s with orders := x } j = s.tank j := rfl

@[simp] theorem State.port_with_orders (s : State) (x : OrderList) (j : PortId) :
    State.port { s with orders := x } j = s.port j := rfl

@[simp] theorem State.source_with_orders (s : State) (x : OrderList) (j : SourceId) :
    State.source { s with orders := x } j = s.source j := rfl

@[simp] theorem State.lane_with_records (s : State) (x : RecordQueue) (j : Lane) :
    State.lane { s with records := x } j = s.lane j := rfl

@[simp] theorem State.tank_with_records (s : State) (x : RecordQueue) (j : Tank) :
    State.tank { s with records := x } j = s.tank j := rfl

@[simp] theorem State.port_with_records (s : State) (x : RecordQueue) (j : PortId) :
    State.port { s with records := x } j = s.port j := rfl

@[simp] theorem State.source_with_records (s : State) (x : RecordQueue) (j : SourceId) :
    State.source { s with records := x } j = s.source j := rfl

@[simp] theorem State.lane_with_cal (s : State) (x : CalLock) (j : Lane) :
    State.lane { s with cal := x } j = s.lane j := rfl

@[simp] theorem State.tank_with_cal (s : State) (x : CalLock) (j : Tank) :
    State.tank { s with cal := x } j = s.tank j := rfl

@[simp] theorem State.port_with_cal (s : State) (x : CalLock) (j : PortId) :
    State.port { s with cal := x } j = s.port j := rfl

@[simp] theorem State.source_with_cal (s : State) (x : CalLock) (j : SourceId) :
    State.source { s with cal := x } j = s.source j := rfl

@[simp] theorem State.lane_with_pending (s : State) (x : List Instr) (j : Lane) :
    State.lane { s with pending := x } j = s.lane j := rfl

@[simp] theorem State.tank_with_pending (s : State) (x : List Instr) (j : Tank) :
    State.tank { s with pending := x } j = s.tank j := rfl

@[simp] theorem State.port_with_pending (s : State) (x : List Instr) (j : PortId) :
    State.port { s with pending := x } j = s.port j := rfl

@[simp] theorem State.source_with_pending (s : State) (x : List Instr) (j : SourceId) :
    State.source { s with pending := x } j = s.source j := rfl

@[simp] theorem State.lane_with_spill (s : State) (x : SpillUnit) (j : Lane) :
    State.lane { s with spill := x } j = s.lane j := rfl

@[simp] theorem State.tank_with_spill (s : State) (x : SpillUnit) (j : Tank) :
    State.tank { s with spill := x } j = s.tank j := rfl

@[simp] theorem State.port_with_spill (s : State) (x : SpillUnit) (j : PortId) :
    State.port { s with spill := x } j = s.port j := rfl

@[simp] theorem State.source_with_spill (s : State) (x : SpillUnit) (j : SourceId) :
    State.source { s with spill := x } j = x.sources.get j := rfl

@[simp] theorem State.lane_with_ports (s : State) (x : Ports) (j : Lane) :
    State.lane { s with ports := x } j = s.lane j := rfl

@[simp] theorem State.tank_with_ports (s : State) (x : Ports) (j : Tank) :
    State.tank { s with ports := x } j = s.tank j := rfl

@[simp] theorem State.source_with_ports (s : State) (x : Ports) (j : SourceId) :
    State.source { s with ports := x } j = s.source j := rfl

@[simp] theorem State.port_with_ports (s : State) (x : Ports) (j : PortId) :
    State.port { s with ports := x } j = x.get j := rfl

end Sys2Proof.Machine
end

