-- ==== Sys2Proof/Laws/Ops.lean ====
section
/-! SUPPORT. What the shared operations of Ops.lean can do: saturation, posting, replying, serving. -/

namespace Sys2Proof.Machine

/-! ## Saturation -/

theorem satAdd_eq (top n k : Nat) : satAdd top n k = min top (n + k) := rfl

theorem satAdd_le (top n k : Nat) : satAdd top n k ≤ top := Nat.min_le_left _ _

theorem clampInt_le (lo hi z : Int) (h : lo ≤ hi) : clampInt lo hi z ≤ hi := by unfold clampInt; omega

theorem le_clampInt (lo hi z : Int) : lo ≤ clampInt lo hi z := by unfold clampInt; omega

/-- A value within its limits is not held. -/
theorem clampInt_of_within {lo hi z : Int} (h1 : lo ≤ z) (h2 : z ≤ hi) : clampInt lo hi z = z := by unfold clampInt; omega

theorem within_iff (lo hi n : Nat) : within lo hi n = true ↔ lo ≤ n ∧ n ≤ hi := by simp [within]

theorem withinInt_iff (lo hi z : Int) : withinInt lo hi z = true ↔ lo ≤ z ∧ z ≤ hi := by simp [withinInt]

@[simp] theorem eightOf_val (l : Fin 8) : eightOf l.val = some l := by simp [eightOf, l.isLt]

theorem eightOf_none {n : Nat} (h : 7 < n) : eightOf n = none := by
  unfold eightOf; rw [dif_neg]; omega

/-! ## A number out of range addresses nothing (R182) -/

theorem addressTank_beyond {n : Nat} (h : 7 < n) : addressTank n = .none := by
  simp [addressTank, tankBits, eightOf_none h, Addressed.none]

theorem addressLane_beyond (s : State) {n : Nat} (h : 7 < n) : addressLane s n = .none := by
  simp [addressLane, eightOf_none h]

theorem addressSetLane_beyond (s : State) {n tank : Nat} (h : 7 < n ∨ 7 < tank) : addressSetLane s n tank = .none := by
  unfold addressSetLane
  rcases h with h | h
  · rw [eightOf_none h]
  · rw [eightOf_none h]; cases eightOf n <;> rfl

/-- With both numbers in range SET_LANE addresses what its row of R182 names. -/
theorem addressSetLane_eq (s : State) (l : Lane) (t : Tank) :
    addressSetLane s l.val t.val = ⟨bit8 l, bit8 (s.lane l).cfg.tank ||| bit8 t⟩ := by simp [addressSetLane]

/-! ## The attention line and posting (R185 to R187) -/

@[simp] theorem Port.followSet_pendingSet (p : Port) : p.followSet.pendingSet = p.pendingSet := by
  unfold Port.followSet; split <;> rfl

@[simp] theorem Port.followSet_mask (p : Port) : p.followSet.mask = p.mask := by unfold Port.followSet; split <;> rfl

@[simp] theorem Port.followSet_mode (p : Port) : p.followSet.mode = p.mode := by unfold Port.followSet; split <;> rfl

@[simp] theorem Port.followSet_width (p : Port) : p.followSet.width = p.width := by unfold Port.followSet; split <;> rfl

@[simp] theorem Port.followSet_level (p : Port) : p.followSet.level = p.level := by unfold Port.followSet; split <;> rfl

@[simp] theorem Port.followSet_denial (p : Port) : p.followSet.denial = p.denial := by unfold Port.followSet; split <;> rfl

@[simp] theorem Port.followSet_reply (p : Port) : p.followSet.reply = p.reply := by unfold Port.followSet; split <;> rfl

@[simp] theorem Port.followSet_rx (p : Port) : p.followSet.rx = p.rx := by unfold Port.followSet; split <;> rfl

@[simp] theorem Port.followSet_de (p : Port) : p.followSet.de = p.de := by unfold Port.followSet; split <;> rfl

@[simp] theorem Port.followSet_tx (p : Port) : p.followSet.tx = p.tx := by unfold Port.followSet; split <;> rfl

@[simp] theorem Port.followSet_pulse (p : Port) : p.followSet.pulse = p.pulse := by unfold Port.followSet; split <;> rfl

@[simp] theorem Port.post_pendingSet (k : EventKind) (p : Port) : (p.post k).pendingSet = p.pendingSet ||| k.bit := by
  unfold Port.post; dsimp only; split
  · split <;> rfl
  · simp

@[simp] theorem Port.post_mask (k : EventKind) (p : Port) : (p.post k).mask = p.mask := by
  unfold Port.post; dsimp only; split
  · split <;> rfl
  · simp

@[simp] theorem Port.post_mode (k : EventKind) (p : Port) : (p.post k).mode = p.mode := by
  unfold Port.post; dsimp only; split
  · split <;> rfl
  · simp

@[simp] theorem Port.post_width (k : EventKind) (p : Port) : (p.post k).width = p.width := by
  unfold Port.post; dsimp only; split
  · split <;> rfl
  · simp

@[simp] theorem Port.post_level (k : EventKind) (p : Port) : (p.post k).level = p.level := by
  unfold Port.post; dsimp only; split
  · split <;> rfl
  · simp

@[simp] theorem Port.post_denial (k : EventKind) (p : Port) : (p.post k).denial = p.denial := by
  unfold Port.post; dsimp only; split
  · split <;> rfl
  · simp

@[simp] theorem Port.post_reply (k : EventKind) (p : Port) : (p.post k).reply = p.reply := by
  unfold Port.post; dsimp only; split
  · split <;> rfl
  · simp

@[simp] theorem Port.post_rx (k : EventKind) (p : Port) : (p.post k).rx = p.rx := by
  unfold Port.post; dsimp only; split
  · split <;> rfl
  · simp

@[simp] theorem Port.post_de (k : EventKind) (p : Port) : (p.post k).de = p.de := by
  unfold Port.post; dsimp only; split
  · split <;> rfl
  · simp

@[simp] theorem Port.post_tx (k : EventKind) (p : Port) : (p.post k).tx = p.tx := by
  unfold Port.post; dsimp only; split
  · split <;> rfl
  · simp

@[simp] theorem Port.followSet_cursor (p : Port) : p.followSet.cursor = p.cursor := by unfold Port.followSet; split <;> rfl

@[simp] theorem Port.post_cursor (k : EventKind) (p : Port) : (p.post k).cursor = p.cursor := by
  unfold Port.post; dsimp only; split
  · split <;> rfl
  · simp

@[simp] theorem Port.followSet_rate (p : Port) : p.followSet.rate = p.rate := by unfold Port.followSet; split <;> rfl

@[simp] theorem Port.post_rate (k : EventKind) (p : Port) : (p.post k).rate = p.rate := by
  unfold Port.post; dsimp only; split
  · split <;> rfl
  · simp

@[simp] theorem Port.followSet_gapCount (p : Port) : p.followSet.gapCount = p.gapCount := by unfold Port.followSet; split <;> rfl

@[simp] theorem Port.post_gapCount (k : EventKind) (p : Port) : (p.post k).gapCount = p.gapCount := by
  unfold Port.post; dsimp only; split
  · split <;> rfl
  · simp

@[simp] theorem Port.followSet_crcCount (p : Port) : p.followSet.crcCount = p.crcCount := by unfold Port.followSet; split <;> rfl

@[simp] theorem Port.post_crcCount (k : EventKind) (p : Port) : (p.post k).crcCount = p.crcCount := by
  unfold Port.post; dsimp only; split
  · split <;> rfl
  · simp

@[simp] theorem Port.followSet_overlapCount (p : Port) : p.followSet.overlapCount = p.overlapCount := by unfold Port.followSet; split <;> rfl

@[simp] theorem Port.post_overlapCount (k : EventKind) (p : Port) : (p.post k).overlapCount = p.overlapCount := by
  unfold Port.post; dsimp only; split
  · split <;> rfl
  · simp

@[simp] theorem Port.followSet_crossing (p : Port) : p.followSet.crossing = p.crossing := by unfold Port.followSet; split <;> rfl

@[simp] theorem Port.post_crossing (k : EventKind) (p : Port) : (p.post k).crossing = p.crossing := by
  unfold Port.post; dsimp only; split
  · split <;> rfl
  · simp

@[simp] theorem Port.followSet_overlapMark (p : Port) : p.followSet.overlapMark = p.overlapMark := by unfold Port.followSet; split <;> rfl

@[simp] theorem Port.post_overlapMark (k : EventKind) (p : Port) : (p.post k).overlapMark = p.overlapMark := by
  unfold Port.post; dsimp only; split
  · split <;> rfl
  · simp

@[simp] theorem post_device (k : EventKind) (s : State) : (post k s).device = s.device := rfl

@[simp] theorem post_bus (k : EventKind) (s : State) : (post k s).bus = s.bus := rfl

@[simp] theorem post_time (k : EventKind) (s : State) : (post k s).time = s.time := rfl

@[simp] theorem post_lanes (k : EventKind) (s : State) : (post k s).lanes = s.lanes := rfl

@[simp] theorem post_tanks (k : EventKind) (s : State) : (post k s).tanks = s.tanks := rfl

@[simp] theorem post_deliveries (k : EventKind) (s : State) : (post k s).deliveries = s.deliveries := rfl

@[simp] theorem post_accounts (k : EventKind) (s : State) : (post k s).accounts = s.accounts := rfl

@[simp] theorem post_orders (k : EventKind) (s : State) : (post k s).orders = s.orders := rfl

@[simp] theorem post_records (k : EventKind) (s : State) : (post k s).records = s.records := rfl

@[simp] theorem post_spill (k : EventKind) (s : State) : (post k s).spill = s.spill := rfl

@[simp] theorem post_cal (k : EventKind) (s : State) : (post k s).cal = s.cal := rfl

@[simp] theorem post_pending (k : EventKind) (s : State) : (post k s).pending = s.pending := rfl

@[simp] theorem post_lane (k : EventKind) (s : State) (j : Lane) : (post k s).lane j = s.lane j := rfl

@[simp] theorem post_tank (k : EventKind) (s : State) (j : Tank) : (post k s).tank j = s.tank j := rfl

@[simp] theorem post_source (k : EventKind) (s : State) (j : SourceId) : (post k s).source j = s.source j := rfl

@[simp] theorem post_port (k : EventKind) (s : State) (i : PortId) : (post k s).port i = (s.port i).post k := by
  simp [post, State.port]

@[simp] theorem post_openLevel (k : EventKind) (s : State) : (post k s).ports.openLevel = s.ports.openLevel := rfl

/-- postIf posts or leaves the state as it is. -/
theorem postIf_cases (c : Bool) (k : EventKind) (s : State) :
    (c = true ∧ postIf c k s = post k s) ∨ (c = false ∧ postIf c k s = s) := by
  cases c <;> simp [postIf]

@[simp] theorem postIf_device (c : Bool) (k : EventKind) (s : State) : (postIf c k s).device = s.device := by cases c <;> rfl

@[simp] theorem postIf_bus (c : Bool) (k : EventKind) (s : State) : (postIf c k s).bus = s.bus := by cases c <;> rfl

@[simp] theorem postIf_time (c : Bool) (k : EventKind) (s : State) : (postIf c k s).time = s.time := by cases c <;> rfl

@[simp] theorem postIf_lanes (c : Bool) (k : EventKind) (s : State) : (postIf c k s).lanes = s.lanes := by cases c <;> rfl

@[simp] theorem postIf_tanks (c : Bool) (k : EventKind) (s : State) : (postIf c k s).tanks = s.tanks := by cases c <;> rfl

@[simp] theorem postIf_deliveries (c : Bool) (k : EventKind) (s : State) : (postIf c k s).deliveries = s.deliveries := by cases c <;> rfl

@[simp] theorem postIf_accounts (c : Bool) (k : EventKind) (s : State) : (postIf c k s).accounts = s.accounts := by cases c <;> rfl

@[simp] theorem postIf_orders (c : Bool) (k : EventKind) (s : State) : (postIf c k s).orders = s.orders := by cases c <;> rfl

@[simp] theorem postIf_records (c : Bool) (k : EventKind) (s : State) : (postIf c k s).records = s.records := by cases c <;> rfl

@[simp] theorem postIf_spill (c : Bool) (k : EventKind) (s : State) : (postIf c k s).spill = s.spill := by cases c <;> rfl

@[simp] theorem postIf_cal (c : Bool) (k : EventKind) (s : State) : (postIf c k s).cal = s.cal := by cases c <;> rfl

@[simp] theorem postIf_pending (c : Bool) (k : EventKind) (s : State) : (postIf c k s).pending = s.pending := by cases c <;> rfl

@[simp] theorem postIf_lane (c : Bool) (k : EventKind) (s : State) (j : Lane) : (postIf c k s).lane j = s.lane j := by
  cases c <;> rfl

@[simp] theorem postIf_tank (c : Bool) (k : EventKind) (s : State) (j : Tank) : (postIf c k s).tank j = s.tank j := by
  cases c <;> rfl

@[simp] theorem postIf_source (c : Bool) (k : EventKind) (s : State) (j : SourceId) : (postIf c k s).source j = s.source j := by
  cases c <;> rfl

/-- A kind's bit is in every pending set after it has been posted. -/
theorem holdsKind_or_bit (w : EventSet) (k : EventKind) : holdsKind (w ||| k.bit) k = true := by
  have h : (w ||| k.bit) &&& k.bit = k.bit := by
    apply BitVec.eq_of_getLsbD_eq
    intro i _
    simp only [BitVec.getLsbD_and, BitVec.getLsbD_or]
    cases w.getLsbD i <;> cases (k.bit).getLsbD i <;> rfl
  unfold holdsKind
  rw [h]
  cases k <;> decide

/-- A kind that a pending set holds stays in it when another is added. -/
theorem holdsKind_or {w v : EventSet} {k : EventKind} (h : holdsKind w k = true) : holdsKind (w ||| v) k = true := by
  unfold holdsKind at *
  simp only [ne_eq, decide_eq_true_eq] at *
  intro e
  apply h
  apply BitVec.eq_of_getLsbD_eq
  intro i hi
  have := congrArg (fun x : BitVec 16 => x.getLsbD i) e
  simp only [BitVec.getLsbD_and, BitVec.getLsbD_or, BitVec.getLsbD_zero, Bool.and_eq_false_iff, Bool.or_eq_false_iff] at this ⊢
  rcases this with h1 | h1
  · exact Or.inl h1.1
  · exact Or.inr h1

/-! ## Replying and serving (R176 to R178) -/

@[simp] theorem State.reply_device (s : State) (f : Frame) (code : Byte) (st : Status) (p : Payload) :
    (s.reply f code st p).device = s.device := rfl

@[simp] theorem State.reply_bus (s : State) (f : Frame) (code : Byte) (st : Status) (p : Payload) :
    (s.reply f code st p).bus = s.bus := rfl

@[simp] theorem State.overlapAt_device (s : State) (i : PortId) : (s.overlapAt i).device = s.device := rfl

@[simp] theorem State.overlapAt_bus (s : State) (i : PortId) : (s.overlapAt i).bus = s.bus := rfl

@[simp] theorem State.reply_time (s : State) (f : Frame) (code : Byte) (st : Status) (p : Payload) :
    (s.reply f code st p).time = s.time := rfl

@[simp] theorem State.overlapAt_time (s : State) (i : PortId) : (s.overlapAt i).time = s.time := rfl

@[simp] theorem State.reply_lanes (s : State) (f : Frame) (code : Byte) (st : Status) (p : Payload) :
    (s.reply f code st p).lanes = s.lanes := rfl

@[simp] theorem State.overlapAt_lanes (s : State) (i : PortId) : (s.overlapAt i).lanes = s.lanes := rfl

@[simp] theorem State.reply_tanks (s : State) (f : Frame) (code : Byte) (st : Status) (p : Payload) :
    (s.reply f code st p).tanks = s.tanks := rfl

@[simp] theorem State.overlapAt_tanks (s : State) (i : PortId) : (s.overlapAt i).tanks = s.tanks := rfl

@[simp] theorem State.reply_deliveries (s : State) (f : Frame) (code : Byte) (st : Status) (p : Payload) :
    (s.reply f code st p).deliveries = s.deliveries := rfl

@[simp] theorem State.overlapAt_deliveries (s : State) (i : PortId) : (s.overlapAt i).deliveries = s.deliveries := rfl

@[simp] theorem State.reply_accounts (s : State) (f : Frame) (code : Byte) (st : Status) (p : Payload) :
    (s.reply f code st p).accounts = s.accounts := rfl

@[simp] theorem State.overlapAt_accounts (s : State) (i : PortId) : (s.overlapAt i).accounts = s.accounts := rfl

@[simp] theorem State.reply_orders (s : State) (f : Frame) (code : Byte) (st : Status) (p : Payload) :
    (s.reply f code st p).orders = s.orders := rfl

@[simp] theorem State.overlapAt_orders (s : State) (i : PortId) : (s.overlapAt i).orders = s.orders := rfl

@[simp] theorem State.reply_records (s : State) (f : Frame) (code : Byte) (st : Status) (p : Payload) :
    (s.reply f code st p).records = s.records := rfl

@[simp] theorem State.overlapAt_records (s : State) (i : PortId) : (s.overlapAt i).records = s.records := rfl

@[simp] theorem State.reply_spill (s : State) (f : Frame) (code : Byte) (st : Status) (p : Payload) :
    (s.reply f code st p).spill = s.spill := rfl

@[simp] theorem State.overlapAt_spill (s : State) (i : PortId) : (s.overlapAt i).spill = s.spill := rfl

@[simp] theorem State.reply_cal (s : State) (f : Frame) (code : Byte) (st : Status) (p : Payload) :
    (s.reply f code st p).cal = s.cal := rfl

@[simp] theorem State.overlapAt_cal (s : State) (i : PortId) : (s.overlapAt i).cal = s.cal := rfl

@[simp] theorem State.reply_pending (s : State) (f : Frame) (code : Byte) (st : Status) (p : Payload) :
    (s.reply f code st p).pending = s.pending := rfl

@[simp] theorem State.overlapAt_pending (s : State) (i : PortId) : (s.overlapAt i).pending = s.pending := rfl

@[simp] theorem State.reply_port_same (s : State) (f : Frame) (code : Byte) (st : Status) (p : Payload) :
    (s.reply f code st p).port f.port =
      (s.port f.port).send { seq := f.seq, code := code ||| 0x80#8, status := st, payload := p } := by
  simp [State.reply]

theorem State.reply_port_ne (s : State) (f : Frame) (code : Byte) (st : Status) (p : Payload) (j : PortId) (h : j ≠ f.port) :
    (s.reply f code st p).port j = s.port j := by
  simp [State.reply, State.port_setPort_ne _ _ _ _ h]

@[simp] theorem State.reply_openLevel (s : State) (f : Frame) (code : Byte) (st : Status) (p : Payload) :
    (s.reply f code st p).ports.openLevel = s.ports.openLevel := by
  simp [State.reply]

/-- A request is lost at a held device or a port not ready, answered STARTING or DENIED, or taken by its owning block. -/
theorem serve_cases (f : Frame) (code : Byte) (a : Access) (act : State → Answer) (s : State) :
    (s.device.phase = .held ∧ serve f code a act s = s) ∨
    (s.device.phase ≠ .held ∧ (s.port f.port).ready = false ∧ serve f code a act s = s.overlapAt f.port) ∨
    (s.device.phase = .restoring ∧ (s.port f.port).ready = true ∧ serve f code a act s = s.reply f code .starting .nothing) ∨
    (s.device.phase = .running ∧ (s.port f.port).ready = true ∧ accessPasses s f.port a = false ∧
      serve f code a act s = s.reply f code .denied .nothing) ∨
    (s.device.phase = .running ∧ (s.port f.port).ready = true ∧ accessPasses s f.port a = true ∧
      serve f code a act s = (act s).state.reply f code (act s).status (act s).payload) := by
  unfold serve
  cases hp : s.device.phase <;> cases hr : (s.port f.port).ready <;> cases ha : accessPasses s f.port a <;> simp

/-- A request that a running device takes. -/
theorem serve_taken {f : Frame} {code : Byte} {a : Access} {act : State → Answer} {s : State}
    (hp : s.device.phase = .running) (hr : (s.port f.port).ready = true) (ha : accessPasses s f.port a = true) :
    serve f code a act s = (act s).state.reply f code (act s).status (act s).payload := by
  simp [serve, hp, hr, ha]

@[simp] theorem State.whenRunning_running {s : State} (f : State → State) (h : s.device.phase = .running) :
    s.whenRunning f = f s := by
  simp [State.whenRunning, h]

theorem State.whenRunning_other {s : State} (f : State → State) (h : s.device.phase ≠ .running) : s.whenRunning f = s := by
  unfold State.whenRunning; cases hp : s.device.phase <;> simp_all

end Sys2Proof.Machine
end

