-- ==== Sys2Proof/Laws/Stock.lean ====
section
/-! SUPPORT. The draw list, the book and the trim: what a cut, a removal, an admission and a deduction leave (R62 to R66). -/

namespace Sys2Proof.Machine

@[simp] theorem allocated_nil : allocated [] = 0 := rfl

@[simp] theorem allocated_cons (d : Draw) (ds : List Draw) : allocated (d :: ds) = d.remaining + allocated ds := by
  simp [allocated]

@[simp] theorem allocated_append (ds es : List Draw) : allocated (ds ++ es) = allocated ds + allocated es := by
  simp [allocated]

@[simp] theorem allocated_reverse (ds : List Draw) : allocated ds.reverse = allocated ds := by
  induction ds with
  | nil => rfl
  | cons d ds ih => simp [ih]; omega

/-- Removing a lane's entry never raises the allocated sum (R64). -/
theorem allocated_removeDraw (l : Lane) (ds : List Draw) : allocated (removeDraw l ds) ≤ allocated ds := by
  induction ds with
  | nil => exact Nat.le_refl 0
  | cons d ds ih =>
    unfold removeDraw at ih ⊢
    rw [List.filter_cons]
    split <;> simp only [allocated_cons] <;> omega

/-- The cut takes the whole excess where the list holds it (R66). -/
theorem allocated_cutYoungest (ds : List Draw) (excess : Nat) :
    allocated (cutYoungest ds excess).1 = allocated ds - excess := by
  induction ds generalizing excess with
  | nil => simp [cutYoungest]
  | cons d ds ih =>
    unfold cutYoungest
    dsimp only
    split
    · rename_i h
      simp only [allocated_cons, ih]
      rcases Nat.min_eq_zero_iff.mp h with h0 | h0 <;> simp [h0]
    · simp only [allocated_cons, ih]
      omega

/-- The trim leaves the allocated sum within the book (R66). -/
theorem allocated_trimDraws (book : Nat) (ds : List Draw) : allocated (trimDraws book ds).1 ≤ book := by
  unfold trimDraws
  split
  · assumption
  · simp only [allocated_reverse, allocated_cutYoungest]
    omega

/-- A list that fits its book is not cut (R66). -/
theorem trimDraws_of_fits {book : Nat} {ds : List Draw} (h : allocated ds ≤ book) : trimDraws book ds = (ds, []) := by
  simp [trimDraws, h]

/-- What an admission grants fits the book beside the allocations already held (R65). -/
theorem grant_fits {k : TankUnit} {priority : Bool} {preset v : Nat} (h : k.grant priority preset = some v)
    (hk : allocated k.draws ≤ k.book) : allocated k.draws + v ≤ k.book := by
  have ha : k.available priority ≤ k.book - allocated k.draws := by
    unfold TankUnit.available; split <;> omega
  unfold TankUnit.grant at h
  dsimp only at h
  split at h
  · cases h; omega
  · split at h
    · cases h; omega
    · cases h

/-- A deduction leaves the book in its range (R62). -/
theorem deduct_book_le {k : TankUnit} (dN : Int) (h : k.book ≤ 2000000000) : (k.deduct dN).book ≤ 2000000000 := by
  unfold TankUnit.deduct
  split
  · exact Nat.min_le_left _ _
  · split
    · exact le_trans (Nat.sub_le _ _) h
    · exact Nat.zero_le _

@[simp] theorem deduct_draws (k : TankUnit) (dN : Int) : (k.deduct dN).draws = k.draws := by
  unfold TankUnit.deduct; split <;> [rfl; (split <;> rfl)]

@[simp] theorem deduct_zone (k : TankUnit) (dN : Int) : (k.deduct dN).zone = k.zone := by
  unfold TankUnit.deduct; split <;> [rfl; (split <;> rfl)]

@[simp] theorem deduct_pump (k : TankUnit) (dN : Int) : (k.deduct dN).pump = k.pump := by
  unfold TankUnit.deduct; split <;> [rfl; (split <;> rfl)]

@[simp] theorem deduct_inlet (k : TankUnit) (dN : Int) : (k.deduct dN).inlet = k.inlet := by
  unfold TankUnit.deduct; split <;> [rfl; (split <;> rfl)]

@[simp] theorem deduct_cfg (k : TankUnit) (dN : Int) : (k.deduct dN).cfg = k.cfg := by
  unfold TankUnit.deduct; split <;> [rfl; (split <;> rfl)]

end Sys2Proof.Machine
end

