-- ==== Sys2Proof/Laws/Lanes.lean ====
section
/-! SUPPORT. What the lane, tank and spill operations leave alone: one lemma for each block that an operation does not reach,
and what a close and an end do to the lane they name. -/

namespace Sys2Proof.Machine

/-- A fold of steps that each keep g keeps g. -/
theorem foldl_keeps {α β : Type} (g : State → β) (f : State → α → State) (h : ∀ s a, g (f s a) = g s) (as : List α)
    (s : State) : g (as.foldl f s) = g s := by
  induction as generalizing s with
  | nil => rfl
  | cons a as ih => rw [List.foldl_cons, ih, h]

/-- A fold of steps that each keep a property keeps it. -/
theorem foldl_keeps_prop {α : Type} (P : State → Prop) (f : State → α → State) (h : ∀ s a, P s → P (f s a)) (as : List α)
    (s : State) (hs : P s) : P (as.foldl f s) := by
  induction as generalizing s with
  | nil => exact hs
  | cons a as ih => exact ih _ (h s a hs)

/-! ## The pump demand (R68) -/

/-- The pump demand's fall stops the pump or changes nothing. -/
theorem dropDemand_cases (k : Tank) (s : State) :
    (s.pumpDemand k = true ∧ dropDemand k s = s) ∨
    (s.pumpDemand k = false ∧ dropDemand k s = s.setTank k ((s.tank k).setPump .stopped none)) := by
  unfold dropDemand; cases s.pumpDemand k <;> simp

@[simp] theorem dropDemand_device (k : Tank) (s : State) : (dropDemand k s).device = s.device := by
  unfold dropDemand; split <;> rfl

@[simp] theorem dropDemand_bus (k : Tank) (s : State) : (dropDemand k s).bus = s.bus := by
  unfold dropDemand; split <;> rfl

@[simp] theorem dropDemand_time (k : Tank) (s : State) : (dropDemand k s).time = s.time := by
  unfold dropDemand; split <;> rfl

@[simp] theorem dropDemand_ports (k : Tank) (s : State) : (dropDemand k s).ports = s.ports := by
  unfold dropDemand; split <;> rfl

@[simp] theorem dropDemand_lanes (k : Tank) (s : State) : (dropDemand k s).lanes = s.lanes := by
  unfold dropDemand; split <;> rfl

@[simp] theorem dropDemand_deliveries (k : Tank) (s : State) : (dropDemand k s).deliveries = s.deliveries := by
  unfold dropDemand; split <;> rfl

@[simp] theorem dropDemand_accounts (k : Tank) (s : State) : (dropDemand k s).accounts = s.accounts := by
  unfold dropDemand; split <;> rfl

@[simp] theorem dropDemand_orders (k : Tank) (s : State) : (dropDemand k s).orders = s.orders := by
  unfold dropDemand; split <;> rfl

@[simp] theorem dropDemand_records (k : Tank) (s : State) : (dropDemand k s).records = s.records := by
  unfold dropDemand; split <;> rfl

@[simp] theorem dropDemand_spill (k : Tank) (s : State) : (dropDemand k s).spill = s.spill := by
  unfold dropDemand; split <;> rfl

@[simp] theorem dropDemand_cal (k : Tank) (s : State) : (dropDemand k s).cal = s.cal := by
  unfold dropDemand; split <;> rfl

@[simp] theorem dropDemand_pending (k : Tank) (s : State) : (dropDemand k s).pending = s.pending := by
  unfold dropDemand; split <;> rfl

@[simp] theorem dropDemand_lane (k : Tank) (s : State) (l : Lane) : (dropDemand k s).lane l = s.lane l := by
  simp [State.lane]

theorem dropDemand_tank_ne (k j : Tank) (s : State) (h : j ≠ k) : (dropDemand k s).tank j = s.tank j := by
  unfold dropDemand; split
  · rfl
  · exact State.tank_setTank_ne _ _ _ _ h

@[simp] theorem dropDemand_tank_book (k j : Tank) (s : State) : ((dropDemand k s).tank j).book = (s.tank j).book := by
  by_cases h : j = k
  · subst h; unfold dropDemand; split <;> simp [TankUnit.setPump]
  · rw [dropDemand_tank_ne k j s h]

@[simp] theorem dropDemand_tank_draws (k j : Tank) (s : State) : ((dropDemand k s).tank j).draws = (s.tank j).draws := by
  by_cases h : j = k
  · subst h; unfold dropDemand; split <;> simp [TankUnit.setPump]
  · rw [dropDemand_tank_ne k j s h]

@[simp] theorem dropDemand_tank_zone (k j : Tank) (s : State) : ((dropDemand k s).tank j).zone = (s.tank j).zone := by
  by_cases h : j = k
  · subst h; unfold dropDemand; split <;> simp [TankUnit.setPump]
  · rw [dropDemand_tank_ne k j s h]

@[simp] theorem dropDemand_tank_inlet (k j : Tank) (s : State) : ((dropDemand k s).tank j).inlet = (s.tank j).inlet := by
  by_cases h : j = k
  · subst h; unfold dropDemand; split <;> simp [TankUnit.setPump]
  · rw [dropDemand_tank_ne k j s h]

/-! ## The parts of a close (R46) -/

@[simp] theorem closeBooking_device (c : Context) (k : Tank) (net : Int) (s : State) :
    (closeBooking c k net s).1.device = s.device := by
  unfold closeBooking; split <;> simp

@[simp] theorem closeBooking_bus (c : Context) (k : Tank) (net : Int) (s : State) :
    (closeBooking c k net s).1.bus = s.bus := by
  unfold closeBooking; split <;> simp

@[simp] theorem closeBooking_time (c : Context) (k : Tank) (net : Int) (s : State) :
    (closeBooking c k net s).1.time = s.time := by
  unfold closeBooking; split <;> simp

@[simp] theorem closeBooking_lanes (c : Context) (k : Tank) (net : Int) (s : State) :
    (closeBooking c k net s).1.lanes = s.lanes := by
  unfold closeBooking; split <;> simp

@[simp] theorem closeBooking_tanks (c : Context) (k : Tank) (net : Int) (s : State) :
    (closeBooking c k net s).1.tanks = s.tanks := by
  unfold closeBooking; split <;> simp

@[simp] theorem closeBooking_deliveries (c : Context) (k : Tank) (net : Int) (s : State) :
    (closeBooking c k net s).1.deliveries = s.deliveries := by
  unfold closeBooking; split <;> simp

@[simp] theorem closeBooking_orders (c : Context) (k : Tank) (net : Int) (s : State) :
    (closeBooking c k net s).1.orders = s.orders := by
  unfold closeBooking; split <;> simp

@[simp] theorem closeBooking_records (c : Context) (k : Tank) (net : Int) (s : State) :
    (closeBooking c k net s).1.records = s.records := by
  unfold closeBooking; split <;> simp

@[simp] theorem closeBooking_spill (c : Context) (k : Tank) (net : Int) (s : State) :
    (closeBooking c k net s).1.spill = s.spill := by
  unfold closeBooking; split <;> simp

@[simp] theorem closeBooking_cal (c : Context) (k : Tank) (net : Int) (s : State) :
    (closeBooking c k net s).1.cal = s.cal := by
  unfold closeBooking; split <;> simp

@[simp] theorem closeBooking_pending (c : Context) (k : Tank) (net : Int) (s : State) :
    (closeBooking c k net s).1.pending = s.pending := by
  unfold closeBooking; split <;> simp

@[simp] theorem closeOrder_device (n : Nat) (net : Int) (s : State) : (closeOrder n net s).device = s.device := by
  unfold closeOrder; split <;> rfl

@[simp] theorem closeOrder_bus (n : Nat) (net : Int) (s : State) : (closeOrder n net s).bus = s.bus := by
  unfold closeOrder; split <;> rfl

@[simp] theorem closeOrder_time (n : Nat) (net : Int) (s : State) : (closeOrder n net s).time = s.time := by
  unfold closeOrder; split <;> rfl

@[simp] theorem closeOrder_lanes (n : Nat) (net : Int) (s : State) : (closeOrder n net s).lanes = s.lanes := by
  unfold closeOrder; split <;> rfl

@[simp] theorem closeOrder_tanks (n : Nat) (net : Int) (s : State) : (closeOrder n net s).tanks = s.tanks := by
  unfold closeOrder; split <;> rfl

@[simp] theorem closeOrder_deliveries (n : Nat) (net : Int) (s : State) : (closeOrder n net s).deliveries = s.deliveries := by
  unfold closeOrder; split <;> rfl

@[simp] theorem closeOrder_accounts (n : Nat) (net : Int) (s : State) : (closeOrder n net s).accounts = s.accounts := by
  unfold closeOrder; split <;> rfl

@[simp] theorem closeOrder_records (n : Nat) (net : Int) (s : State) : (closeOrder n net s).records = s.records := by
  unfold closeOrder; split <;> rfl

@[simp] theorem closeOrder_spill (n : Nat) (net : Int) (s : State) : (closeOrder n net s).spill = s.spill := by
  unfold closeOrder; split <;> rfl

@[simp] theorem closeOrder_cal (n : Nat) (net : Int) (s : State) : (closeOrder n net s).cal = s.cal := by
  unfold closeOrder; split <;> rfl

@[simp] theorem closeOrder_pending (n : Nat) (net : Int) (s : State) : (closeOrder n net s).pending = s.pending := by
  unfold closeOrder; split <;> rfl

@[simp] theorem fileRecord_device (r : Record) (s : State) : (fileRecord r s).device = s.device := by
  simp [fileRecord]

@[simp] theorem fileRecord_bus (r : Record) (s : State) : (fileRecord r s).bus = s.bus := by
  simp [fileRecord]

@[simp] theorem fileRecord_time (r : Record) (s : State) : (fileRecord r s).time = s.time := by
  simp [fileRecord]

@[simp] theorem fileRecord_lanes (r : Record) (s : State) : (fileRecord r s).lanes = s.lanes := by
  simp [fileRecord]

@[simp] theorem fileRecord_tanks (r : Record) (s : State) : (fileRecord r s).tanks = s.tanks := by
  simp [fileRecord]

@[simp] theorem fileRecord_deliveries (r : Record) (s : State) : (fileRecord r s).deliveries = s.deliveries := by
  simp [fileRecord]

@[simp] theorem fileRecord_accounts (r : Record) (s : State) : (fileRecord r s).accounts = s.accounts := by
  simp [fileRecord]

@[simp] theorem fileRecord_orders (r : Record) (s : State) : (fileRecord r s).orders = s.orders := by
  simp [fileRecord]

@[simp] theorem fileRecord_spill (r : Record) (s : State) : (fileRecord r s).spill = s.spill := by
  simp [fileRecord]

@[simp] theorem fileRecord_cal (r : Record) (s : State) : (fileRecord r s).cal = s.cal := by
  simp [fileRecord]

@[simp] theorem fileRecord_pending (r : Record) (s : State) : (fileRecord r s).pending = s.pending := by
  simp [fileRecord]

@[simp] theorem fileRecord_records (r : Record) (s : State) : (fileRecord r s).records = s.records.file r := by
  simp [fileRecord]

/-! ## The close and the end of a transaction (R38, R43, R46) -/

/-- A lane with no context has nothing to close. -/
theorem closeLane_none {l : Lane} {s : State} (h : (s.lane l).ctx = none) : closeLane l s = s := by
  simp [closeLane, h]

/-- A close leaves its lane as afterClose gives it. -/
theorem closeLane_lane_same {l : Lane} {s : State} {c : Context} (h : (s.lane l).ctx = some c) :
    (closeLane l s).lane l = (s.lane l).afterClose c := by
  simp [closeLane, h]

/-- A close leaves every other lane as it was. -/
theorem closeLane_lane_ne (l j : Lane) (s : State) (h : j ≠ l) : (closeLane l s).lane j = s.lane j := by
  unfold closeLane
  dsimp only
  split
  · rfl
  · simp only [dropDemand_lane, post_lane]
    rw [State.lane_setLane_ne _ _ _ _ h]
    simp [State.lane, State.setTank]

/-- A close files one record under the next number and releases the reservation (R130). -/
theorem closeLane_records {l : Lane} {s : State} {c : Context} (h : (s.lane l).ctx = some c) :
    ∃ r, r.lane = l ∧ r.endReason = c.endReason.getD .stopped ∧ r.net = (s.lane l).meter.net ∧
      (closeLane l s).records = s.records.file r := by
  refine ⟨closeRecord l (s.lane l) c (closeBooking c (s.lane l).cfg.tank (s.lane l).meter.net s).2 s, rfl, rfl, rfl, ?_⟩
  simp [closeLane, h]

/-- A close reaches no tank's book. -/
@[simp] theorem closeLane_tank_book (l : Lane) (s : State) (j : Tank) : ((closeLane l s).tank j).book = (s.tank j).book := by
  unfold closeLane
  dsimp only
  split
  · rfl
  · simp only [dropDemand_tank_book, post_tank, State.tank_setLane, postIf_tank]
    by_cases hj : j = (s.lane l).cfg.tank
    · subst hj; simp [State.tank, State.setTank]
    · simp [State.tank, State.setTank, Eight.get_set_ne _ _ _ _ hj]

/-- A close removes its lane's entry from its tank's draw list and no other (R64). -/
theorem closeLane_tank_draws (l : Lane) (s : State) (j : Tank) :
    ((closeLane l s).tank j).draws =
      if (s.lane l).ctx.isSome ∧ j = (s.lane l).cfg.tank then removeDraw l (s.tank j).draws else (s.tank j).draws := by
  unfold closeLane
  dsimp only
  split
  · rename_i h; simp [h]
  · rename_i c h
    simp only [dropDemand_tank_draws, post_tank, State.tank_setLane, postIf_tank]
    by_cases hj : j = (s.lane l).cfg.tank
    · subst hj; simp [h, State.tank, State.setTank]
    · simp [h, hj, State.tank, State.setTank, Eight.get_set_ne _ _ _ _ hj]

@[simp] theorem closeLane_device (l : Lane) (s : State) : (closeLane l s).device = s.device := by
  unfold closeLane; dsimp only; split <;> simp

@[simp] theorem closeLane_bus (l : Lane) (s : State) : (closeLane l s).bus = s.bus := by
  unfold closeLane; dsimp only; split <;> simp

@[simp] theorem closeLane_time (l : Lane) (s : State) : (closeLane l s).time = s.time := by
  unfold closeLane; dsimp only; split <;> simp

@[simp] theorem closeLane_deliveries (l : Lane) (s : State) : (closeLane l s).deliveries = s.deliveries := by
  unfold closeLane; dsimp only; split <;> simp

@[simp] theorem closeLane_spill (l : Lane) (s : State) : (closeLane l s).spill = s.spill := by
  unfold closeLane; dsimp only; split <;> simp

@[simp] theorem closeLane_cal (l : Lane) (s : State) : (closeLane l s).cal = s.cal := by
  unfold closeLane; dsimp only; split <;> simp

@[simp] theorem closeLane_pending (l : Lane) (s : State) : (closeLane l s).pending = s.pending := by
  unfold closeLane; dsimp only; split <;> simp

/-- What an ending event does, by the lane's state (R38, R43). -/
theorem endLane_cases (l : Lane) (r : EndReason) (s : State) :
    (((s.lane l).state = .authorized ∨ (s.lane l).state = .starting) ∧
      endLane l r s = closeLane l (s.setLane l { (s.lane l).setReason r with state := .settling })) ∨
    ((s.lane l).state = .delivering ∧
      endLane l r s = dropDemand (s.lane l).cfg.tank (s.setLane l ((s.lane l).settle r))) ∨
    (((s.lane l).state = .disabled ∨ (s.lane l).state = .idle ∨ (s.lane l).state = .settling) ∧ endLane l r s = s) := by
  unfold endLane; cases h : (s.lane l).state <;> simp [h]

/-- An ending event leaves every other lane as it was. -/
theorem endLane_lane_ne (l j : Lane) (r : EndReason) (s : State) (h : j ≠ l) : (endLane l r s).lane j = s.lane j := by
  rcases endLane_cases l r s with ⟨_, e⟩ | ⟨_, e⟩ | ⟨_, e⟩ <;> rw [e]
  · rw [closeLane_lane_ne _ _ _ h, State.lane_setLane_ne _ _ _ _ h]
  · rw [dropDemand_lane, State.lane_setLane_ne _ _ _ _ h]

/-- After an ending event its lane is in none of the states that a trip ends. -/
theorem endLane_not_endedByTrip (l : Lane) (r : EndReason) (s : State) :
    ((endLane l r s).lane l).state.endedByTrip = false := by
  rcases endLane_cases l r s with ⟨_, e⟩ | ⟨_, e⟩ | ⟨h, e⟩ <;> rw [e]
  · cases hc : (s.lane l).ctx with
    | none =>
      rw [closeLane_none (by simp [LaneUnit.setReason, hc])]; simp [LaneState.endedByTrip]
    | some c =>
      rw [closeLane_lane_same (c := { c with endReason := some r }) (by simp [LaneUnit.setReason, hc])]
      simp only [LaneUnit.afterClose]; split <;> rfl
  · simp [LaneUnit.settle, LaneState.endedByTrip]
  · rcases h with h | h | h <;> simp [h, LaneState.endedByTrip]

@[simp] theorem endLane_tank_book (l : Lane) (r : EndReason) (s : State) (j : Tank) :
    ((endLane l r s).tank j).book = (s.tank j).book := by
  rcases endLane_cases l r s with ⟨_, e⟩ | ⟨_, e⟩ | ⟨_, e⟩ <;> rw [e] <;> simp

@[simp] theorem endLane_device (l : Lane) (r : EndReason) (s : State) : (endLane l r s).device = s.device := by
  unfold endLane; dsimp only; split <;> simp

@[simp] theorem endLane_bus (l : Lane) (r : EndReason) (s : State) : (endLane l r s).bus = s.bus := by
  unfold endLane; dsimp only; split <;> simp

@[simp] theorem endLane_time (l : Lane) (r : EndReason) (s : State) : (endLane l r s).time = s.time := by
  unfold endLane; dsimp only; split <;> simp

@[simp] theorem endLane_deliveries (l : Lane) (r : EndReason) (s : State) : (endLane l r s).deliveries = s.deliveries := by
  unfold endLane; dsimp only; split <;> simp

@[simp] theorem endLane_spill (l : Lane) (r : EndReason) (s : State) : (endLane l r s).spill = s.spill := by
  unfold endLane; dsimp only; split <;> simp

@[simp] theorem endLane_cal (l : Lane) (r : EndReason) (s : State) : (endLane l r s).cal = s.cal := by
  unfold endLane; dsimp only; split <;> simp

@[simp] theorem endLane_pending (l : Lane) (r : EndReason) (s : State) : (endLane l r s).pending = s.pending := by
  unfold endLane; dsimp only; split <;> simp

@[simp] theorem endLanes_device (ls : LaneSet) (r : EndReason) (s : State) : (endLanes ls r s).device = s.device := by
  exact foldl_keeps State.device _ (fun s l => by split <;> simp) _ s

@[simp] theorem endLanes_bus (ls : LaneSet) (r : EndReason) (s : State) : (endLanes ls r s).bus = s.bus := by
  exact foldl_keeps State.bus _ (fun s l => by split <;> simp) _ s

@[simp] theorem endLanes_time (ls : LaneSet) (r : EndReason) (s : State) : (endLanes ls r s).time = s.time := by
  exact foldl_keeps State.time _ (fun s l => by split <;> simp) _ s

@[simp] theorem endLanes_deliveries (ls : LaneSet) (r : EndReason) (s : State) : (endLanes ls r s).deliveries = s.deliveries := by
  exact foldl_keeps State.deliveries _ (fun s l => by split <;> simp) _ s

@[simp] theorem endLanes_spill (ls : LaneSet) (r : EndReason) (s : State) : (endLanes ls r s).spill = s.spill := by
  exact foldl_keeps State.spill _ (fun s l => by split <;> simp) _ s

@[simp] theorem endLanes_cal (ls : LaneSet) (r : EndReason) (s : State) : (endLanes ls r s).cal = s.cal := by
  exact foldl_keeps State.cal _ (fun s l => by split <;> simp) _ s

@[simp] theorem endLanes_pending (ls : LaneSet) (r : EndReason) (s : State) : (endLanes ls r s).pending = s.pending := by
  exact foldl_keeps State.pending _ (fun s l => by split <;> simp) _ s

@[simp] theorem endLanes_tank_book (ls : LaneSet) (r : EndReason) (s : State) (j : Tank) :
    ((endLanes ls r s).tank j).book = (s.tank j).book :=
  foldl_keeps (fun s => (s.tank j).book) _ (fun s l => by split <;> simp) _ s

/-! ## Faults, stages, trims and draws (R39 to R45, R48, R62 to R67) -/

@[simp] theorem takeFault_device (l : Lane) (f : LaneFault) (s : State) : (takeFault l f s).device = s.device := by
  unfold takeFault; dsimp only; split
  · split <;> simp
  · rfl

@[simp] theorem takeFault_bus (l : Lane) (f : LaneFault) (s : State) : (takeFault l f s).bus = s.bus := by
  unfold takeFault; dsimp only; split
  · split <;> simp
  · rfl

@[simp] theorem takeFault_time (l : Lane) (f : LaneFault) (s : State) : (takeFault l f s).time = s.time := by
  unfold takeFault; dsimp only; split
  · split <;> simp
  · rfl

@[simp] theorem takeFault_deliveries (l : Lane) (f : LaneFault) (s : State) : (takeFault l f s).deliveries = s.deliveries := by
  unfold takeFault; dsimp only; split
  · split <;> simp
  · rfl

@[simp] theorem takeFault_spill (l : Lane) (f : LaneFault) (s : State) : (takeFault l f s).spill = s.spill := by
  unfold takeFault; dsimp only; split
  · split <;> simp
  · rfl

@[simp] theorem takeFault_cal (l : Lane) (f : LaneFault) (s : State) : (takeFault l f s).cal = s.cal := by
  unfold takeFault; dsimp only; split
  · split <;> simp
  · rfl

@[simp] theorem takeFault_pending (l : Lane) (f : LaneFault) (s : State) : (takeFault l f s).pending = s.pending := by
  unfold takeFault; dsimp only; split
  · split <;> simp
  · rfl

@[simp] theorem faultIf_device (b : Bool) (l : Lane) (f : LaneFault) (s : State) : (faultIf b l f s).device = s.device := by
  unfold faultIf; split <;> simp

@[simp] theorem faultIf_bus (b : Bool) (l : Lane) (f : LaneFault) (s : State) : (faultIf b l f s).bus = s.bus := by
  unfold faultIf; split <;> simp

@[simp] theorem faultIf_time (b : Bool) (l : Lane) (f : LaneFault) (s : State) : (faultIf b l f s).time = s.time := by
  unfold faultIf; split <;> simp

@[simp] theorem faultIf_deliveries (b : Bool) (l : Lane) (f : LaneFault) (s : State) : (faultIf b l f s).deliveries = s.deliveries := by
  unfold faultIf; split <;> simp

@[simp] theorem faultIf_spill (b : Bool) (l : Lane) (f : LaneFault) (s : State) : (faultIf b l f s).spill = s.spill := by
  unfold faultIf; split <;> simp

@[simp] theorem faultIf_cal (b : Bool) (l : Lane) (f : LaneFault) (s : State) : (faultIf b l f s).cal = s.cal := by
  unfold faultIf; split <;> simp

@[simp] theorem faultIf_pending (b : Bool) (l : Lane) (f : LaneFault) (s : State) : (faultIf b l f s).pending = s.pending := by
  unfold faultIf; split <;> simp

@[simp] theorem miscountEvent_device (l : Lane) (s : State) : (miscountEvent l s).device = s.device := by
  simp [miscountEvent]

@[simp] theorem miscountEvent_bus (l : Lane) (s : State) : (miscountEvent l s).bus = s.bus := by
  simp [miscountEvent]

@[simp] theorem miscountEvent_time (l : Lane) (s : State) : (miscountEvent l s).time = s.time := by
  simp [miscountEvent]

@[simp] theorem miscountEvent_deliveries (l : Lane) (s : State) : (miscountEvent l s).deliveries = s.deliveries := by
  simp [miscountEvent]

@[simp] theorem miscountEvent_spill (l : Lane) (s : State) : (miscountEvent l s).spill = s.spill := by
  simp [miscountEvent]

@[simp] theorem miscountEvent_cal (l : Lane) (s : State) : (miscountEvent l s).cal = s.cal := by
  simp [miscountEvent]

@[simp] theorem miscountEvent_pending (l : Lane) (s : State) : (miscountEvent l s).pending = s.pending := by
  simp [miscountEvent]

@[simp] theorem evaluateStage_device (l : Lane) (s : State) : (evaluateStage l s).device = s.device := by
  unfold evaluateStage; dsimp only; split <;> rfl

@[simp] theorem evaluateStage_bus (l : Lane) (s : State) : (evaluateStage l s).bus = s.bus := by
  unfold evaluateStage; dsimp only; split <;> rfl

@[simp] theorem evaluateStage_time (l : Lane) (s : State) : (evaluateStage l s).time = s.time := by
  unfold evaluateStage; dsimp only; split <;> rfl

@[simp] theorem evaluateStage_ports (l : Lane) (s : State) : (evaluateStage l s).ports = s.ports := by
  unfold evaluateStage; dsimp only; split <;> rfl

@[simp] theorem evaluateStage_tanks (l : Lane) (s : State) : (evaluateStage l s).tanks = s.tanks := by
  unfold evaluateStage; dsimp only; split <;> rfl

@[simp] theorem evaluateStage_deliveries (l : Lane) (s : State) : (evaluateStage l s).deliveries = s.deliveries := by
  unfold evaluateStage; dsimp only; split <;> rfl

@[simp] theorem evaluateStage_accounts (l : Lane) (s : State) : (evaluateStage l s).accounts = s.accounts := by
  unfold evaluateStage; dsimp only; split <;> rfl

@[simp] theorem evaluateStage_orders (l : Lane) (s : State) : (evaluateStage l s).orders = s.orders := by
  unfold evaluateStage; dsimp only; split <;> rfl

@[simp] theorem evaluateStage_records (l : Lane) (s : State) : (evaluateStage l s).records = s.records := by
  unfold evaluateStage; dsimp only; split <;> rfl

@[simp] theorem evaluateStage_spill (l : Lane) (s : State) : (evaluateStage l s).spill = s.spill := by
  unfold evaluateStage; dsimp only; split <;> rfl

@[simp] theorem evaluateStage_cal (l : Lane) (s : State) : (evaluateStage l s).cal = s.cal := by
  unfold evaluateStage; dsimp only; split <;> rfl

@[simp] theorem evaluateStage_pending (l : Lane) (s : State) : (evaluateStage l s).pending = s.pending := by
  unfold evaluateStage; dsimp only; split <;> rfl

@[simp] theorem testPreset_device (l : Lane) (s : State) : (testPreset l s).device = s.device := by
  unfold testPreset; dsimp only; split
  · split <;> simp
  · rfl

@[simp] theorem testPreset_bus (l : Lane) (s : State) : (testPreset l s).bus = s.bus := by
  unfold testPreset; dsimp only; split
  · split <;> simp
  · rfl

@[simp] theorem testPreset_time (l : Lane) (s : State) : (testPreset l s).time = s.time := by
  unfold testPreset; dsimp only; split
  · split <;> simp
  · rfl

@[simp] theorem testPreset_deliveries (l : Lane) (s : State) : (testPreset l s).deliveries = s.deliveries := by
  unfold testPreset; dsimp only; split
  · split <;> simp
  · rfl

@[simp] theorem testPreset_spill (l : Lane) (s : State) : (testPreset l s).spill = s.spill := by
  unfold testPreset; dsimp only; split
  · split <;> simp
  · rfl

@[simp] theorem testPreset_cal (l : Lane) (s : State) : (testPreset l s).cal = s.cal := by
  unfold testPreset; dsimp only; split
  · split <;> simp
  · rfl

@[simp] theorem testPreset_pending (l : Lane) (s : State) : (testPreset l s).pending = s.pending := by
  unfold testPreset; dsimp only; split
  · split <;> simp
  · rfl

@[simp] theorem allocationCut_device (l : Lane) (a : Int) (s : State) : (allocationCut l a s).device = s.device := by
  unfold allocationCut; dsimp only; split
  · rfl
  · split <;> simp

@[simp] theorem allocationCut_bus (l : Lane) (a : Int) (s : State) : (allocationCut l a s).bus = s.bus := by
  unfold allocationCut; dsimp only; split
  · rfl
  · split <;> simp

@[simp] theorem allocationCut_time (l : Lane) (a : Int) (s : State) : (allocationCut l a s).time = s.time := by
  unfold allocationCut; dsimp only; split
  · rfl
  · split <;> simp

@[simp] theorem allocationCut_deliveries (l : Lane) (a : Int) (s : State) : (allocationCut l a s).deliveries = s.deliveries := by
  unfold allocationCut; dsimp only; split
  · rfl
  · split <;> simp

@[simp] theorem allocationCut_spill (l : Lane) (a : Int) (s : State) : (allocationCut l a s).spill = s.spill := by
  unfold allocationCut; dsimp only; split
  · rfl
  · split <;> simp

@[simp] theorem allocationCut_cal (l : Lane) (a : Int) (s : State) : (allocationCut l a s).cal = s.cal := by
  unfold allocationCut; dsimp only; split
  · rfl
  · split <;> simp

@[simp] theorem allocationCut_pending (l : Lane) (a : Int) (s : State) : (allocationCut l a s).pending = s.pending := by
  unfold allocationCut; dsimp only; split
  · rfl
  · split <;> simp

@[simp] theorem trimTank_device (k : Tank) (s : State) : (trimTank k s).device = s.device := by
  unfold trimTank; dsimp only
  rw [foldl_keeps State.device _ (fun s c => by simp) _ _]; simp

@[simp] theorem trimTank_bus (k : Tank) (s : State) : (trimTank k s).bus = s.bus := by
  unfold trimTank; dsimp only
  rw [foldl_keeps State.bus _ (fun s c => by simp) _ _]; simp

@[simp] theorem trimTank_time (k : Tank) (s : State) : (trimTank k s).time = s.time := by
  unfold trimTank; dsimp only
  rw [foldl_keeps State.time _ (fun s c => by simp) _ _]; simp

@[simp] theorem trimTank_deliveries (k : Tank) (s : State) : (trimTank k s).deliveries = s.deliveries := by
  unfold trimTank; dsimp only
  rw [foldl_keeps State.deliveries _ (fun s c => by simp) _ _]; simp

@[simp] theorem trimTank_spill (k : Tank) (s : State) : (trimTank k s).spill = s.spill := by
  unfold trimTank; dsimp only
  rw [foldl_keeps State.spill _ (fun s c => by simp) _ _]; simp

@[simp] theorem trimTank_cal (k : Tank) (s : State) : (trimTank k s).cal = s.cal := by
  unfold trimTank; dsimp only
  rw [foldl_keeps State.cal _ (fun s c => by simp) _ _]; simp

@[simp] theorem trimTank_pending (k : Tank) (s : State) : (trimTank k s).pending = s.pending := by
  unfold trimTank; dsimp only
  rw [foldl_keeps State.pending _ (fun s c => by simp) _ _]; simp

@[simp] theorem testOverrun_device (l : Lane) (s : State) : (testOverrun l s).device = s.device := by
  unfold testOverrun; dsimp only; split <;> simp

@[simp] theorem testOverrun_bus (l : Lane) (s : State) : (testOverrun l s).bus = s.bus := by
  unfold testOverrun; dsimp only; split <;> simp

@[simp] theorem testOverrun_time (l : Lane) (s : State) : (testOverrun l s).time = s.time := by
  unfold testOverrun; dsimp only; split <;> simp

@[simp] theorem testOverrun_deliveries (l : Lane) (s : State) : (testOverrun l s).deliveries = s.deliveries := by
  unfold testOverrun; dsimp only; split <;> simp

@[simp] theorem testOverrun_spill (l : Lane) (s : State) : (testOverrun l s).spill = s.spill := by
  unfold testOverrun; dsimp only; split <;> simp

@[simp] theorem testOverrun_cal (l : Lane) (s : State) : (testOverrun l s).cal = s.cal := by
  unfold testOverrun; dsimp only; split <;> simp

@[simp] theorem testOverrun_pending (l : Lane) (s : State) : (testOverrun l s).pending = s.pending := by
  unfold testOverrun; dsimp only; split <;> simp

@[simp] theorem evaluateStage_tank (l : Lane) (s : State) (j : Tank) : (evaluateStage l s).tank j = s.tank j := by
  simp [State.tank]

@[simp] theorem allocationCut_tank_book (l : Lane) (a : Int) (s : State) (j : Tank) :
    ((allocationCut l a s).tank j).book = (s.tank j).book := by
  unfold allocationCut
  dsimp only
  split
  · rfl
  · split <;> simp

/-- A trim changes no book. -/
@[simp] theorem trimTank_tank_book (k : Tank) (s : State) (j : Tank) : ((trimTank k s).tank j).book = (s.tank j).book := by
  unfold trimTank
  dsimp only
  rw [foldl_keeps (fun s => (s.tank j).book) _ (fun s c => by simp) _ _]
  by_cases h : j = k
  · subst h; simp
  · rw [State.tank_setTank_ne _ _ _ _ h]

@[simp] theorem bookDraw_device (l : Lane) (dN : Int) (s : State) : (bookDraw l dN s).device = s.device := by
  simp [bookDraw, countDrawn, mapDeliveries]

@[simp] theorem bookDraw_bus (l : Lane) (dN : Int) (s : State) : (bookDraw l dN s).bus = s.bus := by
  simp [bookDraw, countDrawn, mapDeliveries]

@[simp] theorem bookDraw_time (l : Lane) (dN : Int) (s : State) : (bookDraw l dN s).time = s.time := by
  simp [bookDraw, countDrawn, mapDeliveries]

@[simp] theorem bookDraw_spill (l : Lane) (dN : Int) (s : State) : (bookDraw l dN s).spill = s.spill := by
  simp [bookDraw, countDrawn, mapDeliveries]

@[simp] theorem bookDraw_cal (l : Lane) (dN : Int) (s : State) : (bookDraw l dN s).cal = s.cal := by
  simp [bookDraw, countDrawn, mapDeliveries]

@[simp] theorem bookDraw_pending (l : Lane) (dN : Int) (s : State) : (bookDraw l dN s).pending = s.pending := by
  simp [bookDraw, countDrawn, mapDeliveries]

@[simp] theorem pumpRunning_device (k : Tank) (s : State) : (pumpRunning k s).device = s.device := by
  rfl

@[simp] theorem pumpRunning_bus (k : Tank) (s : State) : (pumpRunning k s).bus = s.bus := by
  rfl

@[simp] theorem pumpRunning_time (k : Tank) (s : State) : (pumpRunning k s).time = s.time := by
  rfl

@[simp] theorem pumpRunning_ports (k : Tank) (s : State) : (pumpRunning k s).ports = s.ports := by
  rfl

@[simp] theorem pumpRunning_deliveries (k : Tank) (s : State) : (pumpRunning k s).deliveries = s.deliveries := by
  rfl

@[simp] theorem pumpRunning_accounts (k : Tank) (s : State) : (pumpRunning k s).accounts = s.accounts := by
  rfl

@[simp] theorem pumpRunning_orders (k : Tank) (s : State) : (pumpRunning k s).orders = s.orders := by
  rfl

@[simp] theorem pumpRunning_records (k : Tank) (s : State) : (pumpRunning k s).records = s.records := by
  rfl

@[simp] theorem pumpRunning_spill (k : Tank) (s : State) : (pumpRunning k s).spill = s.spill := by
  rfl

@[simp] theorem pumpRunning_cal (k : Tank) (s : State) : (pumpRunning k s).cal = s.cal := by
  rfl

@[simp] theorem pumpRunning_pending (k : Tank) (s : State) : (pumpRunning k s).pending = s.pending := by
  rfl

@[simp] theorem joinDemand_device (l : Lane) (s : State) : (joinDemand l s).device = s.device := by
  unfold joinDemand; dsimp only; split
  · rfl
  · rfl
  · split <;> rfl

@[simp] theorem joinDemand_bus (l : Lane) (s : State) : (joinDemand l s).bus = s.bus := by
  unfold joinDemand; dsimp only; split
  · rfl
  · rfl
  · split <;> rfl

@[simp] theorem joinDemand_time (l : Lane) (s : State) : (joinDemand l s).time = s.time := by
  unfold joinDemand; dsimp only; split
  · rfl
  · rfl
  · split <;> rfl

@[simp] theorem joinDemand_ports (l : Lane) (s : State) : (joinDemand l s).ports = s.ports := by
  unfold joinDemand; dsimp only; split
  · rfl
  · rfl
  · split <;> rfl

@[simp] theorem joinDemand_deliveries (l : Lane) (s : State) : (joinDemand l s).deliveries = s.deliveries := by
  unfold joinDemand; dsimp only; split
  · rfl
  · rfl
  · split <;> rfl

@[simp] theorem joinDemand_accounts (l : Lane) (s : State) : (joinDemand l s).accounts = s.accounts := by
  unfold joinDemand; dsimp only; split
  · rfl
  · rfl
  · split <;> rfl

@[simp] theorem joinDemand_orders (l : Lane) (s : State) : (joinDemand l s).orders = s.orders := by
  unfold joinDemand; dsimp only; split
  · rfl
  · rfl
  · split <;> rfl

@[simp] theorem joinDemand_records (l : Lane) (s : State) : (joinDemand l s).records = s.records := by
  unfold joinDemand; dsimp only; split
  · rfl
  · rfl
  · split <;> rfl

@[simp] theorem joinDemand_spill (l : Lane) (s : State) : (joinDemand l s).spill = s.spill := by
  unfold joinDemand; dsimp only; split
  · rfl
  · rfl
  · split <;> rfl

@[simp] theorem joinDemand_cal (l : Lane) (s : State) : (joinDemand l s).cal = s.cal := by
  unfold joinDemand; dsimp only; split
  · rfl
  · rfl
  · split <;> rfl

@[simp] theorem joinDemand_pending (l : Lane) (s : State) : (joinDemand l s).pending = s.pending := by
  unfold joinDemand; dsimp only; split
  · rfl
  · rfl
  · split <;> rfl

@[simp] theorem startLane_device (l : Lane) (s : State) : (startLane l s).device = s.device := by
  simp [startLane]

@[simp] theorem startLane_bus (l : Lane) (s : State) : (startLane l s).bus = s.bus := by
  simp [startLane]

@[simp] theorem startLane_time (l : Lane) (s : State) : (startLane l s).time = s.time := by
  simp [startLane]

@[simp] theorem startLane_ports (l : Lane) (s : State) : (startLane l s).ports = s.ports := by
  simp [startLane]

@[simp] theorem startLane_deliveries (l : Lane) (s : State) : (startLane l s).deliveries = s.deliveries := by
  simp [startLane]

@[simp] theorem startLane_accounts (l : Lane) (s : State) : (startLane l s).accounts = s.accounts := by
  simp [startLane]

@[simp] theorem startLane_orders (l : Lane) (s : State) : (startLane l s).orders = s.orders := by
  simp [startLane]

@[simp] theorem startLane_records (l : Lane) (s : State) : (startLane l s).records = s.records := by
  simp [startLane]

@[simp] theorem startLane_spill (l : Lane) (s : State) : (startLane l s).spill = s.spill := by
  simp [startLane]

@[simp] theorem startLane_cal (l : Lane) (s : State) : (startLane l s).cal = s.cal := by
  simp [startLane]

@[simp] theorem startLane_pending (l : Lane) (s : State) : (startLane l s).pending = s.pending := by
  simp [startLane]

/-! ## Inlets, blocks and trips (R84 to R86, R145 to R151) -/

@[simp] theorem endDischarge_device (k : Tank) (b : Bool) (s : State) : (endDischarge k b s).device = s.device := by
  rfl

@[simp] theorem endDischarge_bus (k : Tank) (b : Bool) (s : State) : (endDischarge k b s).bus = s.bus := by
  rfl

@[simp] theorem endDischarge_time (k : Tank) (b : Bool) (s : State) : (endDischarge k b s).time = s.time := by
  rfl

@[simp] theorem endDischarge_ports (k : Tank) (b : Bool) (s : State) : (endDischarge k b s).ports = s.ports := by
  rfl

@[simp] theorem endDischarge_lanes (k : Tank) (b : Bool) (s : State) : (endDischarge k b s).lanes = s.lanes := by
  rfl

@[simp] theorem endDischarge_accounts (k : Tank) (b : Bool) (s : State) : (endDischarge k b s).accounts = s.accounts := by
  rfl

@[simp] theorem endDischarge_orders (k : Tank) (b : Bool) (s : State) : (endDischarge k b s).orders = s.orders := by
  rfl

@[simp] theorem endDischarge_records (k : Tank) (b : Bool) (s : State) : (endDischarge k b s).records = s.records := by
  rfl

@[simp] theorem endDischarge_spill (k : Tank) (b : Bool) (s : State) : (endDischarge k b s).spill = s.spill := by
  rfl

@[simp] theorem endDischarge_cal (k : Tank) (b : Bool) (s : State) : (endDischarge k b s).cal = s.cal := by
  rfl

@[simp] theorem endDischarge_pending (k : Tank) (b : Bool) (s : State) : (endDischarge k b s).pending = s.pending := by
  rfl

@[simp] theorem endDischarge_inlet (k : Tank) (b : Bool) (s : State) : ((endDischarge k b s).tank k).inlet = false := by
  simp [endDischarge, State.setInlet]

theorem endDischarge_tank_ne (k j : Tank) (b : Bool) (s : State) (h : j ≠ k) : (endDischarge k b s).tank j = s.tank j := by
  unfold endDischarge State.setInlet
  rw [State.tank_setTank_ne _ _ _ _ h]
  rfl

@[simp] theorem blockInlets_device (ts : TankSet) (s : State) : (blockInlets ts s).device = s.device := by
  exact foldl_keeps State.device _ (fun s k => by split <;> simp) _ s

@[simp] theorem blockInlets_bus (ts : TankSet) (s : State) : (blockInlets ts s).bus = s.bus := by
  exact foldl_keeps State.bus _ (fun s k => by split <;> simp) _ s

@[simp] theorem blockInlets_time (ts : TankSet) (s : State) : (blockInlets ts s).time = s.time := by
  exact foldl_keeps State.time _ (fun s k => by split <;> simp) _ s

@[simp] theorem blockInlets_ports (ts : TankSet) (s : State) : (blockInlets ts s).ports = s.ports := by
  exact foldl_keeps State.ports _ (fun s k => by split <;> simp) _ s

@[simp] theorem blockInlets_lanes (ts : TankSet) (s : State) : (blockInlets ts s).lanes = s.lanes := by
  exact foldl_keeps State.lanes _ (fun s k => by split <;> simp) _ s

@[simp] theorem blockInlets_accounts (ts : TankSet) (s : State) : (blockInlets ts s).accounts = s.accounts := by
  exact foldl_keeps State.accounts _ (fun s k => by split <;> simp) _ s

@[simp] theorem blockInlets_orders (ts : TankSet) (s : State) : (blockInlets ts s).orders = s.orders := by
  exact foldl_keeps State.orders _ (fun s k => by split <;> simp) _ s

@[simp] theorem blockInlets_records (ts : TankSet) (s : State) : (blockInlets ts s).records = s.records := by
  exact foldl_keeps State.records _ (fun s k => by split <;> simp) _ s

@[simp] theorem blockInlets_spill (ts : TankSet) (s : State) : (blockInlets ts s).spill = s.spill := by
  exact foldl_keeps State.spill _ (fun s k => by split <;> simp) _ s

@[simp] theorem blockInlets_cal (ts : TankSet) (s : State) : (blockInlets ts s).cal = s.cal := by
  exact foldl_keeps State.cal _ (fun s k => by split <;> simp) _ s

@[simp] theorem blockInlets_pending (ts : TankSet) (s : State) : (blockInlets ts s).pending = s.pending := by
  exact foldl_keeps State.pending _ (fun s k => by split <;> simp) _ s

@[simp] theorem blockAll_device (ls : LaneSet) (ts : TankSet) (s : State) : (blockAll ls ts s).device = s.device := by
  simp [blockAll]

@[simp] theorem blockAll_bus (ls : LaneSet) (ts : TankSet) (s : State) : (blockAll ls ts s).bus = s.bus := by
  simp [blockAll]

@[simp] theorem blockAll_time (ls : LaneSet) (ts : TankSet) (s : State) : (blockAll ls ts s).time = s.time := by
  simp [blockAll]

@[simp] theorem blockAll_spill (ls : LaneSet) (ts : TankSet) (s : State) : (blockAll ls ts s).spill = s.spill := by
  simp [blockAll]

@[simp] theorem blockAll_cal (ls : LaneSet) (ts : TankSet) (s : State) : (blockAll ls ts s).cal = s.cal := by
  simp [blockAll]

@[simp] theorem blockAll_pending (ls : LaneSet) (ts : TankSet) (s : State) : (blockAll ls ts s).pending = s.pending := by
  simp [blockAll]

@[simp] theorem tripSource_device (i : SourceId) (s : State) : (tripSource i s).device = s.device := by
  simp [tripSource]

@[simp] theorem tripSource_bus (i : SourceId) (s : State) : (tripSource i s).bus = s.bus := by
  simp [tripSource]

@[simp] theorem tripSource_time (i : SourceId) (s : State) : (tripSource i s).time = s.time := by
  simp [tripSource]

@[simp] theorem tripSource_cal (i : SourceId) (s : State) : (tripSource i s).cal = s.cal := by
  simp [tripSource]

@[simp] theorem tripSource_pending (i : SourceId) (s : State) : (tripSource i s).pending = s.pending := by
  simp [tripSource]

@[simp] theorem riseSource_device (i : SourceId) (s : State) : (riseSource i s).device = s.device := by
  unfold riseSource; dsimp only; split <;> simp

@[simp] theorem riseSource_bus (i : SourceId) (s : State) : (riseSource i s).bus = s.bus := by
  unfold riseSource; dsimp only; split <;> simp

@[simp] theorem riseSource_time (i : SourceId) (s : State) : (riseSource i s).time = s.time := by
  unfold riseSource; dsimp only; split <;> simp

@[simp] theorem riseSource_cal (i : SourceId) (s : State) : (riseSource i s).cal = s.cal := by
  unfold riseSource; dsimp only; split <;> simp

@[simp] theorem riseSource_pending (i : SourceId) (s : State) : (riseSource i s).pending = s.pending := by
  unfold riseSource; dsimp only; split <;> simp

@[simp] theorem sampleSource_device (i : SourceId) (b : Bool) (s : State) : (sampleSource i b s).device = s.device := by
  unfold sampleSource; dsimp only; split <;> simp

@[simp] theorem sampleSource_bus (i : SourceId) (b : Bool) (s : State) : (sampleSource i b s).bus = s.bus := by
  unfold sampleSource; dsimp only; split <;> simp

@[simp] theorem sampleSource_time (i : SourceId) (b : Bool) (s : State) : (sampleSource i b s).time = s.time := by
  unfold sampleSource; dsimp only; split <;> simp

@[simp] theorem sampleSource_cal (i : SourceId) (b : Bool) (s : State) : (sampleSource i b s).cal = s.cal := by
  unfold sampleSource; dsimp only; split <;> simp

@[simp] theorem sampleSource_pending (i : SourceId) (b : Bool) (s : State) : (sampleSource i b s).pending = s.pending := by
  unfold sampleSource; dsimp only; split <;> simp

@[simp] theorem creepTrigger_device (l : Lane) (b : Bool) (s : State) : (creepTrigger l b s).device = s.device := by
  unfold creepTrigger; dsimp only; split <;> simp

@[simp] theorem creepTrigger_bus (l : Lane) (b : Bool) (s : State) : (creepTrigger l b s).bus = s.bus := by
  unfold creepTrigger; dsimp only; split <;> simp

@[simp] theorem creepTrigger_time (l : Lane) (b : Bool) (s : State) : (creepTrigger l b s).time = s.time := by
  unfold creepTrigger; dsimp only; split <;> simp

@[simp] theorem creepTrigger_cal (l : Lane) (b : Bool) (s : State) : (creepTrigger l b s).cal = s.cal := by
  unfold creepTrigger; dsimp only; split <;> simp

@[simp] theorem creepTrigger_pending (l : Lane) (b : Bool) (s : State) : (creepTrigger l b s).pending = s.pending := by
  unfold creepTrigger; dsimp only; split <;> simp

@[simp] theorem sampleHose_device (l : Lane) (s : State) : (sampleHose l s).device = s.device := by
  unfold sampleHose; dsimp only; split <;> simp

@[simp] theorem sampleHose_bus (l : Lane) (s : State) : (sampleHose l s).bus = s.bus := by
  unfold sampleHose; dsimp only; split <;> simp

@[simp] theorem sampleHose_time (l : Lane) (s : State) : (sampleHose l s).time = s.time := by
  unfold sampleHose; dsimp only; split <;> simp

@[simp] theorem sampleHose_cal (l : Lane) (s : State) : (sampleHose l s).cal = s.cal := by
  unfold sampleHose; dsimp only; split <;> simp

@[simp] theorem sampleHose_pending (l : Lane) (s : State) : (sampleHose l s).pending = s.pending := by
  unfold sampleHose; dsimp only; split <;> simp

/-- A trip adds one entry to the list, under the next number, and leaves its source TRIPPED (R147, R155). -/
theorem tripSource_spill (i : SourceId) (s : State) :
    (tripSource i s).spill =
      { addTrip (s.tripEntry i) s.spill with
        sources := s.spill.sources.set i (s.source i).trip
        capture := startCapture (s.snapshot s.spill.nextTrip) s.spill.capture
        captureTimer := captureTimerAfter (s.snapshot s.spill.nextTrip) s.spill.capture s.spill.captureTimer } := by
  simp [tripSource, addTrip]

/-- A full trip list stays full and a shorter one grows by one (R155). -/
theorem addTrip_length (e : TripEntry) (u : SpillUnit) (h : u.trips.length ≤ 16) : (addTrip e u).trips.length ≤ 16 := by
  unfold addTrip Config.tripPlaces; simp only [List.length_append, List.length_singleton]
  by_cases hl : u.trips.length < 16
  · rw [if_pos hl]; omega
  · rw [if_neg hl, List.length_tail]; omega

/-- A lane is blocked exactly when a TRIPPED source names it (R150). -/
theorem laneBlocked_iff (s : State) (l : Lane) :
    s.laneBlocked l = true ↔ ∃ i, (s.source i).isTripped = true ∧ inSet (s.source i).lanes l = true := by
  simp only [State.laneBlocked, List.any_eq_true, Source.blocksLane, Bool.and_eq_true]
  constructor
  · rintro ⟨i, _, h⟩; exact ⟨i, h⟩
  · rintro ⟨i, h⟩; exact ⟨i, mem_allSources i, h⟩

/-- An inlet is blocked exactly when a TRIPPED source names it (R150). -/
theorem inletBlocked_iff (s : State) (k : Tank) :
    s.inletBlocked k = true ↔ ∃ i, (s.source i).isTripped = true ∧ inSet (s.source i).inlets k = true := by
  simp only [State.inletBlocked, List.any_eq_true, Source.blocksInlet, Bool.and_eq_true]
  constructor
  · rintro ⟨i, _, h⟩; exact ⟨i, h⟩
  · rintro ⟨i, h⟩; exact ⟨i, mem_allSources i, h⟩

end Sys2Proof.Machine
end

