-- ==== Sys2Proof/Laws/Close.lean ====
section
/-! SUPPORT. What a close and the ends of an event do, said once in the statements' own terms: the record filed, the counters and the
kinds posted (R46, R51, R130 to R132, R136), and the lanes that one event ends (R38, R43). -/

namespace Sys2Proof.Machine

/-! ## The kinds in a set after a posting -/

/-- Two kinds share no bit. -/
theorem EventKind.bit_and_ne {k j : EventKind} (h : k ≠ j) : k.bit &&& j.bit = 0#16 := by
  cases k <;> cases j <;> first | exact absurd rfl h | decide

/-- Adding a kind to a set adds that kind alone. -/
theorem holdsKind_add (w : EventSet) (k j : EventKind) : holdsKind (w ||| k.bit) j = (holdsKind w j || decide (k = j)) := by
  by_cases h : k = j
  · subst h
    simp [holdsKind_or_bit]
  · have e : (w ||| k.bit) &&& j.bit = w &&& j.bit := by
      apply BitVec.eq_of_getLsbD_eq
      intro i _
      have := congrArg (fun x : BitVec 16 => x.getLsbD i) (EventKind.bit_and_ne h)
      simp only [BitVec.getLsbD_and, BitVec.getLsbD_or, BitVec.getLsbD_zero] at this ⊢
      cases w.getLsbD i <;> simp [this]
    simp [holdsKind, e, h]

/-- A posting adds its kind to every port's set, and no other kind (R185). -/
theorem holdsKind_post (s : State) (k j : EventKind) (i : PortId) :
    holdsKind ((post k s).port i).pendingSet j = (holdsKind (s.port i).pendingSet j || decide (k = j)) := by
  rw [post_port, Port.post_pendingSet, holdsKind_add]

/-- A posting under a condition. -/
theorem holdsKind_postIf (b : Bool) (s : State) (k j : EventKind) (i : PortId) :
    holdsKind ((postIf b k s).port i).pendingSet j = (holdsKind (s.port i).pendingSet j || (b && decide (k = j))) := by
  cases b
  · simp [postIf]
  · simp only [postIf, if_true, holdsKind_post, Bool.true_and]

/-! ## The close -/

/-- A booking posts ACCOUNT alone. -/
theorem closeBooking_holdsKind (c : Context) (t : Tank) (net : Int) (s : State) (i : PortId) {k : EventKind} (h : k ≠ .account) :
    holdsKind ((closeBooking c t net s).1.port i).pendingSet k = holdsKind (s.port i).pendingSet k := by
  unfold closeBooking
  split
  · rfl
  · simp only [holdsKind_postIf, h.symm, decide_false, Bool.and_false, Bool.or_false]
    rfl

/-- The settlement of an order posts ORDER alone. -/
theorem closeOrder_holdsKind (n : Nat) (net : Int) (s : State) (i : PortId) {k : EventKind} (h : k ≠ .order) :
    holdsKind ((closeOrder n net s).port i).pendingSet k = holdsKind (s.port i).pendingSet k := by
  unfold closeOrder
  split
  · rfl
  · simp only [holdsKind_post, h.symm, decide_false, Bool.or_false]
    rfl

/-- A filing posts RECORDS where the count comes to the threshold (R136). -/
theorem fileRecord_holdsKind (r : Record) (s : State) (i : PortId) (k : EventKind) :
    holdsKind ((fileRecord r s).port i).pendingSet k =
      (holdsKind (s.port i).pendingSet k ||
        (decide (s.records.completed.length + 1 = s.records.threshold) && decide (EventKind.records = k))) := by
  have h : s.records.reachesThreshold = decide (s.records.completed.length + 1 = s.records.threshold) := by
    rw [RecordQueue.reachesThreshold, Bool.eq_iff_iff]
    simp
    omega
  rw [fileRecord, holdsKind_postIf, h]
  rfl

/-- A close with an end reason: its record, its counters, its kinds (R46, R51, R130 to R132, R134, R136). -/
theorem closeLane_filesRecord {s : State} {l : Lane} {c : Context} {r : EndReason} (h : (s.lane l).ctx = some c)
    (hr : c.endReason = some r) : ∃ x, s.filesRecord (closeLane l s) l c x ∧ x.tells s l c r := by
  have hq : (closeLane l s).records =
      s.records.file (closeRecord l (s.lane l) c (closeBooking c (s.lane l).cfg.tank (s.lane l).meter.net s).2 s) := by
    simp [closeLane, h]
  refine ⟨{ closeRecord l (s.lane l) c (closeBooking c (s.lane l).cfg.tank (s.lane l).meter.net s).2 s with
    number := s.records.next }, ⟨?_, ?_, ?_, ?_, ?_⟩, ?_⟩
  · rw [hq]
    rfl
  · intro j
    rw [hq]
    simp [RecordQueue.file, closeRecord, inSet_and, inSet_not, inSet_bit8, Bool.and_comm]
  · rw [closeLane_lane_same h]
    rfl
  · rw [closeLane_lane_same h]
    simp [LaneUnit.afterClose, LaneUnit.shut, LaneCounters.atClose, raised, countUp, satAdd]
  · intro i
    have hd : ∀ k s', (dropDemand k s').port i = s'.port i := fun k s' => by simp [State.port]
    have hl : ∀ (s' : State) l' u', (s'.setLane l' u').port i = s'.port i := fun _ _ _ => rfl
    have ht : ∀ (s' : State) k' u', (s'.setTank k' u').port i = s'.port i := fun _ _ _ => rfl
    simp only [closeLane, h, hd, holdsKind_post, hl, holdsKind_postIf, fileRecord_holdsKind, ht]
    simp [closeOrder_holdsKind, closeBooking_holdsKind, LaneCounters.posts, counterFills, Bool.or_assoc]
  · simp [Record.tells, closeRecord, hr, recordFlags]

/-! ## The lanes that an event ends -/

/-- An end leaves the records already held, and files one for a lane AUTHORIZED or STARTING with a context alone (R38). -/
theorem endLane_completed (l : Lane) (r : EndReason) (s : State) :
    ∃ xs, (endLane l r s).records.completed = s.records.completed ++ xs ∧
      xs.map (fun x => x.lane) =
        (if (decide ((s.lane l).state = .authorized) || decide ((s.lane l).state = .starting)) && (s.lane l).ctx.isSome then [l]
        else []) ∧
      ∀ x ∈ xs, x.endReason = r ∧ ∃ c, (s.lane x.lane).ctx = some c ∧ x.tag = c.tag ∧ x.order = c.order
        ∧ x.stageAtEnd = c.stageAtEnd ∧ x.net = (s.lane x.lane).meter.net := by
  have key : (s.lane l).state = .authorized ∨ (s.lane l).state = .starting →
      endLane l r s = closeLane l (s.setLane l { (s.lane l).setReason r with state := .settling }) := by
    rintro (h | h) <;> simp [endLane, h]
  by_cases h : (s.lane l).state = .authorized ∨ (s.lane l).state = .starting
  · rw [key h]
    cases hc : (s.lane l).ctx with
    | none => exact ⟨[], by rw [closeLane_none (by simp [LaneUnit.setReason, hc])]; simp, by simp, by simp⟩
    | some c =>
      obtain ⟨x, hf, ht⟩ := closeLane_filesRecord (s := s.setLane l { (s.lane l).setReason r with state := .settling }) (l := l)
        (c := { c with endReason := some r }) (r := r) (by simp [LaneUnit.setReason, hc]) rfl
      refine ⟨[x], by rw [hf.1]; rfl, ?_, ?_⟩
      · rw [ht]
        simp [h]
      · intro y hy
        rw [List.mem_singleton.1 hy, ht]
        exact ⟨rfl, c, hc, rfl, rfl, rfl, by simp [LaneUnit.setReason]⟩
  · refine ⟨[], ?_, by simp [not_or.1 h], by simp⟩
    cases hs : (s.lane l).state <;> simp_all [endLane]

/-- The lane that an end names: out of the list of R151's states, and SETTLING from DELIVERING with its reason (R38, R43). -/
theorem endLane_lane (l : Lane) (r : EndReason) (s : State) {c : Context} (hc : (s.lane l).ctx = some c) :
    ((s.lane l).state = .authorized ∨ (s.lane l).state = .starting →
      ((endLane l r s).lane l).ctx = none ∧ ((endLane l r s).lane l).state.isOpen = false) ∧
    ((s.lane l).state = .delivering →
      ((endLane l r s).lane l).state = .settling ∧ ((endLane l r s).lane l).vlo = false ∧ ((endLane l r s).lane l).vhi = false ∧
        ((endLane l r s).lane l).settleTimer = some (s.lane l).cfg.settleTime ∧
        ((endLane l r s).lane l).ctx = some { c with endReason := some r }) := by
  have key : ∀ u : LaneUnit, u.ctx = some { c with endReason := some r } →
      ((closeLane l (s.setLane l u)).lane l).ctx = none ∧ ((closeLane l (s.setLane l u)).lane l).state.isOpen = false := by
    intro u hu
    rw [closeLane_lane_same (c := { c with endReason := some r }) (by simpa using hu)]
    refine ⟨rfl, ?_⟩
    simp only [LaneUnit.afterClose]
    split <;> rfl
  constructor
  · rintro (h | h) <;> simp only [endLane, h] <;> exact key _ (by simp [LaneUnit.setReason, hc])
  · intro h
    simp [endLane, h, LaneUnit.settle, LaneUnit.shut, LaneUnit.setReason, hc]

/-- What an end leaves of its lane depends on that lane alone. -/
theorem endLane_lane_congr (l : Lane) (r : EndReason) {s t : State} (h : t.lane l = s.lane l) :
    (endLane l r t).lane l = (endLane l r s).lane l := by
  have key : ∀ u : LaneUnit, (closeLane l (t.setLane l u)).lane l = (closeLane l (s.setLane l u)).lane l := by
    intro u
    cases hc : u.ctx with
    | none => rw [closeLane_none (by simpa using hc), closeLane_none (by simpa using hc)]; simp
    | some c =>
      rw [closeLane_lane_same (c := c) (by simpa using hc), closeLane_lane_same (c := c) (by simpa using hc)]
      simp
  simp only [endLane, h]
  split <;> simp [key, h]

/-- The fold of the ends of a set's lanes, over any list of lanes without repeats. -/
theorem endFold (ls : LaneSet) (r : EndReason) (as : List Lane) : ∀ s : State, as.Nodup →
    ∃ xs, (as.foldl (fun s l => if inSet ls l then endLane l r s else s) s).records.completed = s.records.completed ++ xs ∧
      xs.map (fun x => x.lane) =
        as.filter (fun l =>
          inSet ls l && (decide ((s.lane l).state = .authorized) || decide ((s.lane l).state = .starting)) &&
            (s.lane l).ctx.isSome) ∧
      (∀ x ∈ xs, x.endReason = r ∧ ∃ c, (s.lane x.lane).ctx = some c ∧ x.tag = c.tag ∧ x.order = c.order
        ∧ x.stageAtEnd = c.stageAtEnd ∧ x.net = (s.lane x.lane).meter.net) ∧
      (∀ l, l ∉ as → (as.foldl (fun s l => if inSet ls l then endLane l r s else s) s).lane l = s.lane l) ∧
      ∀ l ∈ as, inSet ls l = true →
        (as.foldl (fun s l => if inSet ls l then endLane l r s else s) s).lane l = (endLane l r s).lane l := by
  induction as with
  | nil => exact fun s _ => ⟨[], by simp, rfl, by simp, fun _ _ => rfl, by simp⟩
  | cons a as ih =>
    intro s hn
    obtain ⟨ha, hn⟩ := List.nodup_cons.1 hn
    obtain ⟨s1, hs1⟩ : ∃ s1, s1 = if inSet ls a then endLane a r s else s := ⟨_, rfl⟩
    have hne : ∀ j, j ≠ a → s1.lane j = s.lane j := by
      intro j hj
      rw [hs1]
      split
      · exact endLane_lane_ne a j r s hj
      · rfl
    obtain ⟨ys, h1, h2, h3, h4, h5⟩ := ih s1 hn
    obtain ⟨zs, g1, g2, g3⟩ : ∃ zs, s1.records.completed = s.records.completed ++ zs ∧
        zs.map (fun x => x.lane) =
          (if inSet ls a && (decide ((s.lane a).state = .authorized) || decide ((s.lane a).state = .starting)) &&
              (s.lane a).ctx.isSome then [a] else []) ∧
        ∀ x ∈ zs, x.endReason = r ∧ ∃ c, (s.lane x.lane).ctx = some c ∧ x.tag = c.tag ∧ x.order = c.order
          ∧ x.stageAtEnd = c.stageAtEnd ∧ x.net = (s.lane x.lane).meter.net := by
      cases hin : inSet ls a
      · exact ⟨[], by simp [hs1, hin], by simp, by simp⟩
      · simpa [hs1, hin] using endLane_completed a r s
    have hmem : ∀ j ∈ as, j ≠ a := fun j hj e => ha (e ▸ hj)
    simp only [List.foldl_cons, ← hs1]
    refine ⟨zs ++ ys, by rw [h1, g1, List.append_assoc], ?_, ?_, ?_, ?_⟩
    · rw [List.map_append, g2, h2, List.filter_cons]
      have : as.filter (fun l => inSet ls l &&
            (decide ((s1.lane l).state = .authorized) || decide ((s1.lane l).state = .starting)) && (s1.lane l).ctx.isSome) =
          as.filter (fun l => inSet ls l &&
            (decide ((s.lane l).state = .authorized) || decide ((s.lane l).state = .starting)) && (s.lane l).ctx.isSome) :=
        List.filter_congr (fun j hj => by rw [hne j (hmem j hj)])
      rw [this]
      split <;> rfl
    · intro x hx
      rcases List.mem_append.1 hx with hx | hx
      · exact g3 x hx
      · have hl : x.lane ∈ as := by
          have : x.lane ∈ ys.map (fun x => x.lane) := List.mem_map.2 ⟨x, hx, rfl⟩
          rw [h2] at this
          exact (List.mem_filter.1 this).1
        simpa [hne x.lane (hmem _ hl)] using h3 x hx
    · intro j hj
      rw [h4 j (fun h => hj (List.mem_cons_of_mem _ h)), hne j (fun h => hj (h ▸ List.mem_cons_self))]
    · intro j hj hin
      rcases List.mem_cons.1 hj with rfl | hj
      · rw [h4 j ha, hs1, if_pos hin]
      · rw [h5 j hj hin]
        exact endLane_lane_congr j r (hne j (hmem j hj))

/-- The lanes of a set, ended in lane order (R38, R43, R72, R151): the records filed, and each lane's own end. -/
theorem endLanes_endsLanes (ls : LaneSet) (r : EndReason) (s : State) :
    ∃ xs, (endLanes ls r s).records.completed = s.records.completed ++ xs ∧ s.endsLanes (endLanes ls r s) (inSet ls) r xs := by
  obtain ⟨xs, h1, h2, h3, _, h5⟩ := endFold ls r allEight s allEight_nodup
  refine ⟨xs, h1, h2, h3, ?_⟩
  intro l c hin hc
  have e : (endLanes ls r s).lane l = (endLane l r s).lane l := h5 l (mem_allEight l) hin
  rw [e]
  exact endLane_lane l r s hc

/-! ## Deliveries -/

/-- No tank named, nothing interrupted. -/
theorem interruptedAt_none (stamp : Nat × Bool) (e : DeliveryEntry) : e.interruptedAt (fun _ => false) stamp = e := by
  simp [DeliveryEntry.interruptedAt]

/-- The fold of the closings of a set's inlets, over any list of tanks. -/
theorem blockFold (ts : TankSet) (as : List Tank) : ∀ s : State,
    (as.foldl (fun s t => if inSet ts t then endDischarge t true s else s) s).deliveries =
      { s.deliveries with
        entries := s.deliveries.entries.map (DeliveryEntry.interruptedAt (fun k => inSet ts k && decide (k ∈ as)) s.stamp) } := by
  induction as with
  | nil =>
    intro s
    have : DeliveryEntry.interruptedAt (fun _ => false) s.stamp = id := funext (interruptedAt_none s.stamp)
    simp [this]
  | cons a as ih =>
    intro s
    rw [List.foldl_cons, ih]
    cases hin : inSet ts a
    · have : (fun k => inSet ts k && decide (k ∈ a :: as)) = fun k => inSet ts k && decide (k ∈ as) := by
        funext k
        by_cases hk : k = a
        · subst hk
          simp [hin]
        · simp [hk]
      rw [this]
      rfl
    · simp only [if_true, endDischarge, State.setInlet, mapDeliveries, State.setTank_deliveries, List.map_map]
      congr 1
      apply List.map_congr_left
      intro e _
      by_cases hk : e.tank = a <;> by_cases hf : e.state = .filling <;>
        simp [DeliveryEntry.interruptedAt, DeliveryEntry.startSettling, DeliveryEntry.stamped, hk, hf, hin, State.stamp]

/-- The inlets of a set closed: every FILLING entry of their tanks interrupted, and no other entry touched (R86, R151). -/
theorem blockInlets_deliveries (ts : TankSet) (s : State) :
    (blockInlets ts s).deliveries =
      { s.deliveries with entries := s.deliveries.entries.map (DeliveryEntry.interruptedAt (inSet ts) s.stamp) } := by
  have : (fun k => inSet ts k && decide (k ∈ allEight)) = inSet ts := funext (fun k => by simp [mem_allEight])
  rw [blockInlets, blockFold, this]

/-- An entry whose timer and count have stopped, abandoned at start-up where it is active (R90). -/
theorem abandonAtStartUp_afterStartUp (stamp : Nat × Bool) (e : DeliveryEntry) :
    DeliveryEntry.abandonAtStartUp stamp { e with timer := none, waited := none } = e.afterStartUp stamp := by
  cases h : e.state.active <;>
    simp [DeliveryEntry.abandonAtStartUp, DeliveryEntry.afterStartUp, h, DeliveryEntry.finish, DeliveryEntry.stamped]

end Sys2Proof.Machine
end

