-- ==== Sys2Proof/Laws/Wire.lean ====
section
/-! SUPPORT. Lengths on the wire: bytes, runs of bits, and that every READ_TANK payload fits a reply (R178, R192). -/

namespace Sys2Proof.Machine

@[simp] theorem bytesOf_length (n v : Nat) : (bytesOf n v).length = n := by
  induction n with
  | zero => rfl
  | succ n ih => simp [bytesOf, ih]

@[simp] theorem bytesOfInt_length (n : Nat) (z : Int) : (bytesOfInt n z).length = n := bytesOf_length _ _

@[simp] theorem bitsOf_length (n v : Nat) : (bitsOf n v).length = n := by
  induction n with
  | zero => rfl
  | succ n ih => simp [bitsOf, ih]

@[simp] theorem bitsOfInt_length (n : Nat) (z : Int) : (bitsOfInt n z).length = n := bitsOf_length _ _

@[simp] theorem packBits_length (bs : List Bool) : (packBits bs).length = (bs.length + 7) / 8 := bytesOf_length _ _

/-- An optional field is its presence bit and at most its bits. -/
theorem optBits_length_le {α : Type} {f : α → List Bool} {n : Nat} (h : ∀ x, (f x).length = n) (o : Option α) :
    (optBits f o).length ≤ n + 1 := by
  cases o <;> simp [optBits, h]

/-- A list is its count and its items, each of the same length. -/
theorem listBits_length {α : Type} {f : α → List Bool} {n : Nat} (h : ∀ x, (f x).length = n) (xs : List α) :
    (listBits f xs).length = 8 + n * xs.length := by
  induction xs with
  | nil => simp [listBits]
  | cons x xs ih => simp [listBits] at ih ⊢; rw [h, ih]; ring

@[simp] theorem TankSummary.bytes_length (r : TankSummary) : r.bytes.length = 28 := by simp [TankSummary.bytes]

/-- R178: the READ_TANK payload of a tank with at most 16 strapping points and 8 draws fits the 239 bytes of a reply. -/
theorem TankReport.bytes_length_le (r : TankReport) (hp : r.points.length ≤ 16) (hd : r.draws.length ≤ 8) :
    r.bytes.length ≤ 239 := by
  have h1 := listBits_length (f := pointBits) (n := 49) (by simp [pointBits]) r.points
  have h2 := listBits_length (f := Draw.bits) (n := 56) (by simp [Draw.bits]) r.draws
  have h3 := optBits_length_le (f := bitsOf 4) (n := 4) (by simp) r.pumpTimer
  have h4 := optBits_length_le (f := LossWindow.bits) (n := 94) (by simp [LossWindow.bits]) r.window
  have h5 := optBits_length_le (f := bitsOfInt 33) (n := 33) (by simp) r.lastLoss
  simp [TankReport.bytes, TankReport.bits, TankConfig.bits, ZoneRuns.bits]
  omega

/-- A reply frame is seven bytes more than its payload (R178, R193). -/
theorem replyFrame_length (seq code status : Byte) (payload : List Byte) :
    (replyFrame seq code status payload).length = payload.length + 7 := by
  simp [replyFrame]

end Sys2Proof.Machine
end

