-- ==== Sys2Proof/Tests/Slice0.lean ====
section
/-! SUPPORT. The model's own tests: the ill-formed terms that WellFormed refuses, the spec's worked cases, and a witness for
every statement with hypotheses. Expected results are the spec's own figures, by rule. -/

namespace Sys2Proof.Tests

open Machine

/-! ## Small states -/

/-- The device right after its first start-up, in RUNNING. -/
def running : State := enterRunning 0#8 0#8 State.reset

/-- A request frame on the console, a level-0 port. -/
def frame : Frame := { port := .console, seq := 7#8 }

/-- The state after a command. -/
def after (c : Instr) (s : State) : State :=
  match exec c s with
  | .next t => t
  | _ => s

/-- The status of a port's reply. -/
def answered (s : State) (i : PortId) : Option Status := (s.port i).reply.map (fun r => r.status)

/-- Lane L0 changed. -/
def withLane (f : LaneUnit → LaneUnit) (s : State) : State := s.setLane 0 (f (s.lane 0))

/-- Tank T0 changed. -/
def withTank (f : TankUnit → TankUnit) (s : State) : State := s.setTank 0 (f (s.tank 0))

/-- The context of an open transaction of 8,000 cL. -/
def context : Context :=
  { tag := 1#48, order := 0, preset := 8000, effPreset := 8000, hours := none, startTime := 0, flags := .clear,
    endReason := none, stageAtEnd := none, figures := ⟨0, 0, 0, 0, 0, .clear⟩, faultTaken := false, overrunTaken := false }

/-- L0 with an open transaction in a state, its draw entry and its reservation. -/
def openIn (st : LaneState) : State :=
  { withTank (fun k => { k with book := 100000, draws := [⟨0, 8000, 8000⟩] })
      (withLane (fun u => { u with state := st, ctx := some context }) running) with
    records := { factoryRecords with reserved := 1#8 } }

/-- L0 DELIVERING in LOW_START with the hook asserted. -/
def delivering : State :=
  withLane (fun u => { u with stage := some .lowStart, vlo := true, hook := ⟨true, some true, true⟩ })
    (withTank (fun k => k.setPump .running none) (openIn .delivering))

/-- A service machine with tag 000000000001 enrolled in slot 28 (R94's worked case). -/
def withMachine (s : State) : State :=
  s.setSlots [(28, Account.enrolled 1#48 .service 0xFF#8 1000000 [])]

/-- A delivery entry of T0. -/
def entry (st : DeliveryState) : DeliveryEntry :=
  { number := 41, tank := 0, identity := 0#64, docket := 3400000, state := st, flags := .clear,
    conf := some ⟨120, 20000, 5000, 9000000, 600000, 0⟩, closing := none, received := none, variance := none,
    announceTime := 0, endTime := none, completeTime := none, timer := some 5, waited := none }

/-- The delivery list with one entry. -/
def withEntry (e : DeliveryEntry) (s : State) : State := { s with deliveries := { entries := [e], next := 42 } }

/-- An order of tag 000000000001 for T0. -/
def order (n : Nat) : Order :=
  { number := n, tag := 1#48, tank := 0, volume := 5000, priority := false, placedAt := 0, expiry := 60, claimedBy := none }

/-- The order list with one order. -/
def withOrder (o : Order) (s : State) : State := { s with orders := { orders := [o], next := 4 } }

/-- A completed record with a number. -/
def record (n : Nat) : Record :=
  { number := n, lane := 0, tank := 0, endReason := .preset, flags := recordFlags .clear .clear false false, order := 0,
    tag := 1#48, startTime := 0, endTime := 0, hours := none, preset := 0, gross := 0, net := 0, overrun := 0, lastT10 := 150,
    totalizer := 0, calChanges := 0, miscounts := 0, stageAtEnd := none }

/-- A gauge head's reply: level 10,000, T10 150, valid (R57). -/
def headReply : List Byte := [0x00#8, 0x27#8, 0x10#8, 0x00#8, 0x96#8, 0x01#8, 0xCE#8]

/-- The frame of READ_EVENTS with sequence byte 7, its CRC in the last two bytes (R193). -/
def eventsFrame : List Byte :=
  0xC3#8 :: ([0x02#8, 0x07#8, 0x01#8] ++ bytesOf 2 (crc16 [0x02#8, 0x07#8, 0x01#8]).toNat)

/-! ## Ill-formed commands (WellFormed) -/

theorem test_wf_refuses_wide_numbers :
    Instr.wf (.readLane frame 256) = false ∧ Instr.wf (.readTank frame 256) = false ∧
    Instr.wf (.readAccounts frame 0 256) = false ∧ Instr.wf (.readAccounts frame 256 1) = false ∧
    Instr.wf (.setCursor frame 256) = false ∧ Instr.wf (.readDelivery frame 65536) = false ∧
    Instr.wf (.readTrips frame 256) = false ∧ Instr.wf (.readTripsSource frame 256) = false ∧
    Instr.wf (.readCapture frame 256) = false ∧ Instr.wf (.readRecordStatus frame 256) = false ∧
    Instr.wf (.announcementTimerExpiry 65536) = false ∧ Instr.wf (.deliverySettleTimerExpiry 65536) = false ∧
    Instr.wf (.orderDeadline 65536) = false ∧ Instr.wf (.setAttention frame 0#16 256 10) = false ∧
    Instr.wf (.setAttention frame 0#16 0 256) = false := by decide

theorem test_wf_refuses_wide_order_and_lane_values :
    Instr.wf (.placeOrder frame 1#48 256 1 0 0) = false ∧ Instr.wf (.placeOrder frame 1#48 0 16777216 0 0) = false ∧
    Instr.wf (.placeOrder frame 1#48 0 1 256 0) = false ∧ Instr.wf (.placeOrder frame 1#48 0 1 0 16777216) = false ∧
    Instr.wf (.cancelOrder frame 65536) = false ∧ Instr.wf (.openLane frame 256 1#48 0 none none 0) = false ∧
    Instr.wf (.openLane frame 0 1#48 65536 none none 0) = false ∧
    Instr.wf (.openLane frame 0 1#48 0 (some 16777215) none 0) = false ∧
    Instr.wf (.openLane frame 0 1#48 0 none (some 16777215) 0) = false ∧
    Instr.wf (.openLane frame 0 1#48 0 none none 256) = false ∧ Instr.wf (.stopLane frame 256) = false ∧
    Instr.wf (.enableLane frame 256) = false ∧ Instr.wf (.disableLane frame 256) = false := by decide

theorem test_wf_refuses_wide_stock_and_machine_values :
    Instr.wf (.setTankReserve frame 256 0) = false ∧ Instr.wf (.setTankReserve frame 0 4294967296) = false ∧
    Instr.wf (.adjustStock frame 256 0 0) = false ∧ Instr.wf (.adjustStock frame 0 4294967296 0) = false ∧
    Instr.wf (.adjustStock frame 0 0 256) = false ∧ Instr.wf (.ackAlarms frame 256) = false ∧
    Instr.wf (.enrolMachine frame 1#48 256 0#8 1 []) = false ∧
    Instr.wf (.enrolMachine frame 1#48 0 0#8 16777216 []) = false ∧
    Instr.wf (.enrolMachine frame 1#48 0 0#8 1 (List.replicate 26 ⟨0, 10, 1, none⟩)) = false ∧
    Instr.wf (.enrolMachine frame 1#48 0 0#8 1 [⟨256, 10, 1, none⟩]) = false ∧
    Instr.wf (.enrolMachine frame 1#48 0 0#8 1 [⟨0, 65536, 1, none⟩]) = false ∧
    Instr.wf (.enrolMachine frame 1#48 0 0#8 1 [⟨0, 10, 16777216, none⟩]) = false ∧
    Instr.wf (.enrolMachine frame 1#48 0 0#8 1 [⟨0, 10, 1, some 16777215⟩]) = false ∧
    Instr.wf (.setMachine frame 1#48 256 0 0#8 1 []) = false ∧ Instr.wf (.setMachine frame 1#48 0 256 0#8 1 []) = false ∧
    Instr.wf (.setMachine frame 1#48 0 0 0#8 16777216 []) = false := by decide

theorem test_wf_refuses_wide_delivery_and_safety_values :
    Instr.wf (.announceDelivery frame 256 0#64 1) = false ∧ Instr.wf (.announceDelivery frame 0 0#64 4294967296) = false ∧
    Instr.wf (.confirmDelivery frame 65536 none none none) = false ∧
    Instr.wf (.confirmDelivery frame 1 (some 65535) none none) = false ∧
    Instr.wf (.confirmDelivery frame 1 none (some 16777215) none) = false ∧
    Instr.wf (.confirmDelivery frame 1 none none (some 16777215)) = false ∧ Instr.wf (.endDelivery frame 65536) = false ∧
    Instr.wf (.withdrawDelivery frame 65536) = false ∧ Instr.wf (.releaseDelivery frame 65536) = false ∧
    Instr.wf (.collectRecords frame 256) = false ∧ Instr.wf (.releaseRecords frame 4294967296) = false ∧
    Instr.wf (.rearm frame 256) = false ∧ Instr.wf (.releaseTrips frame 4294967296) = false ∧
    Instr.wf (.setSource frame 256 ⟨1, 1, 0, 0#8, 0#8, 0⟩) = false ∧
    Instr.wf (.setSource frame 0 ⟨256, 1, 0, 0#8, 0#8, 0⟩) = false ∧
    Instr.wf (.setSource frame 0 ⟨1, 256, 0, 0#8, 0#8, 0⟩) = false ∧
    Instr.wf (.setSource frame 0 ⟨1, 1, 65536, 0#8, 0#8, 0⟩) = false ∧
    Instr.wf (.setSource frame 0 ⟨1, 1, 0, 0#8, 0#8, 256⟩) = false ∧ Instr.wf (.setSourceUnit frame 256) = false := by decide

theorem test_wf_refuses_wide_settings :
    Instr.wf (.setClass frame 256 0 1) = false ∧ Instr.wf (.setClass frame 0 256 1) = false ∧
    Instr.wf (.setClass frame 0 0 16777216) = false ∧ Instr.wf (.setRecordPolicy frame 256 1) = false ∧
    Instr.wf (.setRecordPolicy frame 0 256) = false ∧ Instr.wf (.setClock frame 4294967296) = false ∧
    Instr.wf (.setAccess frame ⟨256, 0, 0, 0#32, 0#32, 0#32, 0⟩) = false ∧
    Instr.wf (.setAccess frame ⟨0, 256, 0, 0#32, 0#32, 0#32, 0⟩) = false ∧
    Instr.wf (.setAccess frame ⟨0, 0, 256, 0#32, 0#32, 0#32, 0⟩) = false ∧
    Instr.wf (.setAccess frame ⟨0, 0, 0, 0#32, 0#32, 0#32, 256⟩) = false ∧
    Instr.wf (.setMeter frame 256 factoryMeter) = false ∧
    Instr.wf (.setMeter frame 0 { factoryMeter with kx := 16777216 }) = false ∧
    Instr.wf (.setMeter frame 0 { factoryMeter with b1 := 65536 }) = false ∧
    Instr.wf (.setMeter frame 0 { factoryMeter with b2 := 65536 }) = false ∧
    Instr.wf (.setMeter frame 0 { factoryMeter with b3 := 65536 }) = false ∧
    Instr.wf (.setMeter frame 0 { factoryMeter with c0 := 32768 }) = false ∧
    Instr.wf (.setMeter frame 0 { factoryMeter with c1 := -32769 }) = false ∧
    Instr.wf (.setMeter frame 0 { factoryMeter with c2 := 32768 }) = false ∧
    Instr.wf (.setMeter frame 0 { factoryMeter with c3 := -32769 }) = false ∧
    Instr.wf (.setMeter frame 0 { factoryMeter with epr := 65536 }) = false := by decide

theorem test_wf_refuses_wide_calibration_values :
    Instr.wf (.setProduct frame 256 0) = false ∧ Instr.wf (.setProduct frame 0 65536) = false ∧
    Instr.wf (.setStrapping frame 256 []) = false ∧
    Instr.wf (.setStrapping frame 0 (List.replicate 35 (0, 0))) = false ∧
    Instr.wf (.setStrapping frame 0 [(16777216, 0)]) = false ∧ Instr.wf (.setStrapping frame 0 [(0, 4294967296)]) = false ∧
    Instr.wf (.lockCal frame 4294967296) = false ∧ Instr.wf (.unlockCal frame 4294967296) = false ∧
    Instr.wf (.gaugeSample 0 (List.replicate 8 0#8)) = false := by decide

/-- SET_LANE's values, in range. -/
def laneValues : LaneSetting := ⟨0, 500, 3000, 120, 4, 3, 1000, 3, 200, 200⟩

/-- SET_TANK's values, in range (R55). -/
def tankValues : TankSetting := ⟨0, 20000000, 1, 5000, 15000, 170000, 185000, 3, 5000, 20000, 600⟩

theorem test_wf_refuses_wide_lane_configuration :
    Instr.wf (.setLane frame 256 laneValues) = false ∧ Instr.wf (.setLane frame 0 { laneValues with tank := 256 }) = false ∧
    Instr.wf (.setLane frame 0 { laneValues with slowStart := 16777216 }) = false ∧
    Instr.wf (.setLane frame 0 { laneValues with slowdown := 16777216 }) = false ∧
    Instr.wf (.setLane frame 0 { laneValues with authTime := 65536 }) = false ∧
    Instr.wf (.setLane frame 0 { laneValues with noFlowTime := 256 }) = false ∧
    Instr.wf (.setLane frame 0 { laneValues with settleTime := 256 }) = false ∧
    Instr.wf (.setLane frame 0 { laneValues with overrunLimit := 65536 }) = false ∧
    Instr.wf (.setLane frame 0 { laneValues with miscountLimit := 256 }) = false ∧
    Instr.wf (.setLane frame 0 { laneValues with reverseLimit := 65536 }) = false ∧
    Instr.wf (.setLane frame 0 { laneValues with creepLimit := 16777216 }) = false := by decide

theorem test_wf_refuses_wide_tank_configuration :
    Instr.wf (.setTank frame 256 tankValues) = false ∧ Instr.wf (.setTank frame 0 { tankValues with cls := 256 }) = false ∧
    Instr.wf (.setTank frame 0 { tankValues with capacity := 4294967296 }) = false ∧
    Instr.wf (.setTank frame 0 { tankValues with gaugeFitted := 256 }) = false ∧
    Instr.wf (.setTank frame 0 { tankValues with lowLow := 16777216 }) = false ∧
    Instr.wf (.setTank frame 0 { tankValues with low := 16777216 }) = false ∧
    Instr.wf (.setTank frame 0 { tankValues with high := 16777216 }) = false ∧
    Instr.wf (.setTank frame 0 { tankValues with highHigh := 16777216 }) = false ∧
    Instr.wf (.setTank frame 0 { tankValues with zoneDebounce := 256 }) = false ∧
    Instr.wf (.setTank frame 0 { tankValues with minFill := 16777216 }) = false ∧
    Instr.wf (.setTank frame 0 { tankValues with lossLimit := 16777216 }) = false ∧
    Instr.wf (.setTank frame 0 { tankValues with lossWindow := 65536 }) = false := by decide

set_option maxRecDepth 8000 in
/-- A frame command is the event it names: an acceptable frame is no rejection, a known request is not unknown (R175, R177).
The frame is READ_EVENTS with sequence byte 7: its CRC stands in its last two bytes. -/
theorem test_wf_refuses_mislabelled_frames :
    Instr.wf (.frameRejected .console eventsFrame false) = false ∧
    Instr.wf (.frameRejected .console (List.replicate 247 0#8) false) = false ∧
    Instr.wf (.unknownRequest frame 0x01#8 []) = false := by decide

set_option maxRecDepth 8000 in
theorem test_wf_refuses_long_payload : Instr.wf (.unknownRequest frame 0x01#8 (List.replicate 241 0#8)) = false := by decide

theorem test_wf_takes_good_commands :
    Instr.wf (.setLane frame 0 laneValues) = true ∧ Instr.wf (.setTank frame 0 tankValues) = true ∧
    Instr.wf (.openLane frame 0 1#48 0 (some 2000000) none 0) = true ∧ Instr.wf (.setMeter frame 0 factoryMeter) = true ∧
    Instr.wf (.unknownRequest frame 0x7F#8 []) = true := by decide

/-! ## The spec's worked cases -/

set_option maxRecDepth 8000 in
/-- R94's worked case: the register after 00 00 00 00 00 is 0x110C, and the tag's bucket is 7. -/
theorem test_crc_bucket :
    crc16 [0x00#8] = 0xE1F0#16 ∧ crc16 (List.replicate 5 0x00#8) = 0x110C#16 ∧ crc16 (tagBytes 1#48) = 0x1E31#16 ∧
    bucketOf 1#48 = 7 := by decide

/-- L0 in the worked case of R13 to R15: Kx 240,500, c3 +1,200, c0 −800, T10 283, α 830. -/
def metered (acc nMicro : Int) (g n : Int) (edges : Int) : State :=
  withTank (fun k => { k with t10 := some 283 })
    (withLane
      (fun u => { u with
        ctx := some { context with effPreset := 8000 }
        meter := { u.meter with
          params := ⟨240500, 100, 400, 800, -800, 0, 0, 1200, 0⟩, accA := acc, accN := nMicro, gross := g, net := n,
          sampleAcc := edges } })
      delivering)

/-- The meter of L0 after its sample. -/
def sampled (s : State) : Meter := ((after (.meterSample 0) s).lane 0).meter

theorem test_sample_first :
    (sampled (metered 0 0 0 0 361)).rate = 900 ∧ (sampled (metered 0 0 0 0 361)).accA = 361433200 ∧
    (sampled (metered 0 0 0 0 361)).gross = 150 ∧ (sampled (metered 0 0 0 0 361)).accN = 148344150 ∧
    (sampled (metered 0 0 0 0 361)).net = 148 ∧
    ((after (.meterSample 0) (metered 0 0 0 0 361)).tank 0).book = 100000 - 148 := by decide

theorem test_sample_carries_residue :
    (sampled (metered 722866400 296688300 300 296 361)).gross = 450 ∧
    (sampled (metered 722866400 296688300 300 296 361)).net = 445 ∧
    ((after (.meterSample 0) (metered 722866400 296688300 300 296 361)).tank 0).book = 100000 - 149 := by decide

theorem test_sample_reverse :
    (sampled (metered 1084299600 445032450 450 445 (-40))).rate = 99 ∧
    (sampled (metered 1084299600 445032450 450 445 (-40))).gross = 434 ∧
    (sampled (metered 1084299600 445032450 450 445 (-40))).accN = 429209074 ∧
    (sampled (metered 1084299600 445032450 450 445 (-40))).net = 429 ∧
    (sampled (metered 1084299600 445032450 450 445 (-40))).revSum = 16 ∧
    (sampled (metered 1084299600 445032450 450 445 (-40))).flags.reverseSeen = true ∧
    ((after (.meterSample 0) (metered 1084299600 445032450 450 445 (-40))).tank 0).book = 100016 := by decide

/-- R14's worked case, and R19's two examples. -/
theorem test_vcf_and_totalizer :
    vcf 830 283 = 988961 ∧ vcf 2000 (-400) = 1050000 ∧ vcf 2000 800 = 950000 ∧ totalize 99999999990 25 = 15 ∧
    totalize 5 (-16) = 99999999989 := by decide

/-- R21's worked case: samples 1 and 41 of a lane that is IDLE. -/
theorem test_creep_samples :
    (sampled (withLane (fun u => { u with meter := { u.meter with params := { factoryMeter with kx := 240500 }, sampleAcc := 12 } })
      running)).creepGross = 4 ∧
    (sampled (withLane (fun u => { u with
      meter := { u.meter with
        params := { factoryMeter with kx := 240500 }, sampleAcc := 12, creepAcc := 480000000, creepGross := 199 } })
      running)).creepCond = true ∧
    (sampled (withLane (fun u => { u with
      meter := { u.meter with
        params := { factoryMeter with kx := 240500 }, sampleAcc := 12, creepAcc := 480000000, creepGross := 199 } })
      running)).creepGross = 204 := by decide

/-- R60's worked case. -/
theorem test_gauged_net :
    gaugedNetOf [(10000, 5000000), (12000, 6100000)] 830 11250 216 = 5656343 ∧
    gaugedNetOf [(10000, 5000000), (12000, 6100000)] 800 11250 216 = 5657470 := by decide

/-- R57: a head's reply with its check value, and one with a wrong check. -/
theorem test_gauge_reading :
    gaugeReading headReply = some ⟨10000, 150⟩ ∧ gaugeReading (headReply.set 6 0xCF#8) = none ∧
    gaugeReading (headReply.set 5 0x00#8) = none ∧ gaugeReading headReply.tail = none := by decide

/-- R65's worked case. -/
def stockCase (book : Nat) : TankUnit :=
  { factoryTankUnit 1 with book := book, reserve := 200000, draws := [⟨2, 350000, 350000⟩] }

theorem test_admission :
    (stockCase 600000).grant false 470000 = some 50000 ∧ (stockCase 600000).grant true 470000 = some 250000 ∧
    (stockCase 555000).grant false 470000 = some 5000 ∧ (stockCase 554000).grant false 470000 = none ∧
    (stockCase 600000).grant false 40000 = some 40000 := by decide

/-- R66's worked case: the cut of L1 by 600, and the deduction that meets a book of 400. -/
theorem test_trim_and_shortage :
    trimDraws 9400 [⟨0, 8000, 0⟩, ⟨1, 10000, 10000⟩] = ([⟨0, 8000, 0⟩, ⟨1, 9400, 9400⟩], [(1, 9400)]) ∧
    ({ factoryTankUnit 0 with book := 400 }.deduct 700).book = 0 ∧
    ({ factoryTankUnit 0 with book := 400 }.deduct 700).shortage = 300 := by decide

/-- R88's worked cases: COMPLETE within 20,000, DISPUTED beyond, and the proportional tolerance of a larger docket. -/
theorem test_reconciliation :
    receivedOf ⟨120, 20000, 5000, 9000000, 600000, 0⟩ 11788000 = 3388000 ∧
    toleranceOf ⟨120, 20000, 5000, 9000000, 600000, 0⟩ 3400000 = 20000 ∧ outcomeOf 3388000 (-12000) 20000 = .complete ∧
    outcomeOf 2058000 (-1342000) 20000 = .disputed ∧ toleranceOf ⟨120, 20000, 5000, 0, 0, 0⟩ 6000000 = 30000 ∧
    outcomeOf 5972000 (-28000) 30000 = .complete ∧ outcomeOf 5969000 (-31000) 30000 = .disputed := by decide

/-- The HAUL truck of R102's worked case. -/
def truck : Account :=
  { Account.enrolled 1#48 .haul 0xFF#8 400000 [] with
    hoursLast := some 41100, lastFill := some 1000000, fuelTotal := 1862004300, fills := 4117, burnRate := some 33980 }

theorem test_hours_check :
    hoursCheck truck true (some 41220) (some 1043200) false = .pass ∧
    hoursCheck truck true (some 41235) (some 1043200) false = .refused ∧
    hoursCheck truck true (some 41235) (some 1043200) true = .overridden ∧
    hoursCheck truck true (some 41050) (some 1043200) true = .refused ∧
    hoursCheck truck true (some 41112) (some 1000500) false = .refused ∧
    hoursCheck truck true (some 41108) (some 990000) false = .pass ∧
    hoursCheck truck true (some 49000) none false = .pass ∧ hoursCheck truck true none (some 0) false = .refused := by decide

set_option maxRecDepth 8000 in
/-- R104's worked case, and its rate above the ceiling. -/
theorem test_booking :
    (bookClose truck 35000 0 .fuel 412350 (some 41220) (some 1044100)).account.hoursLast = some 41220 ∧
    (bookClose truck 35000 0 .fuel 412350 (some 41220) (some 1044100)).account.lastFill = some 1044100 ∧
    (bookClose truck 35000 0 .fuel 412350 (some 41220) (some 1044100)).account.fills = 4118 ∧
    (bookClose truck 35000 0 .fuel 412350 (some 41220) (some 1044100)).account.fuelTotal = 1862416650 ∧
    (bookClose truck 35000 0 .fuel 412350 (some 41220) (some 1044100)).account.burnRate = some 34362 ∧
    (bookClose truck 35000 0 .fuel 412350 (some 41220) (some 1044100)).alarm = false ∧
    (bookClose truck 35000 0 .fuel 450000 (some 41220) (some 1044100)).alarm = true ∧
    (bookClose truck 35000 0 .fuel 450000 (some 41220) (some 1044100)).account.burnRate = some 37500 := by decide

set_option maxRecDepth 8000 in
/-- R97's worked case: a full bucket, and the lowest free way after a retirement. -/
theorem test_full_bucket :
    freeWay [(28, truck), (29, truck), (30, truck), (31, truck)] 1#48 = none ∧
    freeWay [(28, truck), (30, truck), (31, truck)] 1#48 = some 29 := by decide

/-- R115's worked case: numbers 65,535 and 1 in use. -/
theorem test_order_numbers :
    freeNumber (fun n => (findOrder [order 65535, order 1] n).isSome) 17 65534 = 65534 ∧
    freeNumber (fun n => (findOrder [order 65535, order 1] n).isSome) 17 65535 = 2 ∧ nextNumber 65535 2 = 3 := by decide

/-- R131 and R139's worked case: a release across the wrap removes by position. -/
theorem test_record_wrap :
    nextNumber 4294967295 4294967295 = 1 ∧
    releaseThrough 1 [record 4294967294, record 4294967295, record 1] = some [] ∧
    releaseThrough 4294967294 [record 4294967294, record 4294967295, record 1] = some [record 4294967295, record 1] := by decide

/-- Dispatch's denial map changed to one that denies ORDER and tank T1 (R182's worked case). -/
def deniedTank : State :=
  running.setPort .dispatch { running.port .dispatch with denial := { denyClasses [.order] with tanks := 2#8 } }

/-- R182's worked case: STOP_LANE for L2, bound to T1, from Dispatch. -/
theorem test_access_check :
    answered (after (.stopLane ⟨.dispatch, 1#8⟩ 2) running) .dispatch = some .denied ∧
    answered (after (.stopLane ⟨.dispatch, 1#8⟩ 2) { running with ports := { running.ports with openLevel := 1 } }) .dispatch =
      some .wrongState ∧
    answered (after (.stopLane ⟨.dispatch, 1#8⟩ 2) deniedTank) .dispatch = some .denied ∧
    answered (after (.stopLane ⟨.dispatch, 1#8⟩ 9) deniedTank) .dispatch = some .range := by decide

/-- R40, on the factory lane: LOW_START until 500 cL, then HIGH, LOW_END for a preset below the sum, and for the last
3,000 cL. -/
theorem test_stage :
    nextStage (factoryLane 0) 8000 499 .lowStart = .lowStart ∧ nextStage (factoryLane 0) 8000 500 .lowStart = .high ∧
    nextStage (factoryLane 0) 3499 500 .lowStart = .lowEnd ∧ nextStage (factoryLane 0) 8000 5000 .high = .lowEnd ∧
    nextStage (factoryLane 0) 8000 4999 .high = .high ∧ nextStage (factoryLane 0) 8000 0 .lowEnd = .lowEnd := by decide

/-- R70, R71: the raw zone at the factory thresholds, and the run that reaches the count. -/
theorem test_zones :
    zoneOf (factoryTank 0) 5000 = .lowLow ∧ zoneOf (factoryTank 0) 5001 = .low ∧ zoneOf (factoryTank 0) 15001 = .normal ∧
    zoneOf (factoryTank 0) 170000 = .high ∧ zoneOf (factoryTank 0) 185000 = .highHigh ∧
    confirmZone 3 ⟨2, 3, 0, 0⟩ .lowLow .normal = .low ∧ confirmZone 3 ⟨3, 3, 0, 0⟩ .lowLow .low = .lowLow ∧
    relaxZone .low .lowLow = .low ∧ relaxZone .high .low = .normal := by decide

set_option maxRecDepth 8000 in
/-- A frame of R175: STOP_LANE for L2 with sequence byte 9, read from its bytes. -/
theorem test_frame_decodes :
    decodeFrame 0#2 .console (0xC3#8 :: ([0x03#8, 0x09#8, 0x29#8, 0x02#8] ++
      bytesOf 2 (crc16 [0x03#8, 0x09#8, 0x29#8, 0x02#8]).toNat)) false = .stopLane ⟨.console, 9#8⟩ 2 ∧
    decodeFrame 0#2 .console eventsFrame false = .readEvents frame ∧
    decodeFrame 0#2 .console [0xC3#8, 0x01#8] false = .frameRejected .console [0xC3#8, 0x01#8] false ∧
    decodeFrame 0#2 .console eventsFrame true = .frameRejected .console eventsFrame true := by decide

/-- R196: the length of a record, a tank summary, an account in the short form and a trip entry. -/
theorem test_structure_lengths :
    (record 1).bytes.length = 54 ∧ (running.tankSummary 0).bytes.length = 28 ∧ (shortAccount (28, truck)).length = 37 := by
  decide

/-- Dispatch with L0, L1 and every tank denied. -/
def barred : State :=
  running.setPort .dispatch
    { running.port .dispatch with denial := { (running.port .dispatch).denial with lanes := 3#8, tanks := 0xFF#8 } }

/-- R182: a SET_LANE with a number out of its range passes or fails on its class alone, and is then RANGE; with both in range the
denied lane and tanks deny it. -/
theorem test_number_out_of_range_addresses_nothing :
    let d : Frame := ⟨.dispatch, 1#8⟩
    [answered (after (.setLane d 8 laneValues) barred) .dispatch,
      answered (after (.setLane d 0 { laneValues with tank := 8 }) barred) .dispatch,
      answered (after (.setLane d 7 laneValues) barred) .dispatch,
      answered (after (.setTank d 8 tankValues) barred) .dispatch] =
      [some .range, some .range, some .denied, some .range] := by decide

/-- R28, R192: READ_LANE's stage is numbered from 0 as R28 lists the stages, after the byte that says it is present. -/
theorem test_read_lane_stage :
    let r := (running.lane 0).report false
    [({ r with stage := some .lowStart }.bytes.take 3).drop 1, ({ r with stage := some .high }.bytes.take 3).drop 1,
      ({ r with stage := some .lowEnd }.bytes.take 3).drop 1, ({ r with stage := none }.bytes.take 2).drop 1] =
      [[1#8, 0#8], [1#8, 1#8], [1#8, 2#8], [0#8]] := by decide

/-- R174, R179: at straps 0 the console's READ_PORT reply gives 9,600 baud, in bytes as in the report. -/
theorem test_line_rate :
    (running.portReport .console).lineRate = 9600 ∧
    ((running.setPort .console { running.port .console with rate := 3#2 }).portReport .console).lineRate = 115200 ∧
    ((after (.readPort frame) running).port .console).reply.any (fun r => decide (r.bytes.length = 38)) = true := by decide

set_option maxRecDepth 8000 in
/-- R178: a READ_TANK of a tank with 16 points, eight draws, the pump timer and the loss watch running is 236 bytes. -/
theorem test_read_tank_fits :
    { running.tankReport 0 with
      points := List.replicate 16 (0, 0), draws := List.replicate 8 ⟨0, 0, 0⟩, pumpTimer := some 10, watchRuns := true,
      window := some ⟨0, 0, 0⟩, lastLoss := some 0 }.bytes.length = 236 := by decide

/-- R152, R192: the SET_SOURCE reply of HOSE L0 is its values in the request's order and then its state. -/
theorem test_set_source_reply :
    ((factorySource 3 1#8 0#8).values (.hose 0)).bytes =
      [0x01#8, 0x01#8, 0x03#8, 0x01#8, 0x04#8, 0x4C#8, 0x01#8, 0x00#8, 0x00#8] := by decide

/-! ## Witnesses: states and operands that meet the hypotheses of each statement -/

/-- The console's port changed. -/
def withPort (f : Port → Port) (s : State) : State := s.setPort .console (f (s.port .console))

/-- Source i changed. -/
def withSource (i : SourceId) (f : Source → Source) (s : State) : State := s.setSource i (f (s.source i))

/-- A TRIPPED source with its condition absent. -/
def tripped (i : SourceId) (s : State) : State := withSource i (fun x => { x with isTripped := true }) s

theorem test_w_RefusedRequestChangesNothing :
    (Instr.readEvents frame).requestFrame = some frame ∧ requestCode (.readEvents frame) = some 0x01#8 ∧
    (State.reset.port .console).ready = true ∧ State.reset.device.phase = .restoring ∧
    (running.port .dispatch).ready = true ∧ running.device.phase = .running ∧
    running.permits .dispatch (.stopLane ⟨.dispatch, 1#8⟩ 2) = false := by decide

theorem test_w_RequestAtBusyPortIsLost :
    (after (.readEvents frame) running).device.phase ≠ .held ∧
    ((after (.readEvents frame) running).port .console).ready = false ∧
    ((after (.readEvents frame) running).port .console).rx = .busy ∧
    ((after (.readEvents frame) running).port .console).overlapMark = false ∧
    (withPort (fun p => { p with rx := .shunning }) running).device.phase ≠ .held ∧
    ((withPort (fun p => { p with rx := .shunning }) running).port .console).ready = false := by decide

theorem test_w_NothingIsSampledOutsideRunning :
    (Instr.meterSample 0).fieldOrTimer = true ∧ State.reset.device.phase ≠ .running ∧
    (Instr.readEvents frame).supplyOrReset = false ∧ (hold running).device.phase = .held := by decide

theorem test_w_PowerOnBeginsRestoring :
    Instr.powerOn 1#2 = .powerOn 1#2 ∧ running.device.resetHeld = false ∧ Instr.resetReleased 1#2 = .resetReleased 1#2 ∧
    running.device.powered = true ∧ running.device.formatMarker = true ∧ (∀ l, (running.lane l).ctx = none) ∧
    ((withMachine running).accounts.slots.map (fun e => e.1)).Pairwise (· < ·) ∧
    (∀ l, ((withMachine running).lane l).ctx = none) := by decide

set_option maxRecDepth 8000 in
/-- R90, R93: POWER_ON abandons an active entry with START_UP and leaves a terminal one, in order; the machines' entries stay. -/
theorem test_start_up_store :
    (after (.powerOn 1#2) { running with deliveries := { entries := [entry .complete, entry .filling], next := 42 } }).deliveries =
      { entries :=
          [{ entry .complete with timer := none },
           { entry .filling with
             state := .abandoned, completeTime := some 0, timer := none
             flags := { (entry .filling).flags with startUp := true, clockUnset := true } }]
        next := 42 } ∧
    (after (.powerOn 1#2) (withMachine running)).accounts = (withMachine running).accounts := by decide

set_option maxRecDepth 8000 in
theorem test_w_StartUpFilesPowerLostRecords :
    delivering.device.resetHeld = false ∧ delivering.device.powered = true ∧ delivering.device.formatMarker = true ∧
    (delivering.lane 0).ctx = some context ∧
    1 ≤ delivering.records.next ∧ delivering.records.next ≤ 4294967295 ∧
    ((withMachine delivering).accounts.slots.map (fun e => e.1)).Pairwise (· < ·) ∧
    ((withMachine delivering).lane 0).ctx = some context ∧ (∀ j : Lane, j ≠ 0 → ((withMachine delivering).lane j).ctx = none) ∧
    findAccount (withMachine delivering).accounts.slots context.tag =
      some (28, Account.enrolled 1#48 .service 0xFF#8 1000000 []) := by
  decide

/-- The next record number at its last value. -/
def lastNumber : State := { withMachine delivering with records := { delivering.records with next := 4294967295 } }

set_option maxRecDepth 8000 in
/-- R131, R108: the number after 4,294,967,295 is 1, and the machine of a filed context has one fill more. -/
theorem test_power_lost_numbers :
    (after (.powerOn 1#2) lastNumber).records.completed.map (fun r => r.number) = [4294967295] ∧
    (after (.powerOn 1#2) lastNumber).records.next = 1 ∧
    (after (.powerOn 1#2) lastNumber).accounts.slots.map (fun e => (e.1, e.2.fills)) = [(28, 1)] := by decide

/-- A device whose store has lost its marker. -/
def unmarked : State := { running with device := { running.device with formatMarker := false } }

theorem test_w_MissingMarkerWritesFactoryValues :
    unmarked.device.resetHeld = false ∧ unmarked.device.powered = true ∧ unmarked.device.formatMarker = false := by decide

/-- R169, R170: a device held in reset keeps its marker; RESET_RELEASED without one writes the factory values and the marker. -/
theorem test_marker :
    (after (.resetAsserted .pin) running).device.formatMarker = true ∧
    (after (.resetReleased 1#2) unmarked).device.formatMarker = true ∧
    (after (.resetReleased 1#2) { unmarked with accounts := { unmarked.accounts with slots := [(28, truck)] } }).accounts.slots =
      [] := by decide

theorem test_w_HeldDeviceReleasesOutputs :
    Instr.resetAsserted .pin = .powerLoss ∨ ∃ cause, Instr.resetAsserted .pin = .resetAsserted cause := Or.inr ⟨.pin, rfl⟩

theorem test_w_RestoreCompleteEntersRunning :
    State.reset.device.phase = .restoring ∧ State.reset.records.completed.length < State.reset.records.threshold ∧
    { factoryRecords with completed := [record 1], threshold := 1 }.threshold ≤
      { factoryRecords with completed := [record 1], threshold := 1 }.completed.length ∧
    running.device.phase ≠ .restoring := by decide

theorem test_w_BayRestartKeepsClockAndAttention :
    running.takes frame (.bayRestart frame 1#2) = true ∧ running.device.formatMarker = true ∧
    (∀ l, (running.lane l).state.isOpen = false) ∧ (∀ e ∈ running.deliveries.entries, e.state.discharging = false) ∧
    delivering.takes frame (.bayRestart frame 1#2) = true ∧ (delivering.lane 0).state.isOpen = true ∧
    (withEntry (entry .filling) running).takes frame (.bayRestart frame 1#2) = true ∧
    (entry .filling).state.discharging = true ∧ unmarked.takes frame (.bayRestart frame 1#2) = true ∧
    unmarked.device.formatMarker = false ∧ (∀ l, (unmarked.lane l).state.isOpen = false) ∧
    (∀ l, (running.lane l).ctx.isSome = (running.lane l).state.isOpen) ∧
    (withEntry (entry .announced) running).takes frame (.bayRestart frame 1#2) = true ∧
    (∀ e ∈ (withEntry (entry .announced) running).deliveries.entries, e.state.discharging = false ∧ e.state = .announced) ∧
    (∀ l, ((withEntry (entry .announced) running).lane l).ctx.isSome =
      ((withEntry (entry .announced) running).lane l).state.isOpen) := by
  decide

/-- L0 with an index interval open, at an EPR of 100. -/
def indexed (count : Int) (fwd rev : Bool) : State :=
  withLane (fun u => { u with
    meter := { u.meter with
      params := { factoryMeter with epr := 100 }, ivCount := count, ivFwd := fwd, ivRev := rev, ivExists := true } })
    delivering

theorem test_w_DecoderCountsEdgesAndMiscounts :
    running.device.phase = .running ∧
    transition (running.lane 0).meter.refA (running.lane 0).meter.refB true false = .edge 1 ∧
    transition (running.lane 0).meter.refA (running.lane 0).meter.refB false true = .edge (-1) ∧
    transition (running.lane 0).meter.refA (running.lane 0).meter.refB false false = .unchanged ∧
    (running.lane 0).meter.params.epr = 0 ∧ (running.lane 0).state.metered = false ∧
    (delivering.lane 0).state = .delivering ∧ ((openIn .settling).lane 0).state = .settling ∧
    (delivering.lane 0).state.metered = true ∧ ((indexed 201 true false).lane 0).meter.params.epr ≠ 0 ∧
    (((indexed 201 true false).lane 0).meter.ivCount + 1).natAbs ≤
      2 * ((indexed 201 true false).lane 0).meter.params.epr + 2 ∧
    2 * ((indexed 202 true false).lane 0).meter.params.epr + 2 <
      (((indexed 202 true false).lane 0).meter.ivCount + 1).natAbs ∧
    transition ((indexed 202 true false).lane 0).meter.refA ((indexed 202 true false).lane 0).meter.refB true false = .edge 1 := by
  decide

/-- R7: at an EPR of 100 the edge to a count of 202 is no miscount, the next one is. -/
theorem test_missing_index :
    ((after (.quadratureEdge 0 true false) (indexed 201 true false)).lane 0).meter.consec = 0 ∧
    ((after (.quadratureEdge 0 true false) (indexed 202 true false)).lane 0).meter.consec = 1 ∧
    ((after (.quadratureEdge 0 true false) (indexed 202 true false)).lane 0).meter.ivCount = 0 := by decide

/-- L0 STARTING with its MISCOUNT counter at 14, under a record threshold of 1. -/
def missed : State :=
  { withLane (fun u => { u with counters := ⟨14, 0, 0, 0⟩ }) (openIn .starting) with
    records := { factoryRecords with reserved := 1#8, threshold := 1 } }

theorem test_w_MeterFaultAndIndexJudgement :
    delivering.device.phase = .running ∧ (delivering.lane 0).ctx.isSome = true ∧ (delivering.lane 0).state.metered = true ∧
    (delivering.lane 0).meter.consec < (delivering.lane 0).cfg.miscountLimit ∧ (delivering.lane 0).cfg.miscountLimit ≤ 15 ∧
    ((openIn .settling).lane 0).state.metered = true ∧ ((openIn .starting).lane 0).state.metered = true ∧
    ((openIn .starting).lane 0).state = .starting ∧ (missed.lane 0).state = .starting ∧ (missed.lane 0).counters.miscount = 14 ∧
    missed.records.completed.length + 1 = missed.records.threshold ∧ (running.lane 0).meter.params.epr = 0 ∧ ((indexed 98 true false).lane 0).meter.params.epr ≠ 0 ∧
    ((indexed 98 true false).lane 0).meter.judge = .good ∧ ((indexed 102 true false).lane 0).meter.judge = .good ∧
    ((indexed 97 true false).lane 0).meter.judge = .bad ∧ ((indexed 103 true false).lane 0).meter.judge = .bad ∧
    ((indexed 97 true true).lane 0).meter.judge = .nothing := by decide

theorem test_w_SampleRateFollowsEdgeCount :
    running.device.phase = .running ∧ (running.lane 0).meter.sampleAcc = 0 := by decide

theorem test_w_TransactionSampleFigures :
    delivering.device.phase = .running ∧ (delivering.lane 0).state.metered = true ∧
    ((openIn .starting).lane 0).state.metered = true ∧ ((openIn .settling).lane 0).state.metered = true := by decide

theorem test_w_TransactionSampleBooksNet :
    (metered 0 0 0 0 361).device.phase = .running ∧ ((metered 0 0 0 0 361).lane 0).state.metered = true ∧
    0 ≤ (sampled (metered 0 0 0 0 361)).net - ((metered 0 0 0 0 361).lane 0).meter.net ∧
    (sampled (metered 0 0 0 0 (-361))).net - ((metered 0 0 0 0 (-361)).lane 0).meter.net < 0 ∧
    ((metered 0 0 0 0 361).lane 0).ctx = some context ∧ ((metered 0 0 0 0 361).lane 0).meter.revGiven = false ∧
    allocated (recompute 0 (sampled (metered 0 0 0 0 361)).net ((metered 0 0 0 0 361).tank 0).draws) ≤
      ((after (.meterSample 0) (metered 0 0 0 0 361)).tank 0).book ∧
    ((metered 0 0 0 0 361).lane 0).stage = some .lowStart ∧
    (sampled (metered 0 0 0 0 361)).revSum ≤ ((metered 0 0 0 0 361).lane 0).cfg.reverseLimit ∧
    (sampled (metered 0 0 0 0 361)).net < context.effPreset ∧
    ((after (.meterSample 0) (metered 0 0 0 0 361)).source (.hose 0)).isTripped =
      ((metered 0 0 0 0 361).source (.hose 0)).isTripped := by decide

/-- The figures of a lane that has metered g with a net of n, and takes a sample of 361 edges: 148,344,150 more in A_N. -/
def near (g nMicro : Int) : State := metered (g * 2405000) nMicro g (nMicro.tdiv 1000000) 361

/-- L0 after its sample. -/
def sampledLane (s : State) : LaneUnit := (after (.meterSample 0) s).lane 0

/-- R41, R40, R45: a sample that brings N to 8,000 exactly ends the fill with PRESET, one that brings it to 7,999 goes on in
LOW_END, and one past the overrun limit of 1,000 is the OVERRUN fault. -/
theorem test_preset_edges :
    (sampledLane (near 8000 7851655850)).meter.net = 8000 ∧ (sampledLane (near 8000 7851655850)).state = .settling ∧
    (sampledLane (near 8000 7851655850)).ctx.bind (fun c => c.endReason) = some .preset ∧
    (sampledLane (near 8000 7851655849)).meter.net = 7999 ∧ (sampledLane (near 8000 7851655849)).stage = some .lowEnd ∧
    (sampledLane (near 9000 8851655850)).held = ⟨false, false, false⟩ ∧
    (sampledLane (near 9000 8852655850)).ctx.bind (fun c => c.endReason) = some .faultOverrun := by decide

/-- R18: the first reverse sum past the limit of 200 is the REVERSE fault, and 200 itself is none. -/
theorem test_reverse_fault :
    (sampledLane (withLane (fun u => { u with meter := { u.meter with revSum := 184 } })
      (metered 1084299600 445032450 450 445 (-40)))).state = .delivering ∧
    (sampledLane (withLane (fun u => { u with meter := { u.meter with revSum := 185 } })
      (metered 1084299600 445032450 450 445 (-40)))).ctx.bind (fun c => c.endReason) = some .faultReverse := by decide

theorem test_w_CreepSampleReachesNoBook :
    running.device.phase = .running ∧ (running.lane 0).state.metered = false ∧
    ((openIn .authorized).lane 0).state.metered = false ∧ (running.lane 0).state ≠ .authorized ∧
    ((after (.meterSample 0) (openIn .authorized)).source (.hose 0)).isTripped = ((openIn .authorized).source (.hose 0)).isTripped ∧
    inSet (running.source (.hose 0)).lanes (0 : Lane) = true ∧
    inSet ((withSource (.hose 0) (fun x => { x with lanes := 0#8 }) running).source (.hose 0)).lanes (0 : Lane) = false := by decide

/-- L0 AUTHORIZED with one asserted HOOK sample taken, and its pump in a state. -/
def hooking (p : PumpState) : State :=
  withTank (fun k => k.setPump p none)
    (withLane (fun u => { u with hook := ⟨false, some true, true⟩, authTimer := some 120 }) (openIn .authorized))

theorem test_w_HookStartsAndEndsALane :
    (hooking .starting).device.phase = .running ∧ ((hooking .starting).lane 0).state = .authorized ∧
    ((hooking .starting).lane 0).hook = ⟨false, some true, true⟩ ∧
    ((hooking .starting).tank ((hooking .starting).lane 0).cfg.tank).pump = .starting ∧
    ((hooking .running).tank ((hooking .running).lane 0).cfg.tank).pump = .running ∧
    ((withLane (fun u => { u with hook := ⟨true, some false, true⟩ }) delivering).lane 0).hook = ⟨true, some false, true⟩ ∧
    (delivering.lane 0).ctx.isSome = true ∧ (running.lane 0).hook.last ≠ some true ∧
    ((hooking .stopped).tank 0).pump = .stopped ∧ ((hooking .stopped).tank 0).rdy.level = false ∧
    ((withTank (fun k => { k with rdy := ⟨true, some true, true⟩ }) (hooking .stopped)).tank 0).rdy.level = true ∧
    (∀ j : Lane, ((hooking .stopped).lane j).state ≠ .starting) ∧ ((openIn .starting).lane 0).state = .starting ∧
    ((withLane (fun u => { u with hook := ⟨true, some false, true⟩ }) (openIn .starting)).lane 0).hook =
      ⟨true, some false, true⟩ := by decide

set_option maxRecDepth 8000 in
/-- R68, R38: the first demand starts a STOPPED pump, at once RUNNING where PUMP_RDY is asserted; HOOK released in STARTING files
the record with HOOK. -/
theorem test_first_demand :
    ((after (.hookSample 0 true) (hooking .stopped)).tank 0).pumpTimer = some 10 ∧
    ((after (.hookSample 0 true) (hooking .stopped)).lane 0).state = .starting ∧
    ((after (.hookSample 0 true)
      (withTank (fun k => { k with rdy := ⟨true, some true, true⟩ }) (hooking .stopped))).lane 0).vlo = true ∧
    (after (.hookSample 0 false)
      (withLane (fun u => { u with hook := ⟨true, some false, true⟩ }) (openIn .starting))).records.completed.map
        (fun r => r.endReason) = [.hook] := by decide

/-- T0's pump in a state, with a level and the sample before. -/
def pumping (p : PumpState) (level last : Bool) : State :=
  withTank (fun k => { k.setPump p (some 10) with rdy := ⟨level, some last, true⟩ }) (openIn .starting)

theorem test_w_PumpReadyMovesPump :
    (pumping .starting false true).device.phase = .running ∧ ((pumping .starting false true).tank 0).pump = .starting ∧
    ((pumping .starting false true).tank 0).rdy.level = false ∧
    ((pumping .starting false true).tank 0).rdy.last = some true ∧
    ((pumping .starting false true).lane 0).state = .starting ∧ ((pumping .running true false).tank 0).pump = .running ∧
    ((pumping .running true false).tank 0).rdy.level = true ∧
    ((pumping .running true false).tank 0).rdy.last = some false ∧ (running.tank 0).pump = .stopped := by decide

theorem test_w_PumpTimeoutEndsItsLanes :
    (pumping .starting false false).device.phase = .running ∧ ((pumping .starting false false).tank 0).pump = .starting ∧
    ((withTank (fun k => { k with pumpTimer := some 0 }) (pumping .starting false false)).tank 0).pumpTimer = some 0 ∧
    ((pumping .starting false false).tank 0).pumpTimer ≠ some 0 ∧ (running.tank 0).pump ≠ .starting := by decide

/-- L0 SETTLING with an end reason, its settle period over. -/
def settled (r : EndReason) : State := withLane (fun u => { u.setReason r with settleTimer := some 0 }) (openIn .settling)

/-- R102's truck with three service items: one satisfied at 500, one without a base, one due at 41,220. -/
def servedTruck : Account :=
  { truck with
    items := [⟨0, 100, 500, some 40000, true⟩, ⟨1, 100, 500, none, false⟩, ⟨2, 220, 500, some 41000, false⟩] }

/-- L0 at its close, on order 3 of R104's truck, with a net. -/
def closing (net : Int) : State :=
  { withOrder { order 3 with claimedBy := some 0 }
      (withLane
        (fun u => { u with
          ctx := some { context with hours := some 41220, order := 3, endReason := some .full }
          meter := { u.meter with net := net } })
        (settled .full)) with
    accounts := { slots := [(28, servedTruck)], classes := factoryClasses }
    time := { clock := 1044100, isSet := true, uptime := 60 } }

set_option maxRecDepth 8000 in
theorem test_w_LaneTimersCloseOrSettle :
    (openIn .authorized).device.phase = .running ∧ ((openIn .authorized).lane 0).ctx = some context ∧
    ((openIn .authorized).lane 0).state = .authorized ∧
    ((withLane (fun u => { u with authTimer := some 0 }) (openIn .authorized)).lane 0).authTimer = some 0 ∧
    ((openIn .authorized).lane 0).authTimer ≠ some 0 ∧ ((settled .hook).lane 0).state = .settling ∧
    ((settled .hook).lane 0).settleTimer = some 0 ∧
    ((settled .hook).lane 0).ctx = some { context with endReason := some .hook } ∧
    (delivering.lane 0).state = .delivering ∧ (delivering.lane 0).settleTimer ≠ some 0 ∧
    (delivering.lane 0).settleCap ≠ some 0 ∧ (delivering.lane 0).noFlowTimer ≠ some 0 ∧
    ((withLane (fun u => { u with noFlowTimer := some 0 }) delivering).lane 0).noFlowTimer = some 0 ∧
    (closing 412350).device.phase = .running ∧
    findAccount (closing 412350).accounts.slots context.tag = some (28, servedTruck) ∧
    ((closing 412350).tank 0).cfg.cls = .fuel ∧ servedTruck.hoursLast = some 41100 ∧
    findOrder (closing 0).orders.orders 3 = some { order 3 with claimedBy := some 0 } := by decide

/-- The lists after L0's close with a net. -/
def closed (net : Int) : State := after (.settlePeriodEnd 0) (closing net)

set_option maxRecDepth 8000 in
/-- R104, R106, R107, R120, R121: the close of R104's worked case: totals, burn rate and items; the order fulfilled above 0,
expired at 0 when its deadline of 60 is past and PENDING again before it. -/
theorem test_close_books :
    (closed 412350).accounts.slots.map (fun e => (e.2.fuelTotal, e.2.fills, e.2.burnRate, e.2.lastFill)) =
      [(1862416650, 4118, some 34362, some 1044100)] ∧
    (closed 412350).accounts.slots.map (fun e => e.2.items) =
      [[⟨0, 100, 500, some 41220, false⟩, ⟨1, 100, 500, some 41220, false⟩, ⟨2, 220, 500, some 41000, true⟩]] ∧
    (closed 412350).orders.orders = [] ∧ (closed 0).orders.orders = [] ∧
    (after (.settlePeriodEnd 0) { closing 0 with time := { clock := 1044100, isSet := true, uptime := 59 } }).orders.orders =
      [order 3] := by decide

/-- R191: an expiry before its timer has run out changes nothing. -/
theorem test_early_expiry :
    after (.settlePeriodEnd 0) (openIn .settling) = openIn .settling ∧
    after (.noFlowTimerExpiry 0) delivering = delivering := by decide

/-- T0 with a loss window begun at uptime 0 on a gauged net of 1,020,000 and a book of 100,000. -/
def watched (uptime : Nat) : State :=
  { withTank (fun k => { k with book := 100000, window := some ⟨0, 1020000, 100000⟩ }) running with
    time := { running.time with uptime := uptime } }

theorem test_w_GaugeSampleHoldsReading :
    running.device.phase = .running ∧ (running.tank 0).cfg.gaugeFitted = true ∧
    gaugeReading headReply = some ⟨10000, 150⟩ ∧ gaugeReading [] = none ∧ (running.tank 6).cfg.gaugeFitted = false ∧
    running.discharging 0 = false ∧ (running.tank 0).cfg.lossLimit ≠ 0 ∧ (running.tank 0).window = none ∧
    ((watched 599).tank 0).window = some ⟨0, 1020000, 100000⟩ ∧
    (watched 599).time.uptime < 0 + ((watched 599).tank 0).cfg.lossWindow ∧
    0 + ((watched 600).tank 0).cfg.lossWindow ≤ (watched 600).time.uptime ∧
    ((withTank (fun k => { k with cfg := { k.cfg with lossLimit := 0 } }) running).tank 0).cfg.lossLimit = 0 := by decide

/-- R57, R60, R74, R75: the poll of T0 on the bus; a gauged net of 1,000,000 is 20,000 below G0, which is no loss past the limit
of 20,000, and at 600 s the window restarts. -/
theorem test_loss_watch :
    (after (.gaugeSample 0 headReply) (watched 599)).bus = ⟨0#3, some 0#8, false, false⟩ ∧
    ((after (.gaugeSample 0 headReply) (watched 599)).tank 0).gaugedNet = some 1000000 ∧
    ((after (.gaugeSample 0 headReply) (watched 599)).tank 0).lossHanded = false ∧
    ((after (.gaugeSample 0 headReply) (watched 599)).tank 0).window = some ⟨0, 1020000, 100000⟩ ∧
    ((after (.gaugeSample 0 headReply) (watched 600)).tank 0).window = some ⟨600, 1000000, 100000⟩ ∧
    ((after (.gaugeSample 0 headReply)
      (withTank (fun k => { k with window := some ⟨0, 1020001, 100000⟩ }) (watched 599))).source (.loss 0)).isTripped = true := by
  decide

/-- A head's reply at the LOW_LOW threshold of 5,000. -/
def lowReply : List Byte := [0x00#8, 0x13#8, 0x88#8, 0x00#8, 0x96#8, 0x01#8, 0x32#8]

/-- A head's reply with a level and T10 150 (R57). -/
def replyAt (level : Nat) : List Byte :=
  bytesOf 3 level ++ [0x00#8, 0x96#8, 0x01#8, (bytesOf 3 level).foldl (· + ·) 0x97#8]

/-- L0 DELIVERING from T0 after n samples in LOW_LOW, at the factory's debounce count of 3. -/
def lowRun (n : Nat) : State := withTank (fun k => { k with runs := ⟨n, n, 0, 0⟩, rawZone := .lowLow }) delivering

theorem test_w_LowLowStopsTheTank :
    gaugeReading lowReply = some ⟨5000, 150⟩ ∧ (lowRun 2).device.phase = .running ∧
    ((lowRun 2).tank 0).cfg.gaugeFitted = true ∧ 5000 ≤ ((lowRun 2).tank 0).cfg.lowLow ∧
    ((lowRun 2).tank 0).zone ≠ .lowLow ∧ ((after (.gaugeSample 0 lowReply) (lowRun 2)).tank 0).zone = .lowLow ∧
    ((lowRun 2).tank 0).cfg.zoneDebounce ≤ min 255 (((lowRun 2).tank 0).runs.lowLow + 1) ∧
    min 255 (((lowRun 1).tank 0).runs.lowLow + 1) < ((lowRun 1).tank 0).cfg.zoneDebounce ∧
    [0, 15000, 15001, 169999, 170000, 185000].map (fun n => gaugeReading (replyAt n)) =
      [0, 15000, 15001, 169999, 170000, 185000].map (fun n => some ⟨n, 150⟩) ∧
    [0, 15000, 15001, 169999, 170000, 185000].map (zoneOf ((lowRun 2).tank 0).cfg) =
      [.lowLow, .low, .normal, .normal, .high, .highHigh] := by decide

/-- T0 in a zone with its runs at n. -/
def zoned (z : Zone) (n : Nat) : State := withTank (fun k => { k with zone := z, runs := ⟨n, n, n, n⟩ }) running

/-- T0's zone after a reading. -/
def zoneAfter (z : Zone) (n level : Nat) : Zone := ((after (.gaugeSample 0 (replyAt level)) (zoned z n)).tank 0).zone

set_option maxRecDepth 8000 in
/-- R71, R73: back toward NORMAL at once, across it too; to a more severe zone at its own count of 3; the flags and the alarm. -/
theorem test_zone_moves :
    [zoneAfter .lowLow 0 15000, zoneAfter .lowLow 0 15001, zoneAfter .low 1 5000, zoneAfter .low 2 5000,
      zoneAfter .lowLow 0 185000, zoneAfter .high 1 185000, zoneAfter .highHigh 0 170000, zoneAfter .normal 2 170000] =
      [.low, .normal, .low, .lowLow, .normal, .high, .high, .high] ∧
    ((after (.gaugeSample 0 (replyAt 185000)) (zoned .normal 2)).tank 0).alarms = ⟨false, false, true, true⟩ ∧
    holdsKind ((after (.gaugeSample 0 (replyAt 185000)) (zoned .normal 2)).port .console).pendingSet .tankAlarm = true := by
  decide

theorem test_w_TenthInvalidSample :
    running.device.phase = .running ∧ (running.tank 0).cfg.gaugeFitted = true ∧ (running.tank 0).invalid < 10 ∧
    (∀ e ∈ (withEntry { entry .settling with waited := some 9 } running).deliveries.entries,
      e.tank = 0 ∧ e.state = .settling ∧ e.waited.isSome = true) := by decide

/-- The delivery list with a COMPLETE entry of T0, number 40, before entry 41. -/
def twoEntries (e : DeliveryEntry) : State :=
  { running with deliveries := { entries := [{ entry .complete with number := 40, timer := none }, e], next := 42 } }

theorem test_w_ClosingGaugeReconciles :
    (twoEntries { entry .settling with waited := some 0 }).device.phase = .running ∧
    { entry .settling with waited := some 0 } ∈ (twoEntries { entry .settling with waited := some 0 }).deliveries.entries ∧
    (∀ x ∈ (twoEntries { entry .settling with waited := some 0 }).deliveries.entries,
      x.tank = 0 → x.state.discharging = true → x = { entry .settling with waited := some 0 }) ∧
    ((twoEntries { entry .settling with waited := some 0 }).tank 0).cfg.lossLimit ≠ 0 ∧
    ((twoEntries { entry .settling with waited := some 0 }).tank 0).window = none ∧
    (running.tank 0).cfg.gaugeFitted = true ∧ gaugeReading headReply = some ⟨10000, 150⟩ ∧
    ({ entry .settling with waited := some 0 }).conf = some ⟨120, 20000, 5000, 9000000, 600000, 0⟩ := by decide

/-- L0 IDLE with 200 edges counted, HOSE L0 at a limit of 1,199 with a run of n. -/
def hosed (n : Nat) : State :=
  withSource (.hose 0) (fun x => { x with run := n, hoseLimit := 1199 })
    (withLane (fun u => { u with state := .idle, meter := { u.meter with sampleAcc := 200 } }) running)

theorem test_w_SourceSamplesCountRuns :
    running.device.phase = .running ∧ (running.source .estop).evaluates = true ∧
    (running.source .estop).run < (running.source .estop).debounce ∧
    (running.source .estop).debounce ≤ (running.source .estop).run + 1 ∧
    ((withSource .estop Source.blank running).source .estop).evaluates = false ∧ (running.tank 6).noGaugeTimer ≠ some 0 ∧
    ((after .wholeSecond running).tank 6).noGaugeTimer = some 0 ∧
    (running.source (.hose 0)).evaluates = true ∧ (running.source (.hose 0)).creepTaken = false ∧
    (hosed 2).device.phase = .running ∧ ((hosed 2).source (.hose 0)).run < ((hosed 2).source (.hose 0)).debounce ∧
    ((hosed 2).source (.hose 0)).debounce ≤ min 255 (((hosed 2).source (.hose 0)).run + 1) ∧
    (running.tank 0).cfg.gaugeFitted = true ∧ (running.source (.loss 0)).evaluates = true ∧
    ((withSource (.overfill 0) Source.blank running).source (.overfill 0)).evaluates = false := by decide

/-- R144, R191: the timer of T6, with no gauge, does nothing before its second has run, and starts again at its expiry. -/
theorem test_no_gauge_timer :
    after (.noGaugeTankTimer 6) (withSource (.loss 6) Source.blank running) = withSource (.loss 6) Source.blank running ∧
    ((after (.noGaugeTankTimer 6) (withSource (.loss 6) Source.blank (after .wholeSecond running))).source (.loss 6)).blanking =
      3 ∧
    ((after (.noGaugeTankTimer 6) (after .wholeSecond running)).tank 6).noGaugeTimer = some 1 := by decide

/-- R144, R145: at Kx 100,000 a sample of 200 edges is a rate of 1,200: above a hose limit of 1,199 the run of 2 comes to the
count of 3 and trips, at a limit of 1,200 the condition is absent. -/
theorem test_hose :
    ((after (.meterSample 0) (hosed 2)).source (.hose 0)).isTripped = true ∧
    ((after (.meterSample 0) (hosed 1)).source (.hose 0)).run = 2 ∧
    ((after (.meterSample 0) (hosed 1)).source (.hose 0)).isTripped = false ∧
    ((after (.meterSample 0) (withSource (.hose 0) (fun x => { x with hoseLimit := 1200 }) (hosed 2))).source (.hose 0)).run =
      0 := by decide

/-- Two records and two trips held, and a FULL capture. -/
def holding : State :=
  { running with
    records := { factoryRecords with completed := [record 1, record 2] }
    spill := { running.spill with
      trips := [⟨1, .manual, 0, true, 0#8, 0#8, true⟩, ⟨2, .estop, 0, true, 0#8, 0#8, false⟩]
      capture := .full (running.snapshot 1) } }

theorem test_w_RiseTripsClearSource :
    running.device.phase = .running ∧ (running.source (.sump 3)).evaluates = true ∧
    (running.source (.sump 3)).run < (running.source (.sump 3)).debounce ∧ (running.source (.sump 3)).isTripped = false ∧
    ((tripped .manual running).source .manual).isTripped = true ∧ running.spill.capture = .empty ∧
    running.spill.captureCount = 16 ∧ holding.spill.capture ≠ .empty ∧ (delivering.source (.sump 3)).evaluates = true ∧
    (delivering.source (.sump 3)).run < (delivering.source (.sump 3)).debounce ∧
    inSet (delivering.source (.sump 3)).lanes (0 : Lane) = true ∧ (delivering.lane 0).ctx = some context := by decide

/-- R38, R86, R151: a trip takes a FILLING entry to SETTLING with INTERRUPTED, and ends an AUTHORIZED lane at once with SPILL. -/
theorem test_trip_ends :
    (after (.sourceTrip (.sump 3)) (withEntry (entry .filling) running)).deliveries.entries =
      [{ entry .filling with
         state := .settling, endTime := some 0, timer := some 120
         flags := { (entry .filling).flags with interrupted := true, clockUnset := true } }] ∧
    (after (.sourceTrip (.sump 3)) (openIn .authorized)).records.completed.map (fun r => (r.lane, r.endReason)) = [(0, .spill)] := by
  decide

/-- R157: a trip of an EMPTY buffer starts the capture, FULL at once where the count is 0. -/
theorem test_capture_starts :
    (after (.sourceTrip (.sump 3)) running).spill.capture = .filling (running.snapshot 1) ∧
    (after (.sourceTrip (.sump 3)) running).spill.captureTimer = some 1 ∧
    (after (.sourceTrip (.sump 3)) { running with spill := { running.spill with captureCount := 0 } }).spill.capture =
      .full { running.snapshot 1 with m := 0 } := by decide

/-- A capture of m samples to come, its sample timer run out. -/
def filling (m : Nat) : State :=
  { running with
    spill := { running.spill with capture := .filling { running.snapshot 1 with m := m }, captureTimer := some 0 } }

theorem test_w_CapturePulseAndSecond :
    (filling 2).device.phase = .running ∧ (filling 2).spill.captureTimer = some 0 ∧ running.spill.captureTimer ≠ some 0 ∧
    (filling 2).spill.capture = .filling { running.snapshot 1 with m := 2 } ∧
    (running.snapshot 1).samples.length + 1 < 2 ∧ 1 ≤ (running.snapshot 1).samples.length + 1 ∧
    ((withPort (fun p => { p with mode := .pulse, pulse := some 10, attn := true }) running).port .console).pulse = some 10 ∧
    State.reset.device.phase = .restoring := by decide

theorem test_w_DeliveryAndOrderDeadlines :
    running.device.phase = .running ∧
    { entry .announced with timer := some 0 } ∈ (twoEntries { entry .announced with timer := some 0 }).deliveries.entries ∧
    (∀ x ∈ (twoEntries { entry .announced with timer := some 0 }).deliveries.entries,
      x.number = 41 → x = { entry .announced with timer := some 0 }) ∧
    (∀ x ∈ (twoEntries { entry .settling with timer := some 0 }).deliveries.entries,
      x.number = 41 → x = { entry .settling with timer := some 0 }) ∧
    (∀ x ∈ (twoEntries (entry .announced)).deliveries.entries, x.number = 41 → x.timer ≠ some 0) ∧
    (order 3).claimedBy = none ∧ (order 3).expiry ≠ 0 ∧ (order 3).placedAt + (order 3).expiry ≤ 60 ∧
    59 < (order 3).placedAt + (order 3).expiry ∧ ({ order 3 with claimedBy := some 0 }).claimedBy.isSome = true := by decide

/-- The console after characters of a frame that is not whole. -/
def hearing (bytes : List Byte) : State := after (.frameRejected .console bytes false) running

set_option maxRecDepth 8000 in
theorem test_w_FramingEventsMoveOnePort :
    running.device.phase ≠ .held ∧ (running.port .console).ready = true ∧
    (running.port .console).rx = .hunting ∧ (0xC2#8 : Byte) ≠ 0xC3#8 ∧ (hearing [0xC3#8]).device.phase ≠ .held ∧
    ((hearing [0xC3#8]).port .console).rx = .receiving ∧
    charsVerdict (((hearing [0xC3#8]).port .console).rxBuffer ++ [0x01#8]) = .rejected ∧
    charsVerdict (((hearing [0xC3#8]).port .console).rxBuffer ++ [0xF3#8]) = .rejected ∧
    charsVerdict (((hearing [0xC3#8]).port .console).rxBuffer ++ [0xF2#8]) = .incomplete ∧
    charsVerdict (((hearing [0xC3#8]).port .console).rxBuffer ++ [0x02#8]) = .incomplete ∧
    ((0x02#8 : Byte).toNat = 2 ∧ [0x07#8, 0x01#8].length = (0x02#8 : Byte).toNat) ∧
    receiveChars (running.port .console).heard [0xC3#8, 0x01#8, 0xC3#8] true = some ([], 1) ∧
    ((after (.readEvents frame) running).port .console).rx = .busy ∧
    ((after (.overlappingFrame .console) (after (.readEvents frame) running)).port .console).overlapMark = true ∧
    ((withPort (fun p => { p with rx := .shunning }) running).port .console).rx = .shunning := by decide

theorem test_w_characters_one_by_one :
    exec (.frameRejected .console [0xC3#8] false) running = .next (hearing [0xC3#8]) ∧ [0x01#8, 0xC3#8] ≠ ([] : List Byte) :=
  ⟨rfl, by decide⟩

/-- R175: a start byte with its stop bit low is discarded in HUNTING; a whole one begins a frame. -/
theorem test_hunting :
    after (.frameRejected .console [0xC3#8] true) running = running ∧
    ((after (.frameRejected .console [0xC3#8] false) running).port .console).rx = .receiving ∧
    ((after (.frameRejected .console [0xC3#8, 0x02#8] true) running).port .console).crcCount = 1 := by decide

set_option maxRecDepth 8000 in
/-- R175: at a RECEIVING port a start byte is a length like any other, a low stop bit counts CRC, and the characters after a rejection
are judged in HUNTING; a gap counts in a frame alone. -/
theorem test_receiving :
    ((after (.frameRejected .console [0xC3#8] false) (hearing [0xC3#8])).port .console).rxBuffer = [0xC3#8, 0xC3#8] ∧
    ((after (.frameRejected .console [0x07#8] true) (hearing [0xC3#8])).port .console).crcCount = 1 ∧
    ((hearing [0xC3#8, 0x01#8, 0xC3#8, 0x05#8]).port .console).rxBuffer = [0xC3#8, 0x05#8] ∧
    ((hearing [0xC3#8, 0x01#8, 0xC3#8, 0x05#8]).port .console).crcCount = 1 ∧
    ((after (.frameGapTimeout .console) (hearing [0xC3#8, 0x05#8])).port .console).gapCount = 1 ∧
    after (.frameGapTimeout .console) running = running := by decide

theorem test_w_UnknownRequestIsBadRequest :
    running.device.phase ≠ .held ∧ (running.port frame.port).ready = true ∧ decodeRequest 0#2 frame 0x7F#8 [] = none ∧
    (0x80#8 : Byte).msb = true := by decide

theorem test_w_EventRequestsOnOnePort :
    running.takes frame (.readEvents frame) = true ∧ running.takes frame (.clearEvents frame 0x07FF#16) = true ∧
    0x07FF#16 &&& 0xF800#16 = 0#16 ∧ running.takes frame (.clearEvents frame 0x0800#16) = true ∧
    0x0800#16 &&& 0xF800#16 ≠ 0#16 ∧ running.takes frame (.setAttention frame 0#16 2 200) = true ∧ modeOf 2 = some .pulse ∧
    200 ∈ [1, 2, 5, 10, 20, 50, 100, 200] ∧ running.takes frame (.setAttention frame 0#16 3 10) = true ∧ 2 < 3 ∧
    3 ∉ [1, 2, 5, 10, 20, 50, 100, 200] := by decide

theorem test_w_CountersAreReadAndCleared :
    running.takes frame (.readPort frame) = true ∧ running.takes frame (.readLane frame (7 : Lane).val) = true ∧
    running.takes frame (.readTrips frame 1) = true ∧ running.takes frame (.readRecordStatus frame 0) = true ∧
    running.takes frame (.readRecordStatus frame 2) = true ∧ running.takes frame (.readTrips frame 2) = true := by decide

/-- The lock LOCKED under code 1234. -/
def locked (failed : Nat) : State := { running with cal := { lock := .locked 1234, failed := failed, changes := 5 } }

set_option maxRecDepth 8000 in
theorem test_w_PlainReadsChangeNothing :
    running.takes frame (.readStock frame) = true ∧ running.takes frame (.readTank frame (7 : Tank).val) = true ∧
    (withMachine running).takes frame (.readAccount frame 1#48) = true ∧
    (findAccount (withMachine running).accounts.slots 1#48).isSome = true ∧
    running.takes frame (.listOrders frame) = true ∧ running.takes frame (.readDelivery frame 0) = true ∧
    findDelivery (withEntry (entry .filling) running).deliveries.entries 41 = some (entry .filling) ∧
    (withEntry (entry .filling) running).takes frame (.readDelivery frame 41) = true ∧ sourceOf 29 = some .manual ∧
    running.takes frame (.readTripsSource frame 29) = true ∧ running.takes frame (.readCapture frame 31) = true ∧
    (filling 2).spill.capture = .filling { running.snapshot 1 with m := 2 } ∧
    holding.spill.capture = .full (running.snapshot 1) ∧ running.spill.capture = .empty ∧
    running.takes frame (.readCal frame) = true ∧ (locked 3).takes frame (.readCal frame) = true ∧
    (locked 3).cal.lock = .locked 1234 ∧ (locked 3).cal.failed = 3 ∧ (locked 2).cal.failed ≠ 3 ∧
    running.takes frame (.collectRecords frame 4) = true ∧ (withOrder (order 3) running).takes frame (.listOrders frame) = true ∧
    (watched 599).takes frame (.readTank frame (0 : Tank).val) = true ∧ ((watched 599).tank 0).window.isSome = true := by decide

theorem test_w_AccountWalkMovesOneCursor :
    running.takes frame (.readAccounts frame 0 1) = true ∧ running.takes frame (.readAccounts frame 1 4) = true ∧
    running.takes frame (.setCursor frame 255) = true ∧ running.takes frame (.setCursor frame 256) = true ∧
    running.takes frame (.readAccounts frame 2 1) = true ∧ running.takes frame (.readAccounts frame 0 0) = true ∧
    running.takes frame (.readAccounts frame 1 5) = true := by decide

/-- R111's boundaries: the count reached before the last slot leaves END clear; at slot 255 UP and slot 0 DOWN it is set. -/
theorem test_walk_end :
    walkUp [(28, truck), (254, truck)] 29 1 = ([(254, truck)], false, 255) ∧
    walkUp [(255, truck)] 0 1 = ([(255, truck)], true, 0) ∧ walkUp [(28, truck)] 0 2 = ([(28, truck)], true, 0) ∧
    walkDown [(1, truck)] 255 1 = ([(1, truck)], false, 0) ∧ walkDown [(0, truck)] 255 1 = ([(0, truck)], true, 255) := by decide

/-- The service machine enrolled, and T0 with 100,000 cL. -/
def stocked : State := withMachine (withTank (fun k => { k with book := 100000, gaugeValid := true }) running)

set_option maxRecDepth 8000 in
theorem test_w_PlaceOrderAppendsOneOrder :
    stocked.takes frame (.placeOrder frame 1#48 (0 : Tank).val 2000000 1 86400) = true ∧
    findAccount stocked.accounts.slots 1#48 = some (28, Account.enrolled 1#48 .service 0xFF#8 1000000 []) ∧
    inSet (0xFF#8) (0 : Tank) = true ∧ stocked.orders.orders.length < 16 ∧
    running.takes frame (.placeOrder frame 1#48 (0 : Tank).val 0 0 0) = true ∧
    findAccount running.accounts.slots 1#48 = none ∧
    (∃ o ∈ (withOrder (order 3) stocked).orders.orders, o.tag = 1#48 ∧ o.tank = 0) := by decide

theorem test_w_CancelRemovesPendingOrder :
    (withOrder (order 3) running).takes frame (.cancelOrder frame 3) = true ∧ (order 3).claimedBy = none ∧
    (∀ p ∈ (withOrder (order 3) running).orders.orders, p.number = 3 → p = order 3) ∧
    running.takes frame (.cancelOrder frame 3) = true ∧ (∀ o ∈ running.orders.orders, o.number ≠ 3) := by decide

/-- L0 IDLE, its tank stocked and its machine enrolled. -/
def idle : State := withLane (fun u => { u with state := .idle }) stocked

/-- In idle no lane holds a context. -/
theorem idle_no_context : ∀ j, (idle.lane j).ctx = none := by decide

set_option maxRecDepth 8000 in
theorem test_w_OpenLaneOpensATransaction :
    idle.takes frame (.openLane frame (0 : Lane).val 1#48 0 (some 8000) none 0) = true ∧ (idle.lane 0).state = .idle ∧
    idle.laneBlocked 0 = false ∧ (idle.tank (idle.lane 0).cfg.tank).zone ≠ .lowLow ∧
    (idle.tank (idle.lane 0).cfg.tank).gaugeValid = true ∧
    findAccount idle.accounts.slots 1#48 = some (28, Account.enrolled 1#48 .service 0xFF#8 1000000 []) ∧
    inSet (0xFF#8) (idle.lane 0).cfg.tank = true ∧
    (idle.accounts.classes.get .service).hoursRequired = false ∧
    8000 ≤ (idle.tank 0).book - allocated (idle.tank 0).draws - (idle.tank 0).reserve ∧
    idle.records.completed.length + setCount idle.records.reserved < 64 := by decide

/-- L0 IDLE for R102's truck at bay time 1,043,200, with order 3 for it. -/
def hauling : State :=
  { withOrder { order 3 with priority := true } idle with
    accounts := { slots := [(28, truck)], classes := factoryClasses }
    time := { clock := 1043200, isSet := true, uptime := 60 } }

set_option maxRecDepth 8000 in
/-- The override, which only level 0 may use, with a reading whose gap is too wide (R102). -/
theorem test_w_OpenLaneOpensATransaction_overridden :
    hauling.takes frame (.openLane frame (0 : Lane).val 1#48 3 none (some 41235) 1) = true ∧
    (hauling.port frame.port).level = 0 ∧ findAccount hauling.accounts.slots 1#48 = some (28, truck) ∧
    truck.hoursLast = some 41100 ∧ 41100 ≤ 41235 ∧ hauling.time.isSet = true ∧ truck.lastFill = some 1000000 ∧
    (hauling.time.clock - 1000000) / 360 + 10 < 41235 - 41100 ∧
    findOrder hauling.orders.orders 3 = some { order 3 with priority := true } ∧ (order 3).tag = 1#48 ∧ (order 3).tank = 0 ∧
    (order 3).claimedBy = none ∧ min 5000 truck.capacity ≤ (hauling.tank 0).book - allocated (hauling.tank 0).draws ∧
    answered (after (.openLane frame 0 1#48 3 none (some 41235) 1) hauling) .console = some .ok ∧
    ((after (.openLane frame 0 1#48 3 none (some 41235) 1) hauling).lane 0).ctx.map (fun c => c.flags.hoursOverridden) =
      some true := by decide

/-- 64 completed records, under OVERWRITE. -/
def full (p : RecordPolicy) : RecordQueue :=
  { factoryRecords with completed := (List.range 64).map record, policy := p, dropped := 254 }

set_option maxRecDepth 8000 in
/-- R128, R129: the reservation of a full queue drops its oldest record and counts it. -/
theorem test_w_OpenLaneOpensATransaction_full :
    { idle with records := full .overwrite }.takes frame (.openLane frame (0 : Lane).val 1#48 0 (some 8000) none 0) = true ∧
    64 ≤ (full .overwrite).completed.length + setCount (full .overwrite).reserved ∧
    (after (.openLane frame 0 1#48 0 (some 8000) none 0) { idle with records := full .overwrite }).records.dropped = 255 := by
  decide

theorem test_w_OpenLaneOpensATransaction_alone (tag : Tag) :
    ∀ j c, j ≠ (0 : Lane) → (idle.lane j).cfg.tank = (idle.lane 0).cfg.tank → (idle.lane j).ctx = some c → c.tag ≠ tag := by
  intro j c _ _ h
  rw [idle_no_context j] at h
  cases h

/-- The first check of R32's table, whatever follows it. -/
theorem test_w_OpenLaneFirstFailedCheck_first (rest : List (Prop × Status)) :
    firstFailed .disabled (((running.lane 0).state = .disabled, .disabled) :: rest) := Or.inl ⟨by decide, rfl⟩

/-- The status of an OPEN_LANE of L0 for a tag. -/
def openStatus (s : State) (tag : Tag) (n : Nat) (preset hours : Option Nat) (override : Nat) : Option Status :=
  answered (after (.openLane frame 0 tag n preset hours override) s) .console

set_option maxRecDepth 16000 in
/-- R32: each check in turn, in states that fail it and none before it. -/
theorem test_open_checks :
    [openStatus running 1#48 0 none none 0, openStatus (openIn .settling) 1#48 0 none none 0,
      openStatus (tripped .manual idle) 1#48 0 none none 0,
      openStatus (withTank (fun k => { k with zone := .lowLow }) idle) 1#48 0 none none 0,
      openStatus (withTank (fun k => { k with gaugeValid := false }) idle) 1#48 0 none none 0,
      openStatus idle 2#48 0 none none 0] =
      [some .disabled, some .wrongState, some .tripped, some .tankLow, some .gauge, some .notFound] ∧
    [openStatus (idle.setLane 1 { idle.lane 1 with ctx := some context }) 1#48 0 none none 0,
      openStatus idle 1#48 4 none none 0, openStatus (withOrder { order 3 with claimedBy := some 1 } idle) 1#48 3 none none 0,
      openStatus (withOrder { order 3 with tank := 1 } idle) 1#48 3 none none 0,
      openStatus hauling 1#48 3 none none 1, openStatus hauling 1#48 3 none (some 41235) 0,
      openStatus hauling 1#48 3 none (some 10000000) 1] =
      [some .wrongState, some .notFound, some .wrongState, some .range, some .hours, some .hours, some .hours] := by decide

set_option maxRecDepth 16000 in
/-- R32, R33, R65, R128: the preset, the stock below the minimum fill of 5,000 cL, the queue full under HOLD; the numbers out of range. -/
theorem test_open_grants :
    [openStatus idle 1#48 0 (some 2000001) none 0,
      openStatus (withTank (fun k => { k with cfg := { k.cfg with cls := .lube } }) idle) 1#48 0 none none 0,
      openStatus (withTank (fun k => { k with book := 4999 }) idle) 1#48 0 (some 5000) none 0,
      openStatus (withTank (fun k => { k with book := 5000 }) idle) 1#48 0 (some 5001) none 0,
      openStatus { idle with records := full .hold } 1#48 0 (some 8000) none 0, openStatus idle 1#48 0 none none 2,
      answered (after (.openLane frame 8 1#48 0 none none 0) idle) .console] =
      [some .range, some .range, some .noStock, some .clamped, some .full, some .range, some .range] ∧
    idle.takes frame (.openLane frame 8 1#48 0 none none 0) = true ∧ idle.takes frame (.openLane frame 0 1#48 0 none none 2) = true := by
  decide

set_option maxRecDepth 8000 in
theorem test_w_OpenLaneFirstFailedCheck :
    running.takes frame (.openLane frame (0 : Lane).val 1#48 0 none none 0) = true ∧ (running.lane 0).state = .disabled ∧
    ((openIn .settling).lane 0).state.isOpen = true ∧ (tripped .manual idle).laneBlocked 0 = true ∧
    ((withTank (fun k => { k with zone := .lowLow }) idle).tank 0).zone = .lowLow ∧
    ((withTank (fun k => { k with gaugeValid := false }) idle).tank 0).gaugeValid = false ∧
    findAccount idle.accounts.slots 2#48 = none ∧ factoryClasses.haul.hoursRequired = true ∧
    idle.takes frame (.openLane frame (0 : Lane).val 1#48 0 (some 0) none 0) = true ∧
    ((withTank (fun k => { k with book := 0 }) idle).tank 0).book = 0 ∧
    answered (after (.openLane frame 0 1#48 0 (some 1) none 0) (withTank (fun k => { k with book := 0 }) idle)) .console =
      some .noStock := by decide

theorem test_w_LaneRequestsByState :
    running.takes frame (.enableLane frame (7 : Lane).val) = true ∧
    running.takes frame (.disableLane frame (7 : Lane).val) = true ∧
    running.takes frame (.stopLane frame (7 : Lane).val) = true ∧ (running.lane 7).state.isOpen = false ∧
    (openIn .authorized).takes frame (.stopLane frame (0 : Lane).val) = true ∧
    ((openIn .authorized).lane 0).ctx = some context ∧ running.takes frame (.enableLane frame 8) = true ∧
    running.takes frame (.disableLane frame 8) = true ∧ running.takes frame (.stopLane frame 8) = true := by decide

theorem test_w_ReserveIsClampedToCapacity :
    running.takes frame (.setTankReserve frame (0 : Tank).val 2000000000) = true ∧
    (running.tank 0).cfg.capacity < 2000000000 ∧ running.takes frame (.setTankReserve frame (0 : Tank).val 20000000) = true ∧
    ¬(running.tank 0).cfg.capacity < 20000000 := by decide

theorem test_w_AdjustAndAcknowledge :
    delivering.takes frame (.adjustStock frame (0 : Tank).val 7999 1) = true ∧ 7999 < allocated (delivering.tank 0).draws ∧
    delivering.takes frame (.adjustStock frame (0 : Tank).val 8000 0) = true ∧ allocated (delivering.tank 0).draws ≤ 8000 ∧
    (∀ d ∈ (delivering.tank 0).draws, (delivering.lane d.lane).cfg.tank = 0) ∧
    (delivering.tank 0).draws = [] ++ [⟨0, 8000, 8000⟩] ∧ allocated (delivering.tank 0).draws = 7999 + 1 ∧
    (delivering.lane 0).ctx = some context ∧
    (delivering.lane 0).meter.net < min (context.preset : Int) (8000 - 1) ∧
    (openIn .authorized).takes frame (.adjustStock frame (0 : Tank).val 0 0) = true ∧
    allocated ((openIn .authorized).tank 0).draws = 0 + 8000 ∧
    min (context.preset : Int) (8000 - 8000) ≤ ((openIn .authorized).lane 0).meter.net ∧
    running.takes frame (.ackAlarms frame (7 : Tank).val) = true ∧ running.takes frame (.ackAlarmsAll frame) = true := by decide

/-- R44, R66, R67: a book of 7,999 cuts the allocation of 8,000 by 1 and the lane goes on; a book of 0 leaves it nothing, and
it ends with PRESET. -/
theorem test_trim :
    ((after (.adjustStock frame 0 7999 0) delivering).lane 0).ctx.map (fun c => (c.effPreset, c.flags.trimmed)) =
      some (7999, true) ∧
    ((after (.adjustStock frame 0 7999 0) delivering).lane 0).state = .delivering ∧
    ((after (.adjustStock frame 0 0 0) delivering).lane 0).ctx.bind (fun c => c.endReason) = some .preset ∧
    (after (.adjustStock frame 0 0 0) (openIn .authorized)).records.completed.map (fun r => r.endReason) = [.preset] := by decide

/-- R102's truck with one service item, due. -/
def served : Account := { truck with items := [⟨0, 100, 500, some 40000, true⟩] }

/-- The truck with its item enrolled. -/
def serving : State := { running with accounts := { slots := [(28, served)], classes := factoryClasses } }

theorem test_w_MachineRequestsChangeOneSlot :
    machineClassOf 4 = some .service ∧ itemsOf [⟨2, 2500, 500, none⟩] = some [⟨2, 2500, 500, none, false⟩] ∧
    running.takes frame (.enrolMachine frame 1#48 4 0xFF#8 2000000 []) = true ∧
    findAccount running.accounts.slots 1#48 = none ∧ (∀ e ∈ running.accounts.slots, e.1 ≠ bucketOf 1#48 * 4 + 0) ∧
    stocked.takes frame (.retireMachine frame 1#48) = true ∧ (∀ l, (stocked.lane l).state.isOpen = false) ∧
    (∀ o ∈ stocked.orders.orders, o.tag ≠ 1#48) ∧ (∃ o ∈ (withOrder (order 3) stocked).orders.orders, o.tag = 1#48) ∧
    stocked.takes frame (.setMachine frame 1#48 4 1 0xFF#8 1 []) = true ∧
    running.takes frame (.enrolMachine frame 1#48 6 0xFF#8 1 []) = true ∧ 5 < 6 ∧
    stocked.takes frame (.setMachine frame 1#48 0 2 0xFF#8 1 []) = true ∧ ¬[2, 2].Nodup ∧
    itemsOf [⟨1, 100, 500, none⟩, ⟨0, 100, 500, none⟩] = some [⟨1, 100, 500, none, false⟩, ⟨0, 100, 500, none, false⟩] ∧
    (⟨0, 100, 500, some 40000, true⟩ : ServiceItem) ∈ served.items ∧
    (∀ w ∈ served.items, w.tank = 0 → w = ⟨0, 100, 500, some 40000, true⟩) ∧ (∀ w ∈ served.items, w.tank ≠ 1) ∧
    serving.takes frame (.setMachine frame 1#48 0 0 0xFF#8 1 [⟨1, 100, 500, none⟩, ⟨0, 200, 500, none⟩]) = true := by decide

set_option maxRecDepth 8000 in
/-- R99: an item without hours keeps the base and the due flag of the present one, under its new interval; a new one has none. -/
theorem test_item_base :
    (after (.setMachine frame 1#48 0 0 0xFF#8 1 [⟨1, 100, 500, none⟩, ⟨0, 200, 500, none⟩]) serving).accounts.slots.map
      (fun e => e.2.items) = [[⟨1, 100, 500, none, false⟩, ⟨0, 200, 500, some 40000, true⟩]] ∧
    answered (after (.enrolMachine frame 2#48 0 0xFF#8 1 [⟨0, 9, 500, none⟩]) serving) .console = some .range ∧
    answered (after (.setMachine frame 1#48 0 0 0xFF#8 1 [⟨0, 100, 500, some 10000000⟩]) serving) .console = some .range := by
  decide

theorem test_w_SettingsReplaceTheirValues :
    machineClassOf 0 = some .haul ∧ running.takes frame (.setClass frame 0 1 10000000) = true ∧
    running.takes frame (.setClass frame 0 2 1) = true ∧ policyOf 1 = some .overwrite ∧
    running.takes frame (.setRecordPolicy frame 1 64) = true ∧ running.takes frame (.setRecordPolicy frame 0 0) = true ∧
    running.takes frame (.setClock frame 4294967295) = true ∧
    running.takes frame (.setAccess frame ⟨3, 0, 3, 0x3FFFFFF#32, 0#32, 0#32, 3⟩) = true ∧
    (denialOf 0x3FFFFFF#32).isSome = true ∧ (denialOf 0#32).isSome = true ∧
    running.takes frame (.setAccess frame ⟨1, 1, 1, 0#32, 0#32, 0#32, 0⟩) = true := by decide

/-- An ANNOUNCED entry of T0, whose held level lies above the table's last point. -/
def above : State := withTank (fun k => { k with level := some 200001 }) (withEntry (entry .announced) stocked)

theorem test_w_AnnounceAndConfirm :
    running.takes frame (.announceDelivery frame (0 : Tank).val 0#64 200000000) = true ∧
    (∀ e ∈ running.deliveries.entries, e.tank = 0 → e.state.active = false) ∧ running.deliveries.entries.length < 8 ∧
    running.takes frame (.announceDelivery frame (0 : Tank).val 0#64 0) = true ∧
    (∃ e ∈ (withEntry (entry .announced) running).deliveries.entries, e.tank = 0 ∧ e.state.active = true) ∧
    (withEntry (entry .announced) stocked).takes frame (.confirmDelivery frame 41 (some 30) (some 10000000) (some 100000)) =
      true ∧
    findDelivery (withEntry (entry .announced) stocked).deliveries.entries 41 = some (entry .announced) ∧
    (withEntry (entry .announced) stocked).inletBlocked 0 = false ∧
    ((withEntry (entry .announced) stocked).tank 0).gaugeValid = true ∧
    (tripped .manual (withEntry (entry .announced) stocked)).inletBlocked 0 = true ∧
    ((withEntry (entry .announced) running).tank 0).gaugeValid = false ∧ (entry .filling).state ≠ .announced ∧
    findDelivery running.deliveries.entries 41 = none ∧ running.takes frame (.confirmDelivery frame 41 none none none) = true ∧
    (withEntry (entry .announced) stocked).takes frame (.confirmDelivery frame 41 none (some 10000001) none) = true ∧
    (withEntry (entry .announced) stocked).takes frame (.confirmDelivery frame 41 none none (some 100001)) = true ∧
    (∀ x ∈ (withEntry (entry .announced) stocked).deliveries.entries, x.number = 41 → x = entry .announced) ∧
    (above.tank 0).level = some 200001 ∧ (above.tank 0).points.getLast? = some (200000, 20000000) := by decide

set_option maxRecDepth 8000 in
/-- R82: each refusal of CONFIRM_DELIVERY, with values given, and OVER_TABLE where the held level lies above the table. -/
theorem test_confirm :
    [answered (after (.confirmDelivery frame 41 none none none) running) .console,
      answered (after (.confirmDelivery frame 41 none (some 10000001) none) above) .console,
      answered (after (.confirmDelivery frame 41 none none (some 100001)) above) .console,
      answered (after (.confirmDelivery frame 41 (some 30) none none) (tripped .manual above)) .console,
      answered (after (.confirmDelivery frame 41 (some 900) none none) (withEntry (entry .announced) running)) .console] =
      [some .notFound, some .range, some .range, some .tripped, some .gauge] ∧
    (after (.confirmDelivery frame 41 (some 30) none none) above).deliveries.entries.map (fun e => e.flags.overTable) = [true] := by
  decide

theorem test_w_DeliveryRequestsByState :
    entry .filling ∈ (twoEntries (entry .filling)).deliveries.entries ∧
    (∀ x ∈ (twoEntries (entry .filling)).deliveries.entries, x.number = 41 → x = entry .filling) ∧
    (∀ x ∈ (twoEntries (entry .filling)).deliveries.entries, x.tank = 0 → x.state = .filling → x = entry .filling) ∧
    (withEntry (entry .filling) running).takes frame (.endDelivery frame 41) = true ∧
    (withEntry (entry .announced) running).takes frame (.withdrawDelivery frame 41) = true ∧
    (withEntry (entry .complete) running).takes frame (.releaseDelivery frame 41) = true ∧
    (entry .complete).state.active = false ∧ (entry .announced).state.discharging = false ∧
    running.takes frame (.endDelivery frame 0) = true ∧ findDelivery running.deliveries.entries 0 = none := by decide

theorem test_w_ReleasesRemoveFromTheOldest :
    holding.takes frame (.releaseRecords frame 1) = true ∧ holding.records.completed = [] ++ record 1 :: [record 2] ∧
    (∀ r ∈ holding.records.completed, r.number ≠ 3) ∧ holding.takes frame (.releaseTrips frame 2) = true ∧
    holding.spill.trips =
      [⟨1, .manual, 0, true, 0#8, 0#8, true⟩] ++ ⟨2, .estop, 0, true, 0#8, 0#8, false⟩ :: [] ∧
    (∀ e ∈ holding.spill.trips, e.number ≠ 3) ∧ holding.takes frame (.releaseCapture frame) = true ∧
    holding.spill.capture = .full (running.snapshot 1) ∧ running.spill.capture = .empty := by decide

theorem test_w_RearmAndManualTrip :
    sourceOf 0 = some (.sump 0) ∧ sourceOf 29 = some .manual ∧ running.takes frame (.rearm frame 29) = true ∧
    (running.source .manual).isTripped = false ∧ ((tripped (.sump 0) running).source (.sump 0)).isTripped = true ∧
    ((tripped (.sump 0) running).source (.sump 0)).blanking = 0 ∧
    ((tripped (.sump 0) running).source (.sump 0)).run < ((tripped (.sump 0) running).source (.sump 0)).debounce ∧
    0 < ((withSource (.sump 0) Source.blank (tripped (.sump 0) running)).source (.sump 0)).blanking ∧
    running.takes frame (.rearm frame 30) = true ∧ running.takes frame (.manualTrip frame) = true := by decide

theorem test_w_RearmAllJudgesEverySource :
    (tripped .estop running).takes frame (.rearmAll frame) = true := by decide

theorem test_w_SetSourceKeepsItsState :
    sourceOf 5 = some (.hose 0) ∧ (tripped (.hose 0) running).takes frame (.setSource frame 5 ⟨1, 255, 9999, 3#8, 0#8, 1⟩) = true ∧
    ((tripped (.hose 0) running).source (.hose 0)).isTripped = true ∧
    (tripped (.hose 0) running).laneBlocked 1 = false ∧ sourceOf 4 = some .estop ∧
    running.takes frame (.setSource frame 4 ⟨1, 2, 0, 0xFF#8, 0xFF#8, 0⟩) = true ∧
    running.takes frame (.setSource frame 29 ⟨0, 1, 0, 0#8, 0#8, 0⟩) = true ∧
    running.takes frame (.setSourceUnit frame 32) = true ∧ running.takes frame (.setSourceUnit frame 33) = true ∧
    running.takes frame (.setSource frame 4 ⟨1, 1, 0, 0xFF#8, 0xFF#8, 1⟩) = true ∧
    running.takes frame (.setSource frame 29 ⟨1, 0, 0, 0#8, 0#8, 0⟩) = true ∧ sourceOf 29 = some .manual ∧
    running.takes frame (.setSource frame 5 ⟨1, 3, 10000, 1#8, 0#8, 0⟩) = true ∧ sourceOf 0 = some (.sump 0) ∧
    running.takes frame (.setSource frame 0 ⟨2, 256, 0, 0#8, 0#8, 2⟩) = true ∧
    running.takes frame (.setSource frame 30 ⟨1, 1, 0, 0#8, 0#8, 0⟩) = true := by decide

/-- R86, R149, R152: a map that takes in L0 and the inlet of T0 ends the lane with SPILL and interrupts the delivery, with no trip
listed; the values out of range, and the two sources that need no count. -/
theorem test_set_source :
    ((after (.setSource frame 6 ⟨1, 3, 1100, 3#8, 1#8, 0⟩) (tripped (.hose 1) delivering)).lane 0).ctx.bind (fun c => c.endReason) =
      some .spill ∧
    (after (.setSource frame 6 ⟨1, 3, 1100, 3#8, 1#8, 0⟩) (tripped (.hose 1) (withEntry (entry .filling) running))).deliveries.entries.map
      (fun e => (e.state, e.flags.interrupted)) = [(.settling, true)] ∧
    (after (.setSource frame 6 ⟨1, 3, 1100, 3#8, 1#8, 0⟩) (tripped (.hose 1) delivering)).spill.trips = [] ∧
    [answered (after (.setSource frame 5 ⟨1, 3, 10000, 1#8, 0#8, 0⟩) running) .console,
      answered (after (.setSource frame 0 ⟨1, 0, 0, 0#8, 0#8, 0⟩) running) .console,
      answered (after (.setSource frame 30 ⟨1, 1, 0, 0#8, 0#8, 0⟩) running) .console,
      answered (after (.setSource frame 4 ⟨1, 1, 0, 0xFF#8, 0xFF#8, 1⟩) running) .console,
      answered (after (.setSource frame 29 ⟨1, 0, 0, 0#8, 0#8, 0⟩) running) .console] =
      [some .range, some .range, some .range, some .ok, some .ok] := by decide

theorem test_w_LaneAndTankConfiguration :
    running.takes frame (.setLane frame (0 : Lane).val laneValues) = true ∧ (running.lane 0).state = .disabled ∧
    (idle.lane 0).state = .idle ∧ laneValues.tank = (idle.lane 0).cfg.tank.val ∧ (delivering.lane 0).state.isOpen = true ∧
    running.takes frame (.setLane frame (0 : Lane).val { laneValues with authTime := 601 }) = true ∧
    running.takes frame (.setTank frame (0 : Tank).val tankValues) = true ∧ productClassOf tankValues.cls = some .fuel ∧
    (running.tank 0).draws = [] ∧ running.discharging 0 = false ∧ (delivering.tank 0).draws ≠ [] ∧
    (withEntry (entry .filling) running).discharging 0 = true ∧ (Instr.readLane frame 8).namesBeyond = true ∧
    (Instr.readLane frame 8).requestFrame = some frame ∧ requestCode (.readLane frame 8) = some 0x05#8 ∧
    (Instr.readLane frame 8).requestClass = some .read ∧ (running.port .console).level ≤ running.ports.openLevel ∧
    (running.port .console).ready = true ∧ (Instr.setStrapping frame 255 []).namesBeyond = true ∧
    (Instr.setLane frame 0 { laneValues with tank := 8 }).namesBeyond = true ∧
    (Instr.setMeter ⟨.dispatch, 1#8⟩ 8 factoryMeter).requestClass = some .cal ∧
    running.ports.openLevel < (running.port .dispatch).level ∧
    (running.port .dispatch).denial.classes.getLsbD RequestClass.cal.index = true ∧
    (running.port .dispatch).denial.classes.getLsbD RequestClass.config.index = false ∧
    running.takes frame (.setTank frame (0 : Tank).val { tankValues with minFill := 2000001 }) = true ∧
    running.takes frame (.setTank frame (0 : Tank).val { tankValues with lossLimit := 10000001 }) = true ∧
    running.takes frame (.setTank frame (0 : Tank).val { tankValues with zoneDebounce := 256 }) = true ∧
    { tankValues with low := 15001 }.low ≠ (running.tank 0).cfg.low ∧ tankValues.lowLow = (running.tank 0).cfg.lowLow ∧
    tankValues.lossLimit = (running.tank 0).cfg.lossLimit ∧ tankValues.lossWindow = (running.tank 0).cfg.lossWindow ∧
    { tankValues with lossWindow := 601 }.lossWindow ≠ (running.tank 0).cfg.lossWindow := by decide

/-- T0 with runs counted, a loss window begun and the loss condition present. -/
def watching : State := withTank (fun k => { k with runs := ⟨1, 2, 0, 0⟩, lossCond := true }) (watched 1)

/-- What SET_TANK leaves of T0's runs, window and loss condition. -/
def afterSetTank (v : TankSetting) : ZoneRuns × Bool × Bool :=
  let k := (after (.setTank frame 0 v) watching).tank 0
  (k.runs, k.window.isSome, k.lossCond)

/-- R55, R75: a changed threshold sets the runs to 0, a changed loss window discards the window, and the same values change
neither; the values out of range, and a number above 7 before the lock (R166). -/
theorem test_set_tank :
    [afterSetTank tankValues, afterSetTank { tankValues with low := 15001 }, afterSetTank { tankValues with lossWindow := 601 }] =
      [(⟨1, 2, 0, 0⟩, true, true), (⟨0, 0, 0, 0⟩, true, true), (⟨1, 2, 0, 0⟩, false, false)] ∧
    [answered (after (.setTank frame 0 { tankValues with minFill := 2000001 }) running) .console,
      answered (after (.setTank frame 0 { tankValues with lossLimit := 10000001 }) running) .console,
      answered (after (.setStrapping frame 8 []) (locked 0)) .console] = [some .range, some .range, some .range] := by decide

theorem test_w_GuardedRequestsChangeCalibration :
    meterInRange factoryMeter = true ∧ pointsInRange (factoryPoints 0) = true ∧
    (locked 0).takes frame (.setMeter frame (0 : Lane).val factoryMeter) = true ∧ (locked 0).cal.lock ≠ .unlocked ∧
    running.cal.lock = .unlocked ∧ running.takes frame (.setMeter frame (0 : Lane).val factoryMeter) = true ∧
    running.takes frame (.setProduct frame (0 : Tank).val 2000) = true ∧
    running.takes frame (.setStrapping frame (0 : Tank).val (factoryPoints 0)) = true ∧
    (running.lane 0).state.isOpen = false ∧ running.discharging 0 = false ∧ (delivering.lane 0).state.isOpen = true ∧
    (withEntry (entry .filling) running).discharging 0 = true ∧ running.takes frame (.lockCal frame 0) = true ∧
    running.takes frame (.lockCal frame 4294967295) = true := by decide

theorem test_w_UnlockCalNeedsTheCode :
    (locked 2).takes frame (.unlockCal frame 1234) = true ∧ (locked 2).cal.lock = .locked 1234 ∧ (locked 2).cal.failed ≤ 2 ∧
    3 ≤ (locked 3).cal.failed ∧ (locked 3).takes frame (.unlockCal frame 1234) = true ∧ running.cal.lock = .unlocked ∧
    running.device.phase = .running ∧ (running.port .dispatch).ready = true ∧ (running.port .dispatch).level ≠ 0 := by decide

theorem test_w_ShutLockGuardsCalibration :
    exec (.setProduct frame 0 0) (locked 0) = .next (after (.setProduct frame 0 0) (locked 0)) ∧
    (locked 0).device.formatMarker = true ∧ (locked 0).cal.lock ≠ .unlocked := ⟨rfl, by decide, by decide⟩

/-- A state that meets the valve and flow laws with a lane DELIVERING, and the state after a step from it. -/
theorem test_w_EveryStepKeepsSafetyLaws :
    Sys2Proof.Machine.step { delivering with pending := [.stopLane frame 0] } = .next (after (.stopLane frame 0) delivering) ∧
    (∀ l, ((delivering.lane l).vlo = true → (delivering.lane l).state = .delivering)
      ∧ ((delivering.lane l).vhi = true → (delivering.lane l).state = .delivering ∧ (delivering.lane l).stage = some .high)) ∧
    (∀ l, (delivering.lane l).state.endedByTrip = true →
      delivering.laneBlocked l = false ∧ (delivering.tank (delivering.lane l).cfg.tank).zone ≠ .lowLow) ∧
    (∀ t, (delivering.tank t).zone = .lowLow → (delivering.tank t).pump = .stopped) ∧
    (∀ t, (delivering.tank t).inlet = true → delivering.device.phase = .running ∧ delivering.inletBlocked t = false) :=
  ⟨rfl, by decide, by decide, by decide, by decide⟩

theorem test_w_EveryStepKeepsStockLaw :
    (∀ t, allocated (delivering.tank t).draws ≤ (delivering.tank t).book ∧ (delivering.tank t).book ≤ 2000000000) := by decide

theorem test_w_EveryStepKeepsRecordLaw :
    delivering.records.completed.length + setCount delivering.records.reserved ≤ 64 ∧
    (∀ l, inSet delivering.records.reserved l = (delivering.lane l).ctx.isSome) ∧
    ∀ l, (delivering.lane l).ctx.isSome = (delivering.lane l).state.isOpen := by decide

theorem test_w_EveryStepKeepsTableLaws :
    (delivering.port .console).level = 0 ∧ (delivering.port .console).pendingSet &&& 0xF800#16 = 0#16 ∧
    (delivering.port .dispatch).pendingSet &&& 0xF800#16 = 0#16 ∧
    (delivering.port .receipt).pendingSet &&& 0xF800#16 = 0#16 ∧ (delivering.port .console).mask = 0x07FF#16 ∧
    (delivering.port .dispatch).mask = 0x07FF#16 ∧ (delivering.port .receipt).mask = 0x07FF#16 ∧
    (∀ l, (delivering.lane l).meter.totalizer < 100000000000) ∧ holding.deliveries.entries.length ≤ 8 ∧
    holding.orders.orders.length ≤ 16 ∧ holding.spill.trips.length ≤ 16 ∧
    (stocked.accounts.slots.map (fun e => e.1)).Pairwise (· < ·) ∧ (delivering.port .console).rx = .hunting ∧
    (delivering.port .console).rxBuffer = [] ∧ (delivering.port .console).crcCount ≤ 255 := by decide

/-! ## One step of each family -/

set_option maxRecDepth 8000 in
/-- R34, R33: an OPEN_LANE granted whole, one clamped to a FUEL machine's capacity, and one that needs the stock's clamp. -/
theorem test_open_lane :
    answered (after (.openLane frame 0 1#48 0 (some 8000) none 0) idle) .console = some .ok ∧
    ((after (.openLane frame 0 1#48 0 (some 8000) none 0) idle).lane 0).state = .authorized ∧
    ((after (.openLane frame 0 1#48 0 (some 8000) none 0) idle).lane 0).authTimer = some 120 ∧
    ((after (.openLane frame 0 1#48 0 (some 8000) none 0) idle).tank 0).draws = [⟨0, 8000, 8000⟩] ∧
    answered (after (.openLane frame 0 1#48 0 none none 0) idle) .console = some .clamped ∧
    ((after (.openLane frame 0 1#48 0 none none 0) idle).tank 0).draws = [⟨0, 100000, 100000⟩] := by decide

set_option maxRecDepth 8000 in
/-- R35, R36, R68: with HOOK asserted the open passes to STARTING and the pump starts; with the starter ready it delivers. -/
theorem test_open_lane_hooked :
    ((after (.openLane frame 0 1#48 0 (some 8000) none 0)
      (withLane (fun u => { u with hook := ⟨true, some true, true⟩ }) idle)).lane 0).state = .starting ∧
    ((after (.openLane frame 0 1#48 0 (some 8000) none 0)
      (withLane (fun u => { u with hook := ⟨true, some true, true⟩ }) idle)).tank 0).pumpTimer = some 10 ∧
    ((after (.openLane frame 0 1#48 0 (some 8000) none 0)
      (withTank (fun k => { k with rdy := ⟨true, some true, true⟩ })
        (withLane (fun u => { u with hook := ⟨true, some true, true⟩ }) idle))).lane 0).vlo = true := by decide

/-- R46, R130: the close after settling files record 1 with the meter's figures and leaves the lane IDLE. -/
theorem test_close :
    (after (.settlePeriodEnd 0) (settled .full)).records.completed.map (fun r => (r.number, r.endReason, r.preset)) =
      [(1, .full, 8000)] ∧
    ((after (.settlePeriodEnd 0) (settled .full)).lane 0).state = .idle ∧
    (after (.settlePeriodEnd 0) (settled .full)).records.reserved = 0#8 := by decide

/-- R9, R48: the third miscount at the factory limit faults a DELIVERING lane, and the close then leaves it DISABLED. -/
theorem test_meter_fault :
    ((after (.illegalTransition 0) (withLane (fun u => { u with meter := { u.meter with consec := 2 } }) delivering)).lane 0).held =
      ⟨false, true, false⟩ ∧
    ((after (.meterFault 0) delivering).lane 0).state = .settling ∧
    ((after (.settlePeriodEnd 0)
      (withLane (fun u => { u with settleCap := some 0 }) (after (.meterFault 0) delivering))).lane 0).state = .disabled := by
  decide

/-- R69, R72: LOW_LOW on a gauge sample ends the lane and stops the pump. -/
theorem test_low_low :
    ((after (.gaugeSample 0 lowReply) (lowRun 2)).lane 0).state = .settling ∧
    ((after (.gaugeSample 0 lowReply) (lowRun 2)).tank 0).pumpRun = false ∧
    ((after (.gaugeSample 0 lowReply) (lowRun 1)).lane 0).state = .delivering := by decide

/-- R147, R151, R155: a trip of ESTOP ends the lane with SPILL and lists what it shut. -/
theorem test_trip :
    ((after (.discreteInputSample 0#4 true) delivering).lane 0).ctx.bind (fun c => c.endReason) = some .spill ∧
    (after (.discreteInputSample 0#4 true) delivering).spill.trips.map (fun e => (e.number, e.source, e.lanesEnded)) =
      [(1, .estop, 1#8)] ∧
    (after (.manualTrip frame) running).laneBlocked 7 = true := by decide

/-- R149: a changed hose limit blanks the source for four samples; a blanked source is not re-armed (R153). -/
theorem test_blanking :
    ((after (.setSource frame 5 ⟨1, 3, 1200, 1#8, 0#8, 0⟩) running).source (.hose 0)).blanking = 4 ∧
    answered (after (.rearm frame 5) (withSource (.hose 0) Source.blank (tripped (.hose 0) running))) .console =
      some .stillActive ∧
    answered (after (.rearm frame 5) (tripped (.hose 0) running)) .console = some .ok := by decide

/-- R187: in PULSE a newly added kind starts a pulse of the port's width, and a kind already pending starts none. -/
theorem test_pulse :
    ((post .trip (withPort (fun p => { p with mode := .pulse, width := 20 }) running)).port .console).pulse = some 20 ∧
    ((post .started (withPort (fun p => { p with mode := .pulse, width := 20 }) running)).port .console).pulse = none := by
  decide

/-- R165: three wrong codes bar the right one. -/
theorem test_unlock :
    (after (.unlockCal frame 1234) (locked 2)).cal.lock = .unlocked ∧ (after (.unlockCal frame 1) (locked 2)).cal.failed = 3 ∧
    (after (.unlockCal frame 1234) (locked 3)).cal.lock = .locked 1234 := by decide

/-- R172, R135: a power failure during a fill, and the start-up that files it. -/
theorem test_power_failure :
    (after .powerLoss delivering).device.phase = .held ∧ ((after .powerLoss delivering).lane 0).vlo = false ∧
    (after (.powerOn 1#2) delivering).device.phase = .restoring ∧ ((after (.powerOn 1#2) delivering).port .receipt).rate = 1#2 ∧
    (after (.powerOn 1#2) delivering).records.completed.map (fun r => (r.endReason, r.tag)) = [(.powerLost, 1#48)] := by decide

/-- R88, R82: an entry that waits is reconciled at the next valid sample, and a confirmed one opens the inlet. -/
theorem test_delivery :
    (after (.gaugeSample 0 headReply) (withEntry { entry .settling with waited := some 0 } running)).deliveries.entries.map
      (fun e => e.state) = [.disputed] ∧
    ((after (.confirmDelivery frame 41 none none none) (withEntry (entry .announced) stocked)).tank 0).inlet = true := by
  decide

set_option maxRecDepth 8000 in
/-- R96, R111, R112: an enrolment goes to the bucket's lowest free way, and the walk UP moves past it. -/
theorem test_accounts :
    (after (.enrolMachine frame 1#48 4 0xFF#8 1000 []) running).accounts.slots.map (fun e => e.1) = [28] ∧
    ((after (.readAccounts frame 0 1) stocked).port .console).cursor = 29 ∧
    ((after (.readAccounts frame 0 2) stocked).port .console).cursor = 0 := by decide

/-- R139, R156, R158: releases by position, and a FULL buffer emptied. -/
theorem test_releases :
    (after (.releaseRecords frame 1) holding).records.completed = [record 2] ∧
    (after (.releaseTrips frame 2) holding).spill.trips = [] ∧ (after (.releaseCapture frame) holding).spill.capture = .empty := by
  decide

end Sys2Proof.Tests
end

section
/-! Each table law of R19, R78, R93, R114, R155, R174, R175, R184 and R195 outlives every command. The relation KeepsTables says so of
two states; each operation of the model is shown once to extend it, in the order of the model's files. -/

namespace Sys2Proof.Machine

/-! ## The relation -/

/-- R195 of one port: its pending set and mask name only kinds there are. -/
def Port.meetsEventLaw (p : Port) : Prop := p.pendingSet &&& 0xF800#16 = 0#16 ∧ p.mask &&& 0xF800#16 = 0#16

/-- R174, R175 of one port: RECEIVING exactly over a buffer that holds characters, its counters within 255. -/
def Port.meetsReceiveLaw (p : Port) : Prop :=
  (p.rx = .receiving ↔ p.rxBuffer ≠ []) ∧ p.gapCount ≤ 255 ∧ p.crcCount ≤ 255 ∧ p.overlapCount ≤ 255

/-- A port that keeps its level and the laws of a port. -/
structure Port.Keeps (p q : Port) : Prop where
  level : q.level = p.level
  event : p.meetsEventLaw → q.meetsEventLaw
  receive : p.meetsReceiveLaw → q.meetsReceiveLaw

theorem Port.Keeps.refl (p : Port) : p.Keeps p := ⟨rfl, id, id⟩

/-- Every table law that holds of s holds of t. -/
structure KeepsTables (s t : State) : Prop where
  access : AccessLaw s → AccessLaw t
  event : EventLaw s → EventLaw t
  totalizer : TotalizerLaw s → TotalizerLaw t
  list : ListLaw s → ListLaw t
  account : AccountLaw s → AccountLaw t
  receive : ReceiveLaw s → ReceiveLaw t

theorem KeepsTables.refl (s : State) : KeepsTables s s := ⟨id, id, id, id, id, id⟩

theorem KeepsTables.trans {s t u : State} (h : KeepsTables s t) (g : KeepsTables t u) : KeepsTables s u :=
  ⟨g.access ∘ h.access, g.event ∘ h.event, g.totalizer ∘ h.totalizer, g.list ∘ h.list, g.account ∘ h.account,
    g.receive ∘ h.receive⟩

/-- Two states alike in all that the laws speak of, but for ports that keep their own laws. -/
theorem keepsTables_of_ports {s t : State} (hp : ∀ i, (s.port i).Keeps (t.port i)) (hl : t.lanes = s.lanes)
    (hd : t.deliveries = s.deliveries) (ho : t.orders = s.orders) (hx : t.spill.trips = s.spill.trips)
    (ha : t.accounts = s.accounts) : KeepsTables s t where
  access := fun ⟨i, h⟩ => ⟨i, (hp i).level.trans h⟩
  event := fun h i => (hp i).event (h i)
  totalizer := fun h l => by simpa only [State.lane, hl] using h l
  list := fun h => by simpa only [ListLaw, hd, ho, hx] using h
  account := fun h => by simpa only [AccountLaw, ha] using h
  receive := fun h i => (hp i).receive (h i)

/-- Two states alike in all that the laws speak of, but for lanes and lists that keep their own laws. -/
theorem keepsTables_of_lists {s t : State} (hp : t.ports = s.ports) (hl : TotalizerLaw s → TotalizerLaw t)
    (hd : ListLaw s → ListLaw t) (ha : AccountLaw s → AccountLaw t) : KeepsTables s t where
  access := fun ⟨i, h⟩ => ⟨i, by simpa only [State.port, hp] using h⟩
  event := fun h i => by simpa only [State.port, hp] using h i
  totalizer := hl
  list := hd
  account := ha
  receive := fun h i => by simpa only [State.port, hp] using h i

/-! ## The units of the state -/

variable {s t : State}

theorem setTank_keeps (k : Tank) (u : TankUnit) (h : KeepsTables s t) : KeepsTables s (t.setTank k u) :=
  h.trans (keepsTables_of_ports (fun _ => .refl _) rfl rfl rfl rfl rfl)

theorem setSource_keeps (i : SourceId) (x : Source) (h : KeepsTables s t) : KeepsTables s (t.setSource i x) :=
  h.trans (keepsTables_of_ports (fun _ => .refl _) rfl rfl rfl rfl rfl)

theorem setPort_keeps {i : PortId} {p : Port} (hp : (t.port i).Keeps p) (h : KeepsTables s t) : KeepsTables s (t.setPort i p) := by
  refine h.trans (keepsTables_of_ports (fun j => ?_) rfl rfl rfl rfl rfl)
  by_cases hj : j = i
  · subst hj; rwa [State.port_setPort_same]
  · rw [State.port_setPort_ne _ _ _ _ hj]; exact .refl _

/-- A lane may be replaced by one whose totalizer is in range where the one before was (R19). -/
theorem setLane_keeps_of {l : Lane} {u : LaneUnit}
    (hu : (t.lane l).meter.totalizer < 100000000000 → u.meter.totalizer < 100000000000) (h : KeepsTables s t) :
    KeepsTables s (t.setLane l u) := by
  refine h.trans (keepsTables_of_lists rfl (fun ht j => ?_) id id)
  by_cases hj : j = l
  · subst hj; rw [State.lane_setLane_same]; exact hu (ht j)
  · rw [State.lane_setLane_ne _ _ _ _ hj]; exact ht j

theorem setLane_keeps {l : Lane} {u : LaneUnit} (hu : u.meter.totalizer = (t.lane l).meter.totalizer) (h : KeepsTables s t) :
    KeepsTables s (t.setLane l u) := setLane_keeps_of (fun g => hu ▸ g) h

/-- All lanes may be replaced by lanes of the same totalizers. -/
theorem lanes_keeps {v : Eight LaneUnit} (hv : ∀ l, (v.get l).meter.totalizer = (t.lane l).meter.totalizer) (h : KeepsTables s t) :
    KeepsTables s { t with lanes := v } :=
  h.trans (keepsTables_of_lists rfl (fun ht l => (hv l).symm ▸ ht l) id id)

theorem tanks_keeps (v : Eight TankUnit) (h : KeepsTables s t) : KeepsTables s { t with tanks := v } :=
  h.trans (keepsTables_of_ports (fun _ => .refl _) rfl rfl rfl rfl rfl)

theorem device_keeps (d : Device) (h : KeepsTables s t) : KeepsTables s { t with device := d } :=
  h.trans (keepsTables_of_ports (fun _ => .refl _) rfl rfl rfl rfl rfl)

theorem time_keeps (b : BayTime) (h : KeepsTables s t) : KeepsTables s { t with time := b } :=
  h.trans (keepsTables_of_ports (fun _ => .refl _) rfl rfl rfl rfl rfl)

theorem bus_keeps (b : GaugeBus) (h : KeepsTables s t) : KeepsTables s { t with bus := b } :=
  h.trans (keepsTables_of_ports (fun _ => .refl _) rfl rfl rfl rfl rfl)

theorem cal_keeps (c : CalLock) (h : KeepsTables s t) : KeepsTables s { t with cal := c } :=
  h.trans (keepsTables_of_ports (fun _ => .refl _) rfl rfl rfl rfl rfl)

theorem records_keeps (q : RecordQueue) (h : KeepsTables s t) : KeepsTables s { t with records := q } :=
  h.trans (keepsTables_of_ports (fun _ => .refl _) rfl rfl rfl rfl rfl)

theorem deliveries_keeps {q : DeliveryUnit} (hq : t.deliveries.entries.length ≤ 8 → q.entries.length ≤ 8) (h : KeepsTables s t) :
    KeepsTables s { t with deliveries := q } :=
  h.trans (keepsTables_of_lists rfl id (fun ⟨hd, ho, hx⟩ => ⟨hq hd, ho, hx⟩) id)

theorem orders_keeps {q : OrderList} (hq : t.orders.orders.length ≤ 16 → q.orders.length ≤ 16) (h : KeepsTables s t) :
    KeepsTables s { t with orders := q } :=
  h.trans (keepsTables_of_lists rfl id (fun ⟨hd, ho, hx⟩ => ⟨hd, hq ho, hx⟩) id)

theorem spill_keeps {q : SpillUnit} (hq : t.spill.trips.length ≤ 16 → q.trips.length ≤ 16) (h : KeepsTables s t) :
    KeepsTables s { t with spill := q } :=
  h.trans (keepsTables_of_lists rfl id (fun ⟨hd, ho, hx⟩ => ⟨hd, ho, hq hx⟩) id)

theorem accounts_keeps {q : AccountTable}
    (hq : (t.accounts.slots.map (fun e => e.1)).Pairwise (· < ·) → (q.slots.map (fun e => e.1)).Pairwise (· < ·))
    (h : KeepsTables s t) : KeepsTables s { t with accounts := q } :=
  h.trans (keepsTables_of_lists rfl id id hq)

/-! ## Posting, replying and serving (R171, R176 to R178, R185) -/

/-- A kind's bit is none of those that stand for no kind (R195). -/
theorem EventKind.bit_known (k : EventKind) : k.bit &&& 0xF800#16 = 0#16 := by cases k <;> decide

/-- Two sets that name only kinds there are, joined, name only such (R195). -/
theorem knownKinds_or {a b m : EventSet} (ha : a &&& m = 0#16) (hb : b &&& m = 0#16) : (a ||| b) &&& m = 0#16 := by
  apply BitVec.eq_of_getLsbD_eq
  intro i _
  have h1 := congrArg (fun x : EventSet => x.getLsbD i) ha
  have h2 := congrArg (fun x : EventSet => x.getLsbD i) hb
  simp only [BitVec.getLsbD_and, BitVec.getLsbD_or, BitVec.getLsbD_zero] at h1 h2 ⊢
  rw [Bool.and_or_distrib_right, h1, h2, Bool.or_false]

/-- Kinds taken from a set that names only kinds there are leave such a set (R195). -/
theorem knownKinds_and {a m : EventSet} (b : EventSet) (ha : a &&& m = 0#16) : (a &&& b) &&& m = 0#16 := by
  rw [BitVec.and_assoc, BitVec.and_comm b m, ← BitVec.and_assoc, ha, BitVec.zero_and]

@[simp] theorem Port.followSet_rxBuffer (p : Port) : p.followSet.rxBuffer = p.rxBuffer := by
  unfold Port.followSet; split <;> rfl

@[simp] theorem Port.post_rxBuffer (k : EventKind) (p : Port) : (p.post k).rxBuffer = p.rxBuffer := by
  unfold Port.post; dsimp only; split
  · split <;> rfl
  · simp

theorem Port.post_keeps (k : EventKind) (p : Port) : p.Keeps (p.post k) where
  level := Port.post_level k p
  event := fun ⟨hs, hm⟩ => ⟨by rw [Port.post_pendingSet]; exact knownKinds_or hs k.bit_known, by simpa using hm⟩
  receive := fun h => by simpa [Port.meetsReceiveLaw] using h

theorem post_keeps (k : EventKind) (h : KeepsTables s t) : KeepsTables s (post k t) :=
  h.trans (keepsTables_of_ports (fun i => post_port k t i ▸ Port.post_keeps k _) rfl rfl rfl rfl rfl)

theorem postIf_keeps (c : Bool) (k : EventKind) (h : KeepsTables s t) : KeepsTables s (postIf c k t) := by
  cases c
  · exact h
  · exact post_keeps k h

/-- A port that sends is BUSY over an empty buffer. -/
theorem Port.send_keeps (p : Port) (r : Reply) : p.Keeps (p.send r) :=
  ⟨rfl, id, fun ⟨_, hc⟩ => ⟨by simp [Port.send], hc⟩⟩

theorem reply_keeps (f : Frame) (code : Byte) (st : Status) (p : Payload) (h : KeepsTables s t) :
    KeepsTables s (t.reply f code st p) := setPort_keeps (Port.send_keeps _ _) h

theorem Port.overlap_keeps (p : Port) : p.Keeps p.overlap := by
  unfold Port.overlap
  split
  · split
    · exact .refl p
    · exact ⟨rfl, id, fun ⟨hr, hg, hc, _⟩ => ⟨hr, hg, hc, satAdd_le _ _ _⟩⟩
  · exact .refl p

theorem overlapAt_keeps (i : PortId) (h : KeepsTables s t) : KeepsTables s (t.overlapAt i) := setPort_keeps (Port.overlap_keeps _) h

/-- A request keeps the tables where its owning block does. -/
theorem serve_keeps {f : Frame} {code : Byte} {a : Access} {act : State → Answer} (h : KeepsTables s (act s).state) :
    KeepsTables s (serve f code a act s) := by
  rcases serve_cases f code a act s with ⟨_, e⟩ | ⟨_, _, e⟩ | ⟨_, _, e⟩ | ⟨_, _, _, e⟩ | ⟨_, _, _, e⟩ <;> rw [e]
  · exact .refl s
  · exact overlapAt_keeps _ (.refl s)
  · exact reply_keeps _ _ _ _ (.refl s)
  · exact reply_keeps _ _ _ _ (.refl s)
  · exact reply_keeps _ _ _ _ h

theorem whenRunning_keeps {f : State → State} (h : KeepsTables s (f s)) : KeepsTables s (s.whenRunning f) := by
  unfold State.whenRunning
  split
  · exact h
  · exact .refl s

theorem onLine_keeps {f : State → State} (h : KeepsTables s (f s)) : KeepsTables s (s.onLine f) := by
  unfold State.onLine
  split
  · exact .refl s
  · exact h

theorem onLane_keeps {n : Nat} {act : Lane → State → Answer} (h : ∀ l, KeepsTables s (act l s).state) :
    KeepsTables s (onLane n act s).state := by
  unfold onLane
  split
  · exact h _
  · exact .refl s

theorem onTank_keeps {n : Nat} {act : Tank → State → Answer} (h : ∀ k, KeepsTables s (act k s).state) :
    KeepsTables s (onTank n act s).state := by
  unfold onTank
  split
  · exact h _
  · exact .refl s

theorem onSource_keeps {n : Nat} {act : SourceId → State → Answer} (h : ∀ i, KeepsTables s (act i s).state) :
    KeepsTables s (onSource n act s).state := by
  unfold onSource
  split
  · exact h _
  · exact .refl s

theorem onDelivery_keeps {n : Nat} {act : DeliveryEntry → State → Answer} (h : ∀ e, KeepsTables s (act e s).state) :
    KeepsTables s (onDelivery n act s).state := by
  unfold onDelivery
  split
  · exact h _
  · exact .refl s

/-! ## The account table (R93, R95 to R109) -/

/-- A slot of the table with an entry written is the entry's or one that was occupied. -/
theorem mem_putSlot {i n : Nat} {a : Account} {xs : List (Nat × Account)} (h : n ∈ (putSlot i a xs).map (fun e => e.1)) :
    n = i ∨ n ∈ xs.map (fun e => e.1) := by
  induction xs with
  | nil => exact Or.inl (by simpa [putSlot] using h)
  | cons e rest ih =>
    unfold putSlot at h
    split at h
    · simpa using h
    · split at h
      · rename_i he
        simp only [List.map_cons, List.mem_cons] at h ⊢
        exact h.imp_right Or.inr
      · simp only [List.map_cons, List.mem_cons] at h ⊢
        rcases h with h | h
        · exact Or.inr (Or.inl h)
        · exact (ih h).imp_right Or.inr

/-- An entry written keeps the slots in slot order, one entry to a slot (R93). -/
theorem putSlot_pairwise (i : Nat) (a : Account) {xs : List (Nat × Account)} (h : (xs.map (fun e => e.1)).Pairwise (· < ·)) :
    ((putSlot i a xs).map (fun e => e.1)).Pairwise (· < ·) := by
  induction xs with
  | nil => simp [putSlot]
  | cons e rest ih =>
    rw [List.map_cons, List.pairwise_cons] at h
    obtain ⟨he, hr⟩ := h
    unfold putSlot
    split
    · rename_i hlt
      refine List.pairwise_cons.2 ⟨fun n hn => ?_, List.pairwise_cons.2 ⟨he, hr⟩⟩
      rcases List.mem_cons.1 hn with rfl | hn
      · exact hlt
      · exact hlt.trans (he n hn)
    · split
      · rename_i heq
        exact List.pairwise_cons.2 ⟨fun n hn => heq ▸ he n hn, hr⟩
      · refine List.pairwise_cons.2 ⟨fun n hn => ?_, ih hr⟩
        rcases mem_putSlot hn with rfl | hn
        · dsimp only; omega
        · exact he n hn

/-- A slot freed leaves the others in order (R97). -/
theorem freeSlot_pairwise (i : Nat) {xs : List (Nat × Account)} (h : (xs.map (fun e => e.1)).Pairwise (· < ·)) :
    ((freeSlot i xs).map (fun e => e.1)).Pairwise (· < ·) :=
  h.sublist (List.filter_sublist.map _)

theorem putSlot_keeps (i : Nat) (a : Account) (h : KeepsTables s t) : KeepsTables s (t.setSlots (putSlot i a t.accounts.slots)) :=
  accounts_keeps (putSlot_pairwise i a) h

/-! ## The meter unit (R2 to R24) -/

/-- The totalizer stays below its modulus (R19). -/
theorem totalize_lt (n : Nat) (dG : Int) : totalize n dG < 100000000000 := by
  unfold totalize Config.totalizerModulus; omega

@[simp] theorem Meter.miscount_totalizer (m : Meter) (b : Bool) : (m.miscount b).totalizer = m.totalizer := by cases b <;> rfl

@[simp] theorem Meter.countEdge_totalizer (m : Meter) (a b : Bool) (z : Int) : (m.countEdge a b z).totalizer = m.totalizer := by
  unfold Meter.countEdge; dsimp only; split <;> rfl

theorem LaneUnit.hearEdge_meter (u : LaneUnit) : u.hearEdge.meter = u.meter := by unfold LaneUnit.hearEdge; split <;> rfl

/-! ## The delivery unit (R78 to R90) -/

theorem mapDeliveries_keeps (p : DeliveryEntry → Bool) (f : DeliveryEntry → DeliveryEntry) (h : KeepsTables s t) :
    KeepsTables s (mapDeliveries p f t) := deliveries_keeps (by simp) h

theorem endDischarge_keeps (k : Tank) (b : Bool) (h : KeepsTables s t) : KeepsTables s (endDischarge k b t) :=
  setTank_keeps _ _ (mapDeliveries_keeps _ _ h)

theorem countDrawn_keeps (k : Tank) (dN : Int) (h : KeepsTables s t) : KeepsTables s (countDrawn k dN t) :=
  mapDeliveries_keeps _ _ (setTank_keeps _ _ h)

theorem closingGauge_keeps (k : Tank) (h : KeepsTables s t) : KeepsTables s (closingGauge k t) := by
  unfold closingGauge
  split
  · split
    · exact h
    · exact post_keeps _ (setTank_keeps _ _ (mapDeliveries_keeps _ _ h))
  · exact h

theorem missedGauge_keeps (k : Tank) (h : KeepsTables s t) : KeepsTables s (missedGauge k t) :=
  postIf_keeps _ _ (mapDeliveries_keeps _ _ h)

/-! ## The order list (R114 to R121) -/

theorem removeOrder_length (n : Nat) (os : List Order) : (removeOrder n os).length ≤ os.length := List.length_filter_le _ _

@[simp] theorem claimOrder_length (n : Nat) (l : Lane) (os : List Order) : (claimOrder n l os).length = os.length :=
  List.length_map _

theorem settleOrder_length (n : Nat) (net : Int) (uptime : Nat) (os : List Order) :
    (settleOrder n net uptime os).length ≤ os.length := by
  unfold settleOrder
  split
  · exact removeOrder_length n os
  · split
    · split
      · exact removeOrder_length n os
      · exact (List.length_map _).le
    · exact le_rfl

theorem closeOrder_keeps (n : Nat) (net : Int) (h : KeepsTables s t) : KeepsTables s (closeOrder n net t) := by
  unfold closeOrder
  split
  · exact h
  · exact post_keeps _ (orders_keeps ((settleOrder_length _ _ _ _).trans) h)

/-! ## The lane controller (R28 to R51, R62 to R69) -/

theorem fileRecord_keeps (r : Record) (h : KeepsTables s t) : KeepsTables s (fileRecord r t) :=
  postIf_keeps _ _ (records_keeps _ h)

theorem dropDemand_keeps (k : Tank) (h : KeepsTables s t) : KeepsTables s (dropDemand k t) := by
  rcases dropDemand_cases k t with ⟨_, e⟩ | ⟨_, e⟩ <;> rw [e]
  · exact h
  · exact setTank_keeps _ _ h

theorem pumpRunning_keeps (k : Tank) (h : KeepsTables s t) : KeepsTables s (pumpRunning k t) :=
  lanes_keeps (fun l => by
    rw [Eight.get_map]; unfold LaneUnit.hearRunning; split <;> rfl) (setTank_keeps k ((t.tank k).setPump .running none) h)

theorem joinDemand_keeps (l : Lane) (h : KeepsTables s t) : KeepsTables s (joinDemand l t) := by
  unfold joinDemand
  dsimp only
  split
  · exact setLane_keeps rfl h
  · exact h
  · split
    · exact pumpRunning_keeps _ h
    · exact setTank_keeps _ _ h

theorem startLane_keeps (l : Lane) (h : KeepsTables s t) : KeepsTables s (startLane l t) := joinDemand_keeps l (setLane_keeps rfl h)

theorem closeBooking_keeps (c : Context) (k : Tank) (net : Int) (h : KeepsTables s t) :
    KeepsTables s (closeBooking c k net t).1 := by
  unfold closeBooking
  split
  · exact h
  · exact postIf_keeps _ _ (putSlot_keeps _ _ h)

theorem closeLane_keeps (l : Lane) (h : KeepsTables s t) : KeepsTables s (closeLane l t) := by
  unfold closeLane
  dsimp only
  split
  · exact h
  · rename_i c hc
    refine dropDemand_keeps _ (post_keeps _ (setLane_keeps ?_ (postIf_keeps _ _ (fileRecord_keeps _ (setTank_keeps _ _
      (closeOrder_keeps _ _ (closeBooking_keeps c _ _ h)))))))
    simp [State.lane, LaneUnit.afterClose, LaneUnit.shut]

theorem endLane_keeps (l : Lane) (r : EndReason) (h : KeepsTables s t) : KeepsTables s (endLane l r t) := by
  rcases endLane_cases l r t with ⟨_, e⟩ | ⟨_, e⟩ | ⟨_, e⟩ <;> rw [e]
  · exact closeLane_keeps _ (setLane_keeps rfl h)
  · exact dropDemand_keeps _ (setLane_keeps rfl h)
  · exact h

theorem endLanes_keeps (ls : LaneSet) (r : EndReason) (h : KeepsTables s t) : KeepsTables s (endLanes ls r t) :=
  foldl_keeps_prop (KeepsTables s) _ (fun u l hu => by split <;> [exact endLane_keeps l r hu; exact hu]) _ t h

theorem takeFault_keeps (l : Lane) (f : LaneFault) (h : KeepsTables s t) : KeepsTables s (takeFault l f t) := by
  unfold takeFault
  dsimp only
  split
  · split
    · exact setLane_keeps (by simp [LaneUnit.setReason]) (post_keeps _ (setLane_keeps rfl h))
    · exact endLane_keeps _ _ (post_keeps _ (setLane_keeps rfl h))
  · exact h

theorem faultIf_keeps (c : Bool) (l : Lane) (f : LaneFault) (h : KeepsTables s t) : KeepsTables s (faultIf c l f t) := by
  cases c
  · exact h
  · exact takeFault_keeps l f h

theorem miscountEvent_keeps (l : Lane) (h : KeepsTables s t) : KeepsTables s (miscountEvent l t) :=
  faultIf_keeps _ _ _ (setLane_keeps (Meter.miscount_totalizer _ _) h)

theorem evaluateStage_keeps (l : Lane) (h : KeepsTables s t) : KeepsTables s (evaluateStage l t) := by
  unfold evaluateStage
  dsimp only
  split
  · exact setLane_keeps rfl h
  · exact h

theorem testPreset_keeps (l : Lane) (h : KeepsTables s t) : KeepsTables s (testPreset l t) := by
  unfold testPreset
  dsimp only
  split
  · split
    · exact endLane_keeps _ _ h
    · exact evaluateStage_keeps _ h
  · exact h

theorem allocationCut_keeps (l : Lane) (a : Int) (h : KeepsTables s t) : KeepsTables s (allocationCut l a t) := by
  unfold allocationCut
  dsimp only
  split
  · exact h
  · split
    · exact endLane_keeps _ _ (setLane_keeps rfl h)
    · exact evaluateStage_keeps _ (setLane_keeps rfl h)

theorem trimTank_keeps (k : Tank) (h : KeepsTables s t) : KeepsTables s (trimTank k t) :=
  foldl_keeps_prop (KeepsTables s) _ (fun _ c hu => allocationCut_keeps c.1 c.2 hu) _ _ (setTank_keeps _ _ h)

theorem bookDraw_keeps (l : Lane) (dN : Int) (h : KeepsTables s t) : KeepsTables s (bookDraw l dN t) :=
  trimTank_keeps _ (setTank_keeps _ _ (countDrawn_keeps _ _ h))

theorem testOverrun_keeps (l : Lane) (h : KeepsTables s t) : KeepsTables s (testOverrun l t) := by
  unfold testOverrun
  dsimp only
  split
  · exact h
  · exact faultIf_keeps _ _ _ h

/-! ## The spill shutdown unit (R142 to R158) -/

theorem blankIf_keeps (c : Bool) (i : SourceId) (h : KeepsTables s t) : KeepsTables s (blankIf c i t) := by
  cases c
  · exact h
  · exact setSource_keeps _ _ h

theorem blockAll_keeps (ls : LaneSet) (ts : TankSet) (h : KeepsTables s t) : KeepsTables s (blockAll ls ts t) :=
  foldl_keeps_prop (KeepsTables s) _ (fun u k hu => by split <;> [exact endDischarge_keeps k true hu; exact hu]) _ _
    (endLanes_keeps ls .spill h)

theorem tripSource_keeps (i : SourceId) (h : KeepsTables s t) : KeepsTables s (tripSource i t) :=
  post_keeps _ (blockAll_keeps _ _ (spill_keeps (addTrip_length (t.tripEntry i) t.spill) h))

theorem riseSource_keeps (i : SourceId) (h : KeepsTables s t) : KeepsTables s (riseSource i t) := by
  unfold riseSource
  dsimp only
  split
  · exact setSource_keeps _ _ h
  · exact tripSource_keeps i h

theorem sampleSource_keeps (i : SourceId) (c : Bool) (h : KeepsTables s t) : KeepsTables s (sampleSource i c t) := by
  unfold sampleSource
  dsimp only
  split
  · exact riseSource_keeps i (setSource_keeps _ _ h)
  · exact setSource_keeps _ _ h

theorem creepTrigger_keeps (l : Lane) (c : Bool) (h : KeepsTables s t) : KeepsTables s (creepTrigger l c t) := by
  unfold creepTrigger
  dsimp only
  split
  · exact riseSource_keeps _ (setSource_keeps _ _ h)
  · exact setSource_keeps _ _ h

theorem sampleHose_keeps (l : Lane) (h : KeepsTables s t) : KeepsTables s (sampleHose l t) := by
  unfold sampleHose
  dsimp only
  split
  · exact creepTrigger_keeps _ _ (sampleSource_keeps _ _ h)
  · exact sampleSource_keeps _ _ h

end Sys2Proof.Machine
end

section
/-! Every command keeps the table laws: start-up, the commands of each block, and the step. -/

namespace Sys2Proof.Machine

variable {s t : State}

/-! ## Start-up (R169 to R174) -/

theorem Port.release_keeps (p : Port) : p.Keeps p.release := ⟨rfl, id, fun ⟨_, hc⟩ => ⟨by simp [Port.release], hc⟩⟩

theorem hold_keeps (h : KeepsTables s t) : KeepsTables s (hold t) := by
  have h1 : KeepsTables s { t with ports := t.ports.map Port.release } :=
    h.trans (keepsTables_of_ports (fun i => by simpa [State.port] using Port.release_keeps _) rfl rfl rfl rfl rfl)
  have h2 : KeepsTables s { t with ports := t.ports.map Port.release, lanes := t.lanes.map LaneUnit.releaseOutputs } :=
    lanes_keeps (fun l => by rw [Eight.get_map]; rfl) h1
  exact bus_keeps _ (tanks_keeps _ (device_keeps _ h2))

/-- The factory values meet the laws of the blocks they replace, and the ports keep what is not written (R170, R183). -/
theorem writeFactory_keeps (s : State) : KeepsTables s (writeFactory s) where
  access := fun _ => ⟨.console, rfl⟩
  event := fun h i => by cases i <;> [exact h .dispatch; exact h .console; exact h .receipt]
  totalizer := fun _ l => by simp [State.lane, writeFactory, factoryLaneUnit, Meter.atStartUp]
  list := fun ⟨_, ho, _⟩ => ⟨Nat.zero_le 8, ho, Nat.zero_le 16⟩
  account := fun _ => List.Pairwise.nil
  receive := fun h i => by cases i <;> [exact h .dispatch; exact h .console; exact h .receipt]

theorem checkMarker_keeps (s : State) : KeepsTables s (checkMarker s) := by
  unfold checkMarker
  split
  · exact .refl s
  · exact writeFactory_keeps s

theorem portAtStartUp_meetsReceiveLaw (level : Nat) (d : DenialMap) (rate : BitVec 2) :
    (portAtStartUp level d rate).meetsReceiveLaw :=
  ⟨by simp [portAtStartUp], Nat.zero_le _, Nat.zero_le _, Nat.zero_le _⟩

/-- A port at start-up, and one that sends the rest of its reply (R174). -/
theorem Port.atStartUp_keeps (c : StartCause) (rate : BitVec 2) (p : Port) : p.Keeps (p.atStartUp c rate) := by
  have hs : (0#16 : EventSet) &&& 0xF800#16 = 0#16 := by decide
  have hk : allKinds &&& 0xF800#16 = 0#16 := by decide
  have hr := portAtStartUp_meetsReceiveLaw p.level p.denial rate
  cases c with
  | powerOrPin => exact ⟨rfl, fun _ => ⟨hs, hk⟩, fun _ => hr⟩
  | bayRestart =>
    unfold Port.atStartUp
    dsimp only
    split
    · exact ⟨rfl, fun ⟨_, hm⟩ => ⟨hs, hm⟩, fun _ => ⟨by simp [portAtStartUp], hr.2⟩⟩
    · exact ⟨rfl, fun ⟨_, hm⟩ => ⟨hs, hm⟩, fun _ => hr⟩

@[simp] theorem resetVolatile_port (c : StartCause) (straps : BitVec 2) (s : State) (i : PortId) :
    (resetVolatile c straps s).port i = (s.port i).atStartUp c straps := by
  simp [State.port, resetVolatile]

@[simp] theorem resetVolatile_lane (c : StartCause) (straps : BitVec 2) (s : State) (l : Lane) :
    (resetVolatile c straps s).lane l = (s.lane l).atStartUp := by
  simp [State.lane, resetVolatile]

theorem resetVolatile_keeps (c : StartCause) (straps : BitVec 2) (s : State) : KeepsTables s (resetVolatile c straps s) := by
  have hp : ∀ i, (s.port i).Keeps ((resetVolatile c straps s).port i) := fun i =>
    resetVolatile_port c straps s i ▸ Port.atStartUp_keeps c straps _
  refine ⟨fun ⟨i, h⟩ => ⟨i, (hp i).level.trans h⟩, fun h i => (hp i).event (h i), fun h l => ?_,
    fun ⟨hd, _, hx⟩ => ⟨by simpa [resetVolatile] using hd, Nat.zero_le 16, hx⟩, id, fun h i => (hp i).receive (h i)⟩
  rw [resetVolatile_lane]
  exact h l

theorem powerLostBooking_keeps (c : Context) (k : Tank) (h : KeepsTables s t) : KeepsTables s (powerLostBooking c k t) := by
  unfold powerLostBooking
  split
  · exact h
  · exact putSlot_keeps _ _ h

@[simp] theorem powerLostBooking_lanes (c : Context) (k : Tank) (s : State) : (powerLostBooking c k s).lanes = s.lanes := by
  unfold powerLostBooking; split <;> rfl

theorem fileContext_keeps (l : Lane) (h : KeepsTables s t) : KeepsTables s (fileContext l t) := by
  unfold fileContext
  dsimp only
  split
  · exact h
  · exact setLane_keeps (by simp [State.lane]) (records_keeps _ (powerLostBooking_keeps _ _ h))

theorem startUp_keeps (c : StartCause) (straps : BitVec 2) (s : State) : KeepsTables s (startUp c straps s) := by
  have h : KeepsTables s (resetVolatile c straps (checkMarker s)) := (checkMarker_keeps s).trans (resetVolatile_keeps c straps _)
  have hf : KeepsTables s (fileContexts (resetVolatile c straps (checkMarker s))) :=
    foldl_keeps_prop (KeepsTables s) _ (fun _ l hu => fileContext_keeps l hu) _ _ h
  exact deliveries_keeps (by simp) hf

theorem powerUp_keeps (straps : BitVec 2) (h : KeepsTables s t) : KeepsTables s (powerUp straps t) := by
  unfold powerUp
  split
  · exact h.trans (startUp_keeps _ _ _)
  · exact h

theorem enterRunning_keeps (a b : LaneSet) (h : KeepsTables s t) : KeepsTables s (enterRunning a b t) := by
  refine postIf_keeps _ _ (post_keeps _ ?_)
  have h1 : KeepsTables s
      { t with lanes := Eight.ofFn (fun l => (t.lane l).enterRunning (inSet a l) (inSet b l)) } :=
    lanes_keeps (fun l => by rw [Eight.get_ofFn]; rfl) h
  exact tanks_keeps _ (time_keeps _ (device_keeps _ h1))

theorem keepRate_keeps (i : PortId) (rate : BitVec 2) (h : KeepsTables s t) : KeepsTables s (keepRate i rate t) :=
  setPort_keeps ⟨rfl, id, id⟩ h

theorem bayRestartAnswer_keeps (i : PortId) (straps : BitVec 2) (s : State) : KeepsTables s (bayRestartAnswer i straps s).state := by
  unfold bayRestartAnswer
  split
  · exact .refl s
  · exact keepRate_keeps _ _ (startUp_keeps _ _ s)

/-! ## Time and timers (R37, R42, R45, R68, R81, R87, R117, R157, R187, R190, R191) -/

theorem pumpExpiry_keeps (k : Tank) (s : State) : KeepsTables s (pumpExpiry k s) := by
  unfold pumpExpiry
  split
  · split
    · exact setTank_keeps _ _ (endLanes_keeps _ _ (.refl s))
    · exact .refl s
  · exact .refl s

theorem authorizationExpiry_keeps (l : Lane) (s : State) : KeepsTables s (authorizationExpiry l s) := by
  unfold authorizationExpiry
  split
  · split <;> [exact endLane_keeps _ _ (.refl s); exact .refl s]
  · split <;> [exact endLane_keeps _ _ (.refl s); exact .refl s]
  · exact .refl s

theorem noFlowExpiry_keeps (l : Lane) (s : State) : KeepsTables s (noFlowExpiry l s) := by
  unfold noFlowExpiry
  split
  · split <;> [exact endLane_keeps _ _ (.refl s); exact .refl s]
  · exact .refl s

theorem settleEnd_keeps (l : Lane) (s : State) : KeepsTables s (settleEnd l s) := by
  unfold settleEnd
  split
  · split <;> [exact closeLane_keeps _ (.refl s); exact .refl s]
  · exact .refl s

theorem Port.endPulse_keeps (p : Port) : p.Keeps p.endPulse := by
  unfold Port.endPulse
  split
  · exact ⟨rfl, id, id⟩
  · exact .refl p

theorem announcementExpiry_keeps (n : Nat) (s : State) : KeepsTables s (announcementExpiry n s) :=
  postIf_keeps _ _ (mapDeliveries_keeps _ _ (.refl s))

theorem orderDeadline_keeps (n : Nat) (s : State) : KeepsTables s (orderDeadline n s) := by
  unfold orderDeadline
  split
  · split
    · exact post_keeps _ (orders_keeps (removeOrder_length _ _).trans (.refl s))
    · exact .refl s
  · exact .refl s

theorem captureSample_keeps (s : State) : KeepsTables s (captureSample s) := by
  unfold captureSample
  split
  · exact spill_keeps id (.refl s)
  · exact .refl s

theorem wholeSecond_keeps (s : State) : KeepsTables s (wholeSecond s) := by
  unfold wholeSecond
  split
  · refine keepsTables_of_lists rfl (fun h l => ?_) (fun ⟨hd, ho, hx⟩ => ⟨by simpa [runningSecond] using hd, ho, hx⟩) id
    simpa [State.lane, runningSecond, LaneUnit.tick] using h l
  · exact time_keeps _ (.refl s)
  · exact .refl s

/-! ## Field and meter commands (R2 to R22, R30, R57 to R75, R142 to R151) -/

theorem hookSample_keeps (l : Lane) (b : Bool) (s : State) : KeepsTables s (hookSample l b s) := by
  have h : KeepsTables s (s.setLane l { s.lane l with hook := (s.lane l).hook.sample b }) := setLane_keeps rfl (.refl s)
  unfold hookSample
  dsimp only
  split
  · unfold hookEvent
    split
    · exact startLane_keeps _ h
    · exact endLane_keeps _ _ h
    · exact endLane_keeps _ _ h
    · exact h
  · exact h

theorem pumpRdySample_keeps (k : Tank) (b : Bool) (s : State) : KeepsTables s (pumpRdySample k b s) := by
  have h : KeepsTables s (s.setTank k { s.tank k with rdy := (s.tank k).rdy.sample b }) := setTank_keeps _ _ (.refl s)
  unfold pumpRdySample
  dsimp only
  split
  · exact h
  · unfold pumpRdyEvent
    split
    · exact pumpRunning_keeps _ h
    · exact setTank_keeps _ _ h
    · exact h

theorem zoneSample_keeps (k : Tank) (level : Nat) (h : KeepsTables s t) : KeepsTables s (zoneSample k level t) := by
  have h1 : KeepsTables s (zoneAlarm k (t.tank k).zone (t.setTank k ((t.tank k).updateZone level))) :=
    postIf_keeps _ _ (setTank_keeps _ _ (setTank_keeps _ _ h))
  unfold zoneSample
  dsimp only
  split
  · exact setTank_keeps _ _ (endLanes_keeps _ _ h1)
  · exact h1

theorem gaugeEvent_keeps (k : Tank) (r : Option GaugeReading) (h : KeepsTables s t) : KeepsTables s (gaugeEvent k r t) := by
  have h1 : KeepsTables s { t.setTank k ((t.tank k).takeReading r).computeNet with bus := .polled k } :=
    bus_keeps _ (setTank_keeps _ _ h)
  refine setTank_keeps _ _ (sampleSource_keeps _ _ (sampleSource_keeps _ _ (setTank_keeps _ _ ?_)))
  cases r with
  | some g => exact closingGauge_keeps _ (zoneSample_keeps _ _ h1)
  | none => exact missedGauge_keeps _ h1

theorem gaugeSample_keeps (k : Tank) (r : Option GaugeReading) (s : State) : KeepsTables s (gaugeSample k r s) := by
  unfold gaugeSample
  split
  · exact gaugeEvent_keeps _ _ (.refl s)
  · exact .refl s

theorem gaugeStale_keeps (k : Tank) (s : State) : KeepsTables s (gaugeStale k s) := by
  unfold gaugeStale
  dsimp only
  split
  · exact gaugeEvent_keeps _ _ (setTank_keeps _ _ (.refl s))
  · exact .refl s

theorem staleEnd_keeps (k : Tank) (s : State) : KeepsTables s (staleEnd k s) := by
  unfold staleEnd
  split
  · exact gaugeEvent_keeps _ _ (mapDeliveries_keeps _ _ (.refl s))
  · exact .refl s

theorem noGaugeSample_keeps (k : Tank) (s : State) : KeepsTables s (noGaugeSample k s) := by
  unfold noGaugeSample
  split
  · exact sampleSource_keeps _ _ (sampleSource_keeps _ _ (setTank_keeps _ _ (.refl s)))
  · exact .refl s

theorem discreteSample_keeps (low : BitVec 4) (c : Bool) (s : State) : KeepsTables s (discreteSample low c s) :=
  sampleSource_keeps _ _ (sampleSource_keeps _ _ (sampleSource_keeps _ _ (sampleSource_keeps _ _ (sampleSource_keeps _ _ (.refl s)))))

theorem sourceTrip_keeps (i : SourceId) (s : State) : KeepsTables s (sourceTrip i s) := by
  unfold sourceTrip
  split
  · exact riseSource_keeps _ (.refl s)
  · dsimp only
    split
    · exact riseSource_keeps _ (setSource_keeps _ _ (.refl s))
    · exact .refl s

theorem countedEdge_keeps (l : Lane) (a b : Bool) (z : Int) (s : State) : KeepsTables s (countedEdge l a b z s) := by
  have h : KeepsTables s (s.setLane l { s.lane l with meter := (s.lane l).meter.countEdge a b z }.hearEdge) :=
    setLane_keeps (by rw [LaneUnit.hearEdge_meter]; exact Meter.countEdge_totalizer _ _ _ _) (.refl s)
  unfold countedEdge
  dsimp only
  split
  · exact miscountEvent_keeps _ (setLane_keeps rfl h)
  · exact h

theorem illegalPair_keeps (l : Lane) (a b : Bool) (s : State) : KeepsTables s (illegalPair l a b s) :=
  miscountEvent_keeps _ (setLane_keeps rfl (.refl s))

theorem decoderSample_keeps (l : Lane) (a b : Bool) (s : State) : KeepsTables s (decoderSample l a b s) := by
  unfold decoderSample
  split
  · exact .refl s
  · exact countedEdge_keeps _ _ _ _ s
  · exact illegalPair_keeps _ _ _ s

theorem meterFault_keeps (l : Lane) (s : State) : KeepsTables s (meterFault l s) := by
  unfold meterFault
  dsimp only
  split
  · exact miscountEvent_keeps _ (setLane_keeps rfl (.refl s))
  · exact .refl s

theorem indexPulse_keeps (l : Lane) (s : State) : KeepsTables s (indexPulse l s) := by
  unfold indexPulse
  dsimp only
  split
  · exact .refl s
  · split
    · exact setLane_keeps rfl (.refl s)
    · exact setLane_keeps rfl (.refl s)
    · exact miscountEvent_keeps _ (setLane_keeps rfl (.refl s))

/-- A sample takes its totalizer below the modulus, on either path (R19, R20). -/
theorem meterSample_keeps (l : Lane) (s : State) : KeepsTables s (meterSample l s) := by
  unfold meterSample
  dsimp only
  refine sampleHose_keeps _ ?_
  split
  · exact testOverrun_keeps _ (testPreset_keeps _ (faultIf_keeps _ _ _ (faultIf_keeps _ _ _ (bookDraw_keeps _ _
      (setLane_keeps_of (fun _ => totalize_lt _ _) (.refl s))))))
  · exact setLane_keeps_of (fun _ => totalize_lt _ _) (.refl s)

/-! ## The link ports (R174 to R191) -/

/-- R175: a port over a buffer is RECEIVING exactly where the buffer holds characters. -/
theorem Port.withBuffer_keeps (buffer : List Byte) (n : Nat) (p : Port) : p.Keeps (p.withBuffer buffer n) := by
  refine ⟨rfl, id, fun ⟨_, hg, _, ho⟩ => ⟨?_, hg, satAdd_le _ _ _, ho⟩⟩
  cases buffer <;> simp [Port.withBuffer, rxOver]

theorem Port.hear_keeps (bytes : List Byte) (stopLow : Bool) (p : Port) : p.Keeps (p.hear bytes stopLow) := by
  unfold Port.hear
  split
  · split
    · exact Port.withBuffer_keeps _ _ p
    · exact .refl p
  · exact .refl p

theorem Port.hunt_receive {p : Port} (h : p.meetsReceiveLaw) : p.hunt.meetsReceiveLaw := ⟨by simp [Port.hunt], h.2⟩

theorem Port.gapFrame_keeps (p : Port) : p.Keeps p.gapFrame := by
  unfold Port.gapFrame
  split
  · exact ⟨rfl, id, fun ⟨_, _, hc, ho⟩ => ⟨by simp [Port.hunt], satAdd_le _ _ _, hc, ho⟩⟩
  · exact .refl p

theorem Port.endShunning_keeps (p : Port) : p.Keeps p.endShunning := by
  unfold Port.endShunning
  split
  · exact ⟨rfl, id, Port.hunt_receive⟩
  · exact .refl p

theorem Port.endReply_keeps (rate : BitVec 2) (p : Port) : p.Keeps (p.endReply rate) := by
  unfold Port.endReply
  split
  · dsimp only
    split
    · exact ⟨rfl, id, fun ⟨_, hc⟩ => ⟨by simp, hc⟩⟩
    · split <;> exact ⟨rfl, id, fun ⟨_, hc⟩ => ⟨by simp, hc⟩⟩
  · exact .refl p

theorem Port.takeEvents_keeps (p : Port) : p.Keeps p.takeEvents := by
  unfold Port.takeEvents
  split
  · exact .refl p
  · refine ⟨by simp, fun ⟨_, hm⟩ => ⟨by simp, by simpa using hm⟩, fun h => ?_⟩
    simpa [Port.meetsReceiveLaw] using h

theorem Port.removeKinds_keeps (kinds : EventSet) (p : Port) : p.Keeps (p.removeKinds kinds) := by
  refine ⟨by simp [Port.removeKinds], fun ⟨hs, hm⟩ => ⟨?_, by simpa [Port.removeKinds] using hm⟩, fun h => ?_⟩
  · simpa [Port.removeKinds] using knownKinds_and _ hs
  · simpa [Port.meetsReceiveLaw, Port.removeKinds] using h

/-- SET_ATTENTION takes only a mask of kinds there are (R189, R195). -/
theorem Port.setAttention_keeps {mask : EventSet} (hm : kindsOnly mask = true) (mode : LatchMode) (width : Nat) (p : Port) :
    p.Keeps (p.setAttention mask mode width) := by
  have hk : mask &&& 0xF800#16 = 0#16 := by simpa [kindsOnly] using hm
  unfold Port.setAttention
  dsimp only
  split
  · exact ⟨rfl, fun ⟨hs, _⟩ => ⟨hs, hk⟩, id⟩
  · exact ⟨rfl, fun ⟨hs, _⟩ => ⟨hs, hk⟩, id⟩
  · refine ⟨by simp, fun ⟨hs, _⟩ => ⟨by simpa using hs, by simpa using hk⟩, fun h => ?_⟩
    simpa [Port.meetsReceiveLaw] using h

theorem Port.clearCounters_keeps (p : Port) : p.Keeps p.clearCounters :=
  ⟨rfl, id, fun ⟨hr, _⟩ => ⟨hr, Nat.zero_le _, Nat.zero_le _, Nat.zero_le _⟩⟩

theorem clearEventsAnswer_keeps (i : PortId) (kinds : BitVec 16) (s : State) : KeepsTables s (clearEventsAnswer i kinds s).state := by
  unfold clearEventsAnswer
  split
  · exact setPort_keeps (Port.removeKinds_keeps _ _) (.refl s)
  · exact .refl s

theorem setAttentionAnswer_keeps (i : PortId) (mask : BitVec 16) (mode width : Nat) (s : State) :
    KeepsTables s (setAttentionAnswer i mask mode width s).state := by
  unfold setAttentionAnswer
  split
  · split
    · rename_i h
      exact setPort_keeps (Port.setAttention_keeps (Bool.and_eq_true_iff.1 h).1 _ _ _) (.refl s)
    · exact .refl s
  · exact .refl s

/-- SET_ACCESS takes only levels that leave a port at level 0 (R184). -/
theorem setAccessAnswer_keeps (v : AccessSetting) (s : State) : KeepsTables s (setAccessAnswer v s).state := by
  unfold setAccessAnswer
  split
  · split
    · rename_i d c r _ _ _ h
      refine ⟨fun _ => ?_, fun he i => ?_, id, id, id, fun hr i => ?_⟩
      · simp only [levelsOk, Bool.and_eq_true, Bool.or_eq_true, decide_eq_true_eq] at h
        rcases h.2 with (h | h) | h
        · exact ⟨.dispatch, h⟩
        · exact ⟨.console, h⟩
        · exact ⟨.receipt, h⟩
      · cases i <;> [exact he .dispatch; exact he .console; exact he .receipt]
      · cases i <;> [exact hr .dispatch; exact hr .console; exact hr .receipt]
    · exact .refl s
  · exact .refl s

theorem setClockAnswer_keeps (value : Nat) (s : State) : KeepsTables s (setClockAnswer value s).state := by
  unfold setClockAnswer
  split
  · exact time_keeps _ (.refl s)
  · exact .refl s

/-! ## Accounts and orders (R93 to R122) -/

theorem enrolAnswer_keeps (tag : Tag) (cls : Nat) (permits : TankSet) (capacity : Nat) (items : List ItemSetting) (s : State) :
    KeepsTables s (enrolAnswer tag cls permits capacity items s).state := by
  unfold enrolAnswer
  split
  · exact .refl s
  · split
    · exact .refl s
    · exact .refl s
    · exact putSlot_keeps _ _ (.refl s)

theorem retireAnswer_keeps (tag : Tag) (s : State) : KeepsTables s (retireAnswer tag s).state := by
  unfold retireAnswer
  split
  · exact .refl s
  · split
    · exact .refl s
    · exact accounts_keeps (freeSlot_pairwise _) (.refl s)

theorem setMachineAnswer_keeps (tag : Tag) (cls state : Nat) (permits : TankSet) (capacity : Nat) (items : List ItemSetting)
    (s : State) : KeepsTables s (setMachineAnswer tag cls state permits capacity items s).state := by
  unfold setMachineAnswer
  split
  · split
    · exact .refl s
    · exact putSlot_keeps _ _ (.refl s)
  · exact .refl s

theorem setClassAnswer_keeps (cls hours ceiling : Nat) (s : State) : KeepsTables s (setClassAnswer cls hours ceiling s).state := by
  unfold setClassAnswer
  split
  · split
    · exact accounts_keeps id (.refl s)
    · exact .refl s
  · exact .refl s

theorem readAccountAnswer_keeps (tag : Tag) (s : State) : KeepsTables s (readAccountAnswer tag s).state := by
  unfold readAccountAnswer
  split <;> exact .refl s

theorem setCursor_keeps (i : PortId) (n : Nat) (h : KeepsTables s t) : KeepsTables s (t.setCursor i n) :=
  setPort_keeps ⟨rfl, id, id⟩ h

theorem readAccountsAnswer_keeps (i : PortId) (direction count : Nat) (s : State) :
    KeepsTables s (readAccountsAnswer i direction count s).state := by
  unfold readAccountsAnswer
  split
  · exact .refl s
  · split
    · exact setCursor_keeps _ _ (.refl s)
    · exact .refl s

theorem setCursorAnswer_keeps (i : PortId) (slot : Nat) (s : State) : KeepsTables s (setCursorAnswer i slot s).state := by
  unfold setCursorAnswer
  split
  · exact setCursor_keeps _ _ (.refl s)
  · exact .refl s

/-- PLACE_ORDER takes a sixteenth order at most (R114, R116). -/
theorem placeOrderAnswer_keeps (tag : Tag) (tank volume priority expiry : Nat) (s : State) :
    KeepsTables s (placeOrderAnswer tag tank volume priority expiry s).state := by
  unfold placeOrderAnswer
  split
  · split
    · unfold placeChecked
      split
      · exact .refl s
      · split
        · exact .refl s
        · split
          · exact .refl s
          · rename_i h
            refine orders_keeps (fun _ => ?_) (.refl s)
            simp only [Config.orderPlaces] at h
            simp only [OrderList.place, List.length_append, List.length_singleton]
            omega
    · exact .refl s
  · exact .refl s

theorem cancelOrderAnswer_keeps (n : Nat) (s : State) : KeepsTables s (cancelOrderAnswer n s).state := by
  unfold cancelOrderAnswer
  split
  · exact .refl s
  · split
    · exact .refl s
    · exact orders_keeps (removeOrder_length _ _).trans (.refl s)

/-! ## Lane requests (R31 to R34, R50) -/

theorem grantOpen_keeps (r : OpenRequest) (g : OpenGrant) (h : KeepsTables s t) : KeepsTables s (grantOpen r g t) := by
  have h1 : KeepsTables s (t.setLane r.lane
      ((t.lane r.lane).authorize r g t.stamp (t.tank (t.lane r.lane).cfg.tank).t10)) := setLane_keeps rfl h
  refine h1.trans (keepsTables_of_lists rfl id (fun ⟨hd, ho, hx⟩ => ⟨hd, ?_, hx⟩) id)
  unfold grantOpen
  dsimp only
  split
  · exact ho
  · exact (claimOrder_length _ _ _).le.trans ho

theorem openLaneAnswer_keeps (i : PortId) (lane : Nat) (tag : Tag) (order : Nat) (preset hours : Option Nat) (override : Nat)
    (s : State) : KeepsTables s (openLaneAnswer i lane tag order preset hours override s).state := by
  unfold openLaneAnswer
  split
  · unfold openAnswer
    split
    · exact .refl s
    · unfold acceptOpen
      dsimp only
      split
      · exact startLane_keeps _ (grantOpen_keeps _ _ (.refl s))
      · exact grantOpen_keeps _ _ (.refl s)
  · exact .refl s

theorem stopAnswer_keeps (l : Lane) (s : State) : KeepsTables s (stopAnswer l s).state := by
  unfold stopAnswer
  split
  · exact .refl s
  · exact .refl s
  · exact endLane_keeps _ _ (.refl s)

@[simp] theorem LaneUnit.enable_meter (u : LaneUnit) : u.enable.meter = u.meter := by unfold LaneUnit.enable; split <;> rfl

@[simp] theorem LaneUnit.disable_meter (u : LaneUnit) : u.disable.meter = u.meter := by unfold LaneUnit.disable; split <;> rfl

theorem setLaneAnswer_keeps (v : LaneSetting) (l : Lane) (s : State) : KeepsTables s (setLaneAnswer v l s).state := by
  unfold setLaneAnswer
  dsimp only
  split
  · exact .refl s
  · split
    · exact .refl s
    · exact blankIf_keeps _ _ (setLane_keeps rfl (.refl s))

/-! ## Tank requests (R55, R56, R63, R73) -/

theorem setTankAnswer_keeps (v : TankSetting) (k : Tank) (s : State) : KeepsTables s (setTankAnswer v k s).state := by
  unfold setTankAnswer
  dsimp only
  split
  · exact .refl s
  · split
    · exact .refl s
    · exact blankIf_keeps _ _ (blankIf_keeps _ _ (setTank_keeps _ _ (.refl s)))

theorem setReserveAnswer_keeps (n : Nat) (k : Tank) (s : State) : KeepsTables s (setReserveAnswer n k s).state := by
  unfold setReserveAnswer
  dsimp only
  split
  · exact .refl s
  · exact setTank_keeps _ _ (.refl s)

theorem adjustAnswer_keeps (book clear : Nat) (k : Tank) (s : State) : KeepsTables s (adjustAnswer book clear k s).state := by
  unfold adjustAnswer
  split
  · exact .refl s
  · split
    · exact .refl s
    · exact trimTank_keeps _ (setTank_keeps _ _ (.refl s))

/-! ## Delivery requests (R80 to R91) -/

/-- ANNOUNCE_DELIVERY takes an eighth entry at most (R78, R80). -/
theorem announceAnswer_keeps (tank : Nat) (identity : BitVec 64) (docket : Nat) (s : State) :
    KeepsTables s (announceAnswer tank identity docket s).state := by
  unfold announceAnswer
  split
  · exact .refl s
  · split
    · exact .refl s
    · split
      · exact .refl s
      · split
        · exact .refl s
        · rename_i h
          refine deliveries_keeps (fun _ => ?_) (.refl s)
          simp only [Config.deliveryPlaces] at h
          simp only [DeliveryUnit.announce, List.length_append, List.length_singleton]
          omega

theorem confirmAnswer_keeps (settle fixedTol propTol : Option Nat) (e : DeliveryEntry) (s : State) :
    KeepsTables s (confirmAnswer settle fixedTol propTol e s).state := by
  unfold confirmAnswer
  dsimp only
  split
  · exact .refl s
  · split
    · exact .refl s
    · split
      · exact .refl s
      · split
        · exact .refl s
        · exact setTank_keeps _ _ (mapDeliveries_keeps _ _ (.refl s))

theorem endDeliveryAnswer_keeps (e : DeliveryEntry) (s : State) : KeepsTables s (endDeliveryAnswer e s).state := by
  unfold endDeliveryAnswer
  split
  · exact endDischarge_keeps _ _ (.refl s)
  · exact .refl s
  · exact .refl s

theorem withdrawAnswer_keeps (e : DeliveryEntry) (s : State) : KeepsTables s (withdrawAnswer e s).state := by
  unfold withdrawAnswer
  split
  · exact post_keeps _ (mapDeliveries_keeps _ _ (.refl s))
  · exact .refl s

theorem releaseDeliveryAnswer_keeps (e : DeliveryEntry) (s : State) : KeepsTables s (releaseDeliveryAnswer e s).state := by
  unfold releaseDeliveryAnswer
  split
  · exact .refl s
  · exact deliveries_keeps (List.length_filter_le _ _).trans (.refl s)

theorem readDeliveryAnswer_keeps (n : Nat) (s : State) : KeepsTables s (readDeliveryAnswer n s).state := by
  unfold readDeliveryAnswer
  split
  · exact .refl s
  · exact onDelivery_keeps (fun _ => .refl s)

/-! ## Record, safety and calibration requests (R137 to R140, R148 to R168) -/

theorem setPolicyAnswer_keeps (policy threshold : Nat) (s : State) : KeepsTables s (setPolicyAnswer policy threshold s).state := by
  unfold setPolicyAnswer
  split
  · split
    · exact postIf_keeps _ _ (records_keeps _ (.refl s))
    · exact .refl s
  · exact .refl s

theorem collectAnswer_keeps (n : Nat) (s : State) : KeepsTables s (collectAnswer n s).state := by
  unfold collectAnswer
  split <;> exact .refl s

theorem releaseAnswer_keeps (n : Nat) (s : State) : KeepsTables s (releaseAnswer n s).state := by
  unfold releaseAnswer
  split
  · exact .refl s
  · exact records_keeps _ (.refl s)

theorem recordStatusAnswer_keeps (n : Nat) (s : State) : KeepsTables s (recordStatusAnswer n s).state := by
  unfold recordStatusAnswer
  split
  · exact .refl s
  · dsimp only [Answer.ok]
    split
    · exact records_keeps _ (.refl s)
    · exact .refl s

theorem rearmAnswer_keeps (i : SourceId) (s : State) : KeepsTables s (rearmAnswer i s).state := by
  unfold rearmAnswer
  dsimp only
  split
  · exact .refl s
  · split
    · exact setSource_keeps _ _ (.refl s)
    · exact .refl s

/-- The trips left by a release are no more than were there (R156). -/
theorem tripsAfter_length {n : Nat} {es rest : List TripEntry} (h : tripsAfter n es = some rest) : rest.length ≤ es.length := by
  induction es with
  | nil => cases h
  | cons e es ih =>
    unfold tripsAfter at h
    split at h
    · cases h; exact Nat.le_succ _
    · exact (ih h).trans (Nat.le_succ _)

theorem releaseTripsAnswer_keeps (n : Nat) (s : State) : KeepsTables s (releaseTripsAnswer n s).state := by
  unfold releaseTripsAnswer
  split
  · exact .refl s
  · rename_i h
    exact spill_keeps (tripsAfter_length h).trans (.refl s)

theorem releaseCaptureAnswer_keeps (s : State) : KeepsTables s (releaseCaptureAnswer s).state := by
  unfold releaseCaptureAnswer
  split
  · exact spill_keeps id (.refl s)
  · exact .refl s

theorem readCaptureAnswer_keeps (n : Nat) (s : State) : KeepsTables s (readCaptureAnswer n s).state := by
  unfold readCaptureAnswer
  split <;> exact .refl s

theorem readTripsAnswer_keeps (n : Nat) (s : State) : KeepsTables s (readTripsAnswer n s).state := by
  unfold readTripsAnswer
  split
  · exact .refl s
  · dsimp only [Answer.ok]
    split
    · exact spill_keeps id (.refl s)
    · exact .refl s

theorem setSourceAnswer_keeps (v : SourceSetting) (i : SourceId) (s : State) : KeepsTables s (setSourceAnswer v i s).state := by
  unfold setSourceAnswer
  split
  · dsimp only [Answer.ok]
    unfold changeSource
    dsimp only
    split
    · exact blockAll_keeps _ _ (setSource_keeps _ _ (.refl s))
    · exact setSource_keeps _ _ (.refl s)
  · exact .refl s

theorem setUnitAnswer_keeps (n : Nat) (s : State) : KeepsTables s (setUnitAnswer n s).state := by
  unfold setUnitAnswer
  split
  · exact spill_keeps id (.refl s)
  · exact .refl s

theorem guarded_keeps {busy : Bool} {act : State → State} (h : KeepsTables s (act s)) : KeepsTables s (guarded busy act s).state := by
  unfold guarded
  split
  · exact .refl s
  · split
    · exact .refl s
    · exact post_keeps _ (cal_keeps _ h)

theorem setMeterAnswer_keeps (v : MeterSetting) (l : Lane) (s : State) : KeepsTables s (setMeterAnswer v l s).state := by
  unfold setMeterAnswer
  split
  · exact guarded_keeps (setLane_keeps rfl (.refl s))
  · exact .refl s

theorem setProductAnswer_keeps (alpha : Nat) (k : Tank) (s : State) : KeepsTables s (setProductAnswer alpha k s).state := by
  unfold setProductAnswer
  split
  · exact guarded_keeps (setTank_keeps _ _ (.refl s))
  · exact .refl s

theorem setStrappingAnswer_keeps (points : List (Nat × Nat)) (k : Tank) (s : State) :
    KeepsTables s (setStrappingAnswer points k s).state := by
  unfold setStrappingAnswer
  split
  · exact guarded_keeps (setTank_keeps _ _ (.refl s))
  · exact .refl s

theorem lockAnswer_keeps (code : Nat) (s : State) : KeepsTables s (lockAnswer code s).state := by
  unfold lockAnswer
  split
  · exact post_keeps _ (cal_keeps _ (.refl s))
  · exact .refl s

theorem unlockAnswer_keeps (code : Nat) (s : State) : KeepsTables s (unlockAnswer code s).state := by
  unfold unlockAnswer
  split
  · exact .refl s
  · exact .refl s
  · split
    · exact .refl s
    · split
      · exact post_keeps _ (cal_keeps _ (.refl s))
      · exact cal_keeps _ (.refl s)

/-! ## Every command, and the step -/

theorem execUnknownRequest_keeps (f : Frame) (code : Byte) (payload : List Byte) (s : State) :
    ∃ t, execUnknownRequest f code payload s = .next t ∧ KeepsTables s t := by
  refine ⟨_, rfl, onLine_keeps ?_⟩
  split
  · exact .refl s
  · split
    · exact reply_keeps _ _ _ _ (.refl s)
    · exact overlapAt_keeps _ (.refl s)

/-- Every command keeps the table laws. -/
theorem exec_keeps (c : Instr) (s : State) : ∃ t, exec c s = .next t ∧ KeepsTables s t := by
  cases c with
  | powerOn straps => exact ⟨_, rfl, powerUp_keeps _ (device_keeps _ (.refl s))⟩
  | resetAsserted cause =>
    cases cause with
    | pin => exact ⟨_, rfl, hold_keeps (device_keeps _ (.refl s))⟩
    | lowSupply => exact ⟨_, rfl, hold_keeps (device_keeps _ (.refl s))⟩
  | resetReleased straps => exact ⟨_, rfl, powerUp_keeps _ (device_keeps _ (.refl s))⟩
  | powerLoss => exact ⟨_, rfl, hold_keeps (device_keeps _ (.refl s))⟩
  | restoreComplete a b =>
    refine ⟨_, rfl, ?_⟩
    split
    · exact enterRunning_keeps _ _ (.refl s)
    · exact .refl s
  | quadratureEdge l a b => exact ⟨_, rfl, whenRunning_keeps (decoderSample_keeps l a b s)⟩
  | illegalTransition l => exact ⟨_, rfl, whenRunning_keeps (illegalPair_keeps l _ _ s)⟩
  | meterFault l => exact ⟨_, rfl, whenRunning_keeps (meterFault_keeps l s)⟩
  | indexPulse l => exact ⟨_, rfl, whenRunning_keeps (indexPulse_keeps l s)⟩
  | meterSample l => exact ⟨_, rfl, whenRunning_keeps (meterSample_keeps l s)⟩
  | hookSample l level => exact ⟨_, rfl, whenRunning_keeps (hookSample_keeps l level s)⟩
  | pumpRdySample k level => exact ⟨_, rfl, whenRunning_keeps (pumpRdySample_keeps k level s)⟩
  | pumpTimerExpiry k => exact ⟨_, rfl, whenRunning_keeps (pumpExpiry_keeps k s)⟩
  | authorizationTimerExpiry l => exact ⟨_, rfl, whenRunning_keeps (authorizationExpiry_keeps l s)⟩
  | noFlowTimerExpiry l => exact ⟨_, rfl, whenRunning_keeps (noFlowExpiry_keeps l s)⟩
  | settlePeriodEnd l => exact ⟨_, rfl, whenRunning_keeps (settleEnd_keeps l s)⟩
  | attentionPulseExpiry p => exact ⟨_, rfl, whenRunning_keeps (setPort_keeps (Port.endPulse_keeps _) (.refl s))⟩
  | gaugeSample k reply => exact ⟨_, rfl, whenRunning_keeps (gaugeSample_keeps k _ s)⟩
  | gaugeStale k => exact ⟨_, rfl, whenRunning_keeps (gaugeStale_keeps k s)⟩
  | staleEnd k => exact ⟨_, rfl, whenRunning_keeps (staleEnd_keeps k s)⟩
  | noGaugeTankTimer k => exact ⟨_, rfl, whenRunning_keeps (noGaugeSample_keeps k s)⟩
  | discreteInputSample low c => exact ⟨_, rfl, whenRunning_keeps (discreteSample_keeps low c s)⟩
  | sourceTrip src => exact ⟨_, rfl, whenRunning_keeps (sourceTrip_keeps src s)⟩
  | captureSampleTimerExpiry => exact ⟨_, rfl, whenRunning_keeps (captureSample_keeps s)⟩
  | announcementTimerExpiry n => exact ⟨_, rfl, whenRunning_keeps (announcementExpiry_keeps n s)⟩
  | deliverySettleTimerExpiry n => exact ⟨_, rfl, whenRunning_keeps (mapDeliveries_keeps _ _ (.refl s))⟩
  | orderDeadline n => exact ⟨_, rfl, whenRunning_keeps (orderDeadline_keeps n s)⟩
  | frameRejected p bytes stopLow => exact ⟨_, rfl, onLine_keeps (setPort_keeps (Port.hear_keeps _ _ _) (.refl s))⟩
  | frameGapTimeout p => exact ⟨_, rfl, onLine_keeps (setPort_keeps (Port.gapFrame_keeps _) (.refl s))⟩
  | overlappingFrame p => exact ⟨_, rfl, onLine_keeps (overlapAt_keeps _ (.refl s))⟩
  | shunningIdleEnd p => exact ⟨_, rfl, onLine_keeps (setPort_keeps (Port.endShunning_keeps _) (.refl s))⟩
  | replyComplete p => exact ⟨_, rfl, onLine_keeps (setPort_keeps (Port.endReply_keeps _ _) (.refl s))⟩
  | unknownRequest f code payload => exact execUnknownRequest_keeps f code payload s
  | readEvents f => exact ⟨_, rfl, serve_keeps (setPort_keeps (Port.takeEvents_keeps _) (.refl s))⟩
  | clearEvents f kinds => exact ⟨_, rfl, serve_keeps (clearEventsAnswer_keeps _ _ s)⟩
  | setAttention f mask mode width => exact ⟨_, rfl, serve_keeps (setAttentionAnswer_keeps _ _ _ _ s)⟩
  | readPort f => exact ⟨_, rfl, serve_keeps (setPort_keeps (Port.clearCounters_keeps _) (.refl s))⟩
  | readLane f lane => exact ⟨_, rfl, serve_keeps (onLane_keeps (fun _ => setLane_keeps rfl (.refl s)))⟩
  | readStock f => exact ⟨_, rfl, serve_keeps (.refl s)⟩
  | readTank f tank => exact ⟨_, rfl, serve_keeps (onTank_keeps (fun _ => .refl s))⟩
  | readAccount f tag => exact ⟨_, rfl, serve_keeps (readAccountAnswer_keeps tag s)⟩
  | readAccounts f direction count => exact ⟨_, rfl, serve_keeps (readAccountsAnswer_keeps _ _ _ s)⟩
  | setCursor f slot => exact ⟨_, rfl, serve_keeps (setCursorAnswer_keeps _ _ s)⟩
  | listOrders f => exact ⟨_, rfl, serve_keeps (.refl s)⟩
  | readDelivery f number => exact ⟨_, rfl, serve_keeps (readDeliveryAnswer_keeps _ s)⟩
  | readTrips f clear => exact ⟨_, rfl, serve_keeps (readTripsAnswer_keeps _ s)⟩
  | readTripsSource f index => exact ⟨_, rfl, serve_keeps (onSource_keeps (fun _ => .refl s))⟩
  | readCapture f start => exact ⟨_, rfl, serve_keeps (readCaptureAnswer_keeps _ s)⟩
  | readCal f => exact ⟨_, rfl, serve_keeps (.refl s)⟩
  | readRecordStatus f clear => exact ⟨_, rfl, serve_keeps (recordStatusAnswer_keeps _ s)⟩
  | placeOrder f tag tank volume priority expiry => exact ⟨_, rfl, serve_keeps (placeOrderAnswer_keeps _ _ _ _ _ s)⟩
  | cancelOrder f number => exact ⟨_, rfl, serve_keeps (cancelOrderAnswer_keeps _ s)⟩
  | openLane f lane tag order preset hours override =>
    exact ⟨_, rfl, serve_keeps (openLaneAnswer_keeps _ _ _ _ _ _ _ s)⟩
  | stopLane f lane => exact ⟨_, rfl, serve_keeps (onLane_keeps (fun l => stopAnswer_keeps l s))⟩
  | enableLane f lane => exact ⟨_, rfl, serve_keeps (onLane_keeps (fun _ => setLane_keeps (by simp) (.refl s)))⟩
  | disableLane f lane => exact ⟨_, rfl, serve_keeps (onLane_keeps (fun _ => setLane_keeps (by simp) (.refl s)))⟩
  | setTankReserve f tank reserve => exact ⟨_, rfl, serve_keeps (onTank_keeps (fun k => setReserveAnswer_keeps _ k s))⟩
  | adjustStock f tank book clear => exact ⟨_, rfl, serve_keeps (onTank_keeps (fun k => adjustAnswer_keeps _ _ k s))⟩
  | ackAlarms f tank => exact ⟨_, rfl, serve_keeps (onTank_keeps (fun _ => setTank_keeps _ _ (.refl s)))⟩
  | ackAlarmsAll f => exact ⟨_, rfl, serve_keeps (tanks_keeps _ (.refl s))⟩
  | enrolMachine f tag cls permits capacity items => exact ⟨_, rfl, serve_keeps (enrolAnswer_keeps _ _ _ _ _ s)⟩
  | retireMachine f tag => exact ⟨_, rfl, serve_keeps (retireAnswer_keeps _ s)⟩
  | setMachine f tag cls state permits capacity items => exact ⟨_, rfl, serve_keeps (setMachineAnswer_keeps _ _ _ _ _ _ s)⟩
  | announceDelivery f tank identity docket => exact ⟨_, rfl, serve_keeps (announceAnswer_keeps _ _ _ s)⟩
  | confirmDelivery f number settle fixedTol propTol =>
    exact ⟨_, rfl, serve_keeps (onDelivery_keeps (fun e => confirmAnswer_keeps _ _ _ e s))⟩
  | endDelivery f number => exact ⟨_, rfl, serve_keeps (onDelivery_keeps (fun e => endDeliveryAnswer_keeps e s))⟩
  | withdrawDelivery f number => exact ⟨_, rfl, serve_keeps (onDelivery_keeps (fun e => withdrawAnswer_keeps e s))⟩
  | releaseDelivery f number => exact ⟨_, rfl, serve_keeps (onDelivery_keeps (fun e => releaseDeliveryAnswer_keeps e s))⟩
  | collectRecords f count => exact ⟨_, rfl, serve_keeps (collectAnswer_keeps _ s)⟩
  | releaseRecords f number => exact ⟨_, rfl, serve_keeps (releaseAnswer_keeps _ s)⟩
  | rearm f index => exact ⟨_, rfl, serve_keeps (onSource_keeps (fun i => rearmAnswer_keeps i s))⟩
  | rearmAll f => exact ⟨_, rfl, serve_keeps (spill_keeps id (.refl s))⟩
  | manualTrip f => exact ⟨_, rfl, serve_keeps (riseSource_keeps _ (.refl s))⟩
  | releaseTrips f number => exact ⟨_, rfl, serve_keeps (releaseTripsAnswer_keeps _ s)⟩
  | releaseCapture f => exact ⟨_, rfl, serve_keeps (releaseCaptureAnswer_keeps s)⟩
  | setLane f lane v => exact ⟨_, rfl, serve_keeps (onLane_keeps (fun l => setLaneAnswer_keeps v l s))⟩
  | setTank f tank v => exact ⟨_, rfl, serve_keeps (onTank_keeps (fun k => setTankAnswer_keeps v k s))⟩
  | setSource f index v => exact ⟨_, rfl, serve_keeps (onSource_keeps (fun i => setSourceAnswer_keeps v i s))⟩
  | setSourceUnit f count => exact ⟨_, rfl, serve_keeps (setUnitAnswer_keeps _ s)⟩
  | setClass f cls hours ceiling => exact ⟨_, rfl, serve_keeps (setClassAnswer_keeps _ _ _ s)⟩
  | setRecordPolicy f policy threshold => exact ⟨_, rfl, serve_keeps (setPolicyAnswer_keeps _ _ s)⟩
  | setClock f value => exact ⟨_, rfl, serve_keeps (setClockAnswer_keeps _ s)⟩
  | setAccess f v => exact ⟨_, rfl, serve_keeps (setAccessAnswer_keeps v s)⟩
  | bayRestart f straps => exact ⟨_, rfl, serve_keeps (bayRestartAnswer_keeps _ _ s)⟩
  | setMeter f lane v => exact ⟨_, rfl, serve_keeps (onLane_keeps (fun l => setMeterAnswer_keeps v l s))⟩
  | setProduct f tank alpha => exact ⟨_, rfl, serve_keeps (onTank_keeps (fun k => setProductAnswer_keeps alpha k s))⟩
  | setStrapping f tank points => exact ⟨_, rfl, serve_keeps (onTank_keeps (fun k => setStrappingAnswer_keeps points k s))⟩
  | lockCal f code => exact ⟨_, rfl, serve_keeps (lockAnswer_keeps _ s)⟩
  | unlockCal f code => exact ⟨_, rfl, serve_keeps (unlockAnswer_keeps _ s)⟩
  | wholeSecond => exact ⟨_, rfl, wholeSecond_keeps s⟩

/-- A step keeps the table laws: it idles, or runs the command at the front of the queue, which the laws do not speak of. -/
theorem step_keeps {s t : State} (h : step s = .next t) : KeepsTables s t := by
  unfold step at h
  split at h
  · cases h; exact .refl s
  · rename_i c rest _
    obtain ⟨u, hu, hk⟩ := exec_keeps c { s with pending := rest }
    rw [hu] at h
    cases h
    exact (keepsTables_of_ports (fun _ => .refl _) rfl rfl rfl rfl rfl : KeepsTables s { s with pending := rest }).trans hk

/-- Settles O58: each command extends the relation KeepsTables, which a step therefore meets. -/
theorem everyStepKeepsTableLaws : Obligations.EveryStepKeepsTableLaws := by
  intro s t h
  have hk := step_keeps h
  exact ⟨hk.access, hk.event, hk.totalizer, hk.list, hk.account, hk.receive⟩

end Sys2Proof.Machine
end

section
/-! Start-up without the format marker, and the restore completion (R1, R127, R136, R144, R169 to R174, R183). -/

namespace Sys2Proof.Machine

/-! ## The start-up of a device with nothing to file or to abandon -/

/-- With no context open there is nothing to file (R172, step 2). -/
theorem fileContexts_of_no_context {s : State} (h : ∀ l, (s.lane l).ctx = none) : fileContexts s = s := by
  have h1 : ∀ l, fileContext l s = s := fun l => by simp [fileContext, h l]
  simp [fileContexts, allEight, h1]

/-- With no delivery listed there is none to abandon (R172, step 3). -/
theorem abandonDeliveries_of_none {s : State} (h : s.deliveries.entries = []) : abandonDeliveries s = s := by
  obtain ⟨_, _, _, _, _, _, ⟨es, _⟩, _, _, _, _, _, _⟩ := s
  cases h
  rfl

theorem writeFactory_lane (s : State) (l : Lane) : (writeFactory s).lane l = factoryLaneUnit l := by
  simp [State.lane, writeFactory]

theorem writeFactory_tank (s : State) (k : Tank) : (writeFactory s).tank k = factoryTankUnit k := by
  simp [State.tank, writeFactory]

theorem resetVolatile_tank (c : StartCause) (straps : BitVec 2) (s : State) (k : Tank) :
    (resetVolatile c straps s).tank k = (s.tank k).atStartUp := by
  simp [State.tank, resetVolatile]

theorem resetVolatile_source (c : StartCause) (straps : BitVec 2) (s : State) (i : SourceId) :
    (resetVolatile c straps s).source i = (s.source i).atStartUp := by
  simp [State.source, resetVolatile]

/-- A start-up that finds no marker starts from the factory store, which holds no context and no delivery (R170, R172). -/
theorem startUp_of_no_marker {s : State} (c : StartCause) (straps : BitVec 2) (h : s.device.formatMarker = false) :
    startUp c straps s = resetVolatile c straps (writeFactory s) := by
  have hm : checkMarker s = writeFactory s := by simp [checkMarker, h]
  have hf : fileContexts (resetVolatile c straps (writeFactory s)) = resetVolatile c straps (writeFactory s) :=
    fileContexts_of_no_context (fun l => by rw [resetVolatile_lane, writeFactory_lane]; rfl)
  rw [startUp, hm, hf]
  exact abandonDeliveries_of_none rfl

/-- A command that starts the device up begins the start-up of power-on, on a state that differs in its device alone. -/
theorem startsUp_exec {s : State} {straps : BitVec 2} {cmd : Instr} (h : s.startsUp straps cmd) :
    ∃ d : Device, d.formatMarker = s.device.formatMarker ∧
      exec cmd s = .next (startUp .powerOrPin straps { s with device := d }) := by
  rcases h with ⟨rfl, hr⟩ | ⟨rfl, hp⟩
  · refine ⟨{ s.device with powered := true }, rfl, ?_⟩
    show Host.Outcome.next (powerUp straps _) = _
    simp [powerUp, hr]
  · refine ⟨{ s.device with resetHeld := false }, rfl, ?_⟩
    show Host.Outcome.next (powerUp straps _) = _
    simp [powerUp, hp]

/-! ## What the start-up values are -/

theorem LaneUnit.atStartUp_fresh {u : LaneUnit} (h : u.ctx = none) : u.atStartUp.fresh := by
  simp [LaneUnit.fresh, LaneUnit.atStartUp, h, Meter.fresh, Meter.atStartUp, HeldCauses.empty, Debounced.fresh, MeterFlags.clear]

theorem TankUnit.atStartUp_fresh (k : TankUnit) : k.atStartUp.fresh := by
  simp [TankUnit.fresh, TankUnit.atStartUp, tankAtStartUp, Debounced.fresh]

theorem Port.atStartUp_fresh (rate : BitVec 2) (p : Port) : (p.atStartUp .powerOrPin rate).fresh rate := by
  simp [Port.fresh, Port.atStartUp, portAtStartUp, allKinds]

/-- R172, step 1: every volatile item at its start-up value, where no context is open and no delivery is active. -/
theorem resetVolatile_started (c : StartCause) (straps : BitVec 2) {s : State} (hc : ∀ l, (s.lane l).ctx = none)
    (hd : ∀ e ∈ s.deliveries.entries, e.state.active = false) : (resetVolatile c straps s).started straps := by
  refine ⟨rfl, rfl, by cases c <;> rfl, rfl, fun l => ?_, fun k => ?_, fun i => ?_, rfl, rfl, rfl, rfl, rfl, rfl, fun e he => ?_⟩
  · rw [resetVolatile_lane]; exact LaneUnit.atStartUp_fresh (hc l)
  · rw [resetVolatile_tank]; exact TankUnit.atStartUp_fresh _
  · rw [resetVolatile_source]; exact ⟨rfl, rfl, rfl, rfl⟩
  · obtain ⟨d, hm, rfl⟩ := List.mem_map.1 he
    exact ⟨hd d hm, rfl, rfl⟩

/-! ## The factory store (R23, R25, R31, R55, R61, R100, R142, R143, R150, R163, R183) -/

theorem factoryLaneUnit_values (l : Lane) :
    (factoryLaneUnit l).meter.totalizer = 0 ∧ (factoryLaneUnit l).meter.params = ⟨100000, 100, 400, 800, 0, 0, 0, 0, 0⟩ ∧
      (factoryLaneUnit l).cfg.tank.val = [0, 0, 1, 1, 2, 3, 4, 5].getD l.val 0 ∧
      (factoryLaneUnit l).cfg = ⟨(factoryLaneUnit l).cfg.tank, 500, 3000, 120, 4, 3, 1000, 3, 200, 200⟩ :=
  ⟨rfl, rfl, by revert l; decide, rfl⟩

theorem factoryTankUnit_values (k : Tank) :
    (factoryTankUnit k).book = 0 ∧ (factoryTankUnit k).reserve = 0 ∧ (factoryTankUnit k).shortage = 0 ∧
      (factoryTankUnit k).cfg =
        { cls := if k.val ≤ 1 then .fuel else if k.val = 5 then .coolant else .lube,
          capacity := if k.val ≤ 1 then 20000000 else 3000000, gaugeFitted := decide (k.val ≤ 5), lowLow := 5000,
          low := 15000, high := 170000, highHigh := 185000, zoneDebounce := 3, minFill := 5000, lossLimit := 20000,
          lossWindow := 600 } ∧
      (factoryTankUnit k).points = [(0, 0), (200000, if k.val ≤ 1 then 20000000 else 3000000)] ∧
      (factoryTankUnit k).alpha = (if k.val ≤ 1 then 830 else if k.val ≤ 4 then 700 else if k.val = 5 then 500 else 0) :=
  ⟨rfl, rfl, rfl, by revert k; decide, rfl, rfl⟩

theorem factorySources_clear (i : SourceId) :
    (factorySources.get i).isTripped = false ∧ (factorySources.get i).enabled = true ∧ (factorySources.get i).tripCount = 0 := by
  cases i with
  | sump n => revert n; decide
  | hose l => revert l; decide
  | overfill k => revert k; decide
  | loss k => revert k; decide
  | _ => exact ⟨rfl, rfl, rfl⟩

theorem factorySources_sump (n : Fin 4) : factorySources.get (.sump n) = factorySource 5 0xFF#8 0xFF#8 := by revert n; decide

theorem factorySources_hose (l : Lane) : factorySources.get (.hose l) = factorySource 3 (bit8 l) 0#8 := by
  simp [factorySources, Sources.get]

theorem factorySources_overfill (k : Tank) : factorySources.get (.overfill k) = factorySource 1 0#8 (bit8 k) := by
  simp [factorySources, Sources.get]

theorem factorySources_loss (k : Tank) : factorySources.get (.loss k) = factorySource 1 (factoryLossLanes k) (bit8 k) := by
  simp [factorySources, Sources.get]

/-- A start-up keeps the factory values that have just been written. -/
theorem resetVolatile_factoryStore (straps : BitVec 2) (s : State) :
    (resetVolatile .powerOrPin straps (writeFactory s)).factoryStore := by
  have hl : ∀ l, (resetVolatile .powerOrPin straps (writeFactory s)).lane l = factoryLaneUnit l := fun l => by
    rw [resetVolatile_lane, writeFactory_lane]; rfl
  have hk : ∀ k, (resetVolatile .powerOrPin straps (writeFactory s)).tank k = factoryTankUnit k := fun k => by
    rw [resetVolatile_tank, writeFactory_tank]; rfl
  have hi : ∀ i, (resetVolatile .powerOrPin straps (writeFactory s)).source i = (factorySources.get i).atStartUp := fun i => by
    rw [resetVolatile_source]; rfl
  refine ⟨rfl, rfl, rfl, rfl, rfl, rfl, rfl, rfl, rfl, fun k => ?_, fun l => ?_, fun i => ?_, fun n => ?_, ?_, ?_, ?_, ?_, ?_,
    fun l => ?_, fun k => ?_, rfl, rfl, rfl, rfl, rfl, rfl, rfl, ?_, ?_, ?_⟩
  · rw [hk]; exact factoryTankUnit_values k
  · rw [hl]; exact factoryLaneUnit_values l
  · rw [hi]; exact factorySources_clear i
  · rw [hi, factorySources_sump]; exact ⟨rfl, rfl, rfl⟩
  iterate 5 rfl
  · rw [hi, factorySources_hose]; exact ⟨rfl, rfl, rfl, rfl⟩
  · rw [hi, hi, factorySources_overfill, factorySources_loss]
    refine ⟨rfl, rfl, rfl, rfl, fun l => ?_, rfl⟩
    rw [hl]
    exact inSet_setOf _ l
  iterate 3 rfl

/-- Settles O8: the start-up is that of the factory store, with no context to file and no delivery to abandon. -/
theorem missingMarkerWritesFactoryValues : Obligations.MissingMarkerWritesFactoryValues := by
  intro s straps cmd hs hm
  obtain ⟨d, hd, he⟩ := startsUp_exec hs
  rw [startUp_of_no_marker _ _ (hd.trans hm)] at he
  refine ⟨_, he, resetVolatile_started _ _ (fun l => ?_) (fun e h => by cases h), resetVolatile_factoryStore _ _, fun i => ?_, rfl⟩
  · rw [writeFactory_lane]; rfl
  · rw [resetVolatile_port]; exact Port.atStartUp_fresh _ _

/-! ## The entry to RUNNING (R1, R136, R144, R172, R185) -/

theorem postIf_pendingSet (b : Bool) (k : EventKind) (s : State) (i : PortId) :
    ((postIf b k s).port i).pendingSet = if b then (s.port i).pendingSet ||| k.bit else (s.port i).pendingSet := by
  cases b <;> simp [postIf]

theorem enterRunning_lane (a b : LaneSet) (s : State) (l : Lane) :
    (enterRunning a b s).lane l = (s.lane l).enterRunning (inSet a l) (inSet b l) := by
  simp [enterRunning, State.lane]

theorem enterRunning_tank (a b : LaneSet) (s : State) (k : Tank) : (enterRunning a b s).tank k = (s.tank k).enterRunning := by
  simp [enterRunning, State.tank]

/-- STARTED is posted to every port, and RECORDS where the completed count is at or above the threshold. -/
theorem enterRunning_pendingSet (a b : LaneSet) (s : State) (i : PortId) :
    ((enterRunning a b s).port i).pendingSet =
      if s.records.threshold ≤ s.records.completed.length then
        (s.port i).pendingSet ||| EventKind.started.bit ||| EventKind.records.bit
      else (s.port i).pendingSet ||| EventKind.started.bit := by
  unfold enterRunning
  dsimp only
  rw [postIf_pendingSet, post_port, Port.post_pendingSet]
  simp only [decide_eq_true_eq]
  rfl

/-- Settles O10: the effect of enterRunning on each unit. -/
theorem restoreCompleteEntersRunning : Obligations.RestoreCompleteEntersRunning := by
  intro s a b
  constructor
  · intro hp
    have he : exec (.restoreComplete a b) s = .next (enterRunning a b s) := by
      show Host.Outcome.next _ = _
      rw [hp]
    refine ⟨_, he, by simp [enterRunning], by simp [enterRunning], fun l => ?_, fun k => ?_, fun i => ?_, fun i hc => ?_,
      fun i hc => ?_, ?_⟩
    · rw [enterRunning_lane]; exact ⟨rfl, rfl, rfl⟩
    · rw [enterRunning_tank]; rfl
    · rw [enterRunning_pendingSet]
      split
      · exact holdsKind_or (holdsKind_or_bit _ _)
      · exact holdsKind_or_bit _ _
    · rw [enterRunning_pendingSet, if_pos hc]; exact holdsKind_or_bit _ _
    · rw [enterRunning_pendingSet, if_neg (by omega)]
    · unfold enterRunning postIf
      split <;> rfl
  · intro hp
    show Host.Outcome.next _ = _
    split
    · rename_i h; exact absurd h hp
    · rfl

end Sys2Proof.Machine
end

section
/-! Requests that their owning block takes, and the guarded requests and LOCK_CAL (R23 to R25, R61, R164, R166, R167, R176 to R182). -/

namespace Sys2Proof.Machine

/-! ## A request taken and answered (R176 to R182) -/

/-- The conditions under which a block takes a request (R171, R175 to R177). -/
theorem takes_iff (s : State) (f : Frame) (c : Instr) :
    s.takes f c = true ↔ s.device.phase = .running ∧ (s.port f.port).ready = true ∧ s.permits f.port c = true := by
  simp [State.takes, and_assoc]

/-- A request taken is answered by its block, whose access check is the one that the tables of R180 to R182 give. -/
theorem serve_of_takes {s : State} {f : Frame} {c : Instr} (h : s.takes f c = true) {code : Byte} {a : Access}
    {act : State → Answer} (ha : accessPasses s f.port a = s.permits f.port c) :
    serve f code a act s = (act s).state.reply f code (act s).status (act s).payload := by
  obtain ⟨hp, hr, hc⟩ := (takes_iff s f c).1 h
  exact serve_taken hp hr (ha.trans hc)

theorem reply_answers (s : State) (f : Frame) (code : Byte) (st : Status) (p : Payload) :
    (s.reply f code st p).answers f code st p := by
  unfold State.answers
  rw [State.reply_port_same]
  exact ⟨rfl, rfl, rfl⟩

/-- A reply changes no pending set. -/
theorem reply_pendingSet (s : State) (f : Frame) (code : Byte) (st : Status) (p : Payload) (i : PortId) :
    ((s.reply f code st p).port i).pendingSet = (s.port i).pendingSet := by
  by_cases h : i = f.port
  · subst h; rw [State.reply_port_same]; rfl
  · rw [State.reply_port_ne _ _ _ _ _ _ h]

theorem reply_lane (s : State) (f : Frame) (code : Byte) (st : Status) (p : Payload) (l : Lane) :
    (s.reply f code st p).lane l = s.lane l := rfl

/-- A request refused changes nothing but the reply of its port (R177, R178). -/
theorem reply_onlyAnswers (s : State) (f : Frame) (code : Byte) (st : Status) (p : Payload) :
    s.onlyAnswers (s.reply f code st p) f code st p := by
  refine ⟨reply_answers s f code st p, rfl, ⟨fun j hj => State.reply_port_ne _ _ _ _ _ _ hj, State.reply_openLevel _ _ _ _ _⟩, ?_⟩
  rw [State.reply_port_same]
  rfl

@[simp] theorem onLane_val (l : Lane) (act : Lane → State → Answer) (s : State) : onLane l.val act s = act l s := by
  simp [onLane]

@[simp] theorem onTank_val (k : Tank) (act : Tank → State → Answer) (s : State) : onTank k.val act s = act k s := by
  simp [onTank]

/-! ## The guarded requests (R166, R167) -/

theorem shut_iff (x : LockState) : x.shut = true ↔ x ≠ .unlocked := by cases x <;> simp [LockState.shut]

theorem guarded_locked {s : State} (h : s.cal.lock ≠ .unlocked) (busy : Bool) (act : State → State) :
    guarded busy act s = .refuse s .locked := by
  simp [guarded, (shut_iff _).2 h]

theorem guarded_busy {s : State} (h : s.cal.lock = .unlocked) (act : State → State) :
    guarded true act s = .refuse s .wrongState := by
  simp [guarded, h, LockState.shut]

theorem guarded_accepted {s : State} (h : s.cal.lock = .unlocked) (act : State → State) :
    guarded false act s =
      .ok (post .cal { act s with cal := { s.cal with changes := min 65535 (s.cal.changes + 1) } })
        (.calChanges (min 65535 (s.cal.changes + 1))) := by
  simp [guarded, h, LockState.shut, satAdd]

section Guarded

variable {s : State} {f : Frame} {l : Lane} {k : Tank} {v : MeterSetting} {alpha : Nat} {points : List (Nat × Nat)}

/-- What a SET_METER in range that is taken leads to. -/
theorem setMeter_exec (hv : meterInRange v = true) (h : s.takes f (.setMeter f l.val v) = true) :
    ∃ x : Answer, exec (.setMeter f l.val v) s = .next (x.state.reply f 0x68#8 x.status x.payload) ∧
      x = guarded (s.lane l).state.isOpen (fun s => s.setLane l { s.lane l with meter := (s.lane l).meter.recalibrate v }) s := by
  refine ⟨_, congrArg Host.Outcome.next (serve_of_takes h rfl), ?_⟩
  rw [onLane_val, setMeterAnswer, if_pos hv]

theorem setProduct_exec (ha : alpha ≤ 2000) (h : s.takes f (.setProduct f k.val alpha) = true) :
    ∃ x : Answer, exec (.setProduct f k.val alpha) s = .next (x.state.reply f 0x69#8 x.status x.payload) ∧
      x = guarded (s.discharging k) (fun s => s.setTank k { (s.tank k).discardWindow with alpha := alpha }) s := by
  refine ⟨_, congrArg Host.Outcome.next (serve_of_takes h rfl), ?_⟩
  rw [onTank_val, setProductAnswer, if_pos ha]

theorem setStrapping_exec (hp : pointsInRange points = true) (h : s.takes f (.setStrapping f k.val points) = true) :
    ∃ x : Answer, exec (.setStrapping f k.val points) s = .next (x.state.reply f 0x6A#8 x.status x.payload) ∧
      x = guarded (s.discharging k) (fun s => s.setTank k { (s.tank k).discardWindow with points := points }) s := by
  refine ⟨_, congrArg Host.Outcome.next (serve_of_takes h rfl), ?_⟩
  rw [onTank_val, setStrappingAnswer, if_pos hp]

/-- CAL is posted to every port, and the reply takes it from none. -/
theorem reply_post_cal (s : State) (f : Frame) (code : Byte) (st : Status) (p : Payload) (i : PortId) :
    holdsKind (((post .cal s).reply f code st p).port i).pendingSet .cal = true := by
  rw [reply_pendingSet, holdsKind_post]
  simp

/-- R166: under a shut lock a guarded request with values in range is refused with LOCKED. -/
theorem guardedRequest_locked (hv : meterInRange v = true) (ha : alpha ≤ 2000) (hp : pointsInRange points = true) {cmd : Instr}
    {code : Byte}
    (hc : (cmd = .setMeter f l.val v ∧ code = 0x68#8) ∨ (cmd = .setProduct f k.val alpha ∧ code = 0x69#8) ∨
      (cmd = .setStrapping f k.val points ∧ code = 0x6A#8))
    (h : s.takes f cmd = true) (hl : s.cal.lock ≠ .unlocked) :
    ∃ t, exec cmd s = .next t ∧ s.onlyAnswers t f code .locked .nothing := by
  have key : ∀ {x : Answer}, x = .refuse s .locked → s.onlyAnswers (x.state.reply f code x.status x.payload) f code .locked .nothing :=
    fun e => e ▸ reply_onlyAnswers s f code .locked .nothing
  rcases hc with ⟨rfl, rfl⟩ | ⟨rfl, rfl⟩ | ⟨rfl, rfl⟩
  · obtain ⟨x, he, hx⟩ := setMeter_exec hv h
    exact ⟨_, he, key (hx.trans (guarded_locked hl _ _))⟩
  · obtain ⟨x, he, hx⟩ := setProduct_exec ha h
    exact ⟨_, he, key (hx.trans (guarded_locked hl _ _))⟩
  · obtain ⟨x, he, hx⟩ := setStrapping_exec hp h
    exact ⟨_, he, key (hx.trans (guarded_locked hl _ _))⟩

/-- R166: under an open lock a guarded request of an open lane, or of a tank that takes a discharge, is refused with WRONG_STATE. -/
theorem guardedRequest_busy (hv : meterInRange v = true) (ha : alpha ≤ 2000) (hp : pointsInRange points = true) {cmd : Instr}
    {code : Byte}
    (hc : (cmd = .setMeter f l.val v ∧ code = 0x68#8 ∧ (s.lane l).state.isOpen = true) ∨
      (cmd = .setProduct f k.val alpha ∧ code = 0x69#8 ∧ s.discharging k = true) ∨
      (cmd = .setStrapping f k.val points ∧ code = 0x6A#8 ∧ s.discharging k = true))
    (h : s.takes f cmd = true) (hl : s.cal.lock = .unlocked) :
    ∃ t, exec cmd s = .next t ∧ s.onlyAnswers t f code .wrongState .nothing := by
  have key : ∀ {x : Answer}, x = .refuse s .wrongState →
      s.onlyAnswers (x.state.reply f code x.status x.payload) f code .wrongState .nothing :=
    fun e => e ▸ reply_onlyAnswers s f code .wrongState .nothing
  rcases hc with ⟨rfl, rfl, hb⟩ | ⟨rfl, rfl, hb⟩ | ⟨rfl, rfl, hb⟩
  · obtain ⟨x, he, hx⟩ := setMeter_exec hv h
    exact ⟨_, he, key (by rw [hx, hb, guarded_busy hl])⟩
  · obtain ⟨x, he, hx⟩ := setProduct_exec ha h
    exact ⟨_, he, key (by rw [hx, hb, guarded_busy hl])⟩
  · obtain ⟨x, he, hx⟩ := setStrapping_exec hp h
    exact ⟨_, he, key (by rw [hx, hb, guarded_busy hl])⟩

/-- LOCK_CAL as the lock answers it. -/
theorem lockCal_exec {code : Nat} (h : s.takes f (.lockCal f code) = true) :
    exec (.lockCal f code) s =
      .next ((lockAnswer code s).state.reply f 0x6B#8 (lockAnswer code s).status (lockAnswer code s).payload) :=
  congrArg Host.Outcome.next (serve_of_takes h rfl)

theorem lockAnswer_shut {code : Nat} (h : s.cal.lock ≠ .unlocked) : lockAnswer code s = .refuse s .wrongState := by
  unfold lockAnswer
  split
  · rename_i e; exact absurd e h
  · rfl

end Guarded

/-- Settles O53: the guard refuses or accepts, and an accepted request replaces its own parameters. -/
theorem guardedRequestsChangeCalibration : Obligations.GuardedRequestsChangeCalibration := by
  intro s f l k v alpha points hv ha hp
  refine ⟨fun cmd code hc h hl => guardedRequest_locked hv ha hp hc h hl, fun hl => ⟨fun cmd code hc h =>
    guardedRequest_busy hv ha hp hc h hl, fun h ho => ?_, fun h hd => ?_, fun h hd => ?_⟩, fun code h => ⟨fun hl => ?_, fun hl => ?_⟩⟩
  · obtain ⟨x, he, hx⟩ := setMeter_exec hv h
    rw [ho, guarded_accepted hl] at hx
    subst hx
    refine ⟨_, he, reply_answers _ _ _ _ _, rfl, fun j hj => State.lane_setLane_ne _ _ _ _ hj, ?_⟩
    have hm := State.lane_setLane_same s l { s.lane l with meter := (s.lane l).meter.recalibrate v }
    simp only [Answer.ok, reply_lane, post_lane, State.lane_with_cal, hm]
    exact ⟨trivial, rfl, rfl, rfl, rfl, rfl, rfl, rfl, rfl, fun i => reply_post_cal _ _ _ _ _ i⟩
  · obtain ⟨x, he, hx⟩ := setProduct_exec ha h
    rw [hd, guarded_accepted hl] at hx
    subst hx
    exact ⟨_, he, reply_answers _ _ _ _ _, rfl, fun j hj => State.tank_setTank_ne _ _ _ _ hj, State.tank_setTank_same _ _ _,
      fun i => reply_post_cal _ _ _ _ _ i⟩
  · obtain ⟨x, he, hx⟩ := setStrapping_exec hp h
    rw [hd, guarded_accepted hl] at hx
    subst hx
    exact ⟨_, he, reply_answers _ _ _ _ _, rfl, fun j hj => State.tank_setTank_ne _ _ _ _ hj, State.tank_setTank_same _ _ _,
      fun i => reply_post_cal _ _ _ _ _ i⟩
  · have hx : lockAnswer code s = .ok (post .cal { s with cal := { s.cal with lock := lockUnder code } }) .nothing := by
      simp [lockAnswer, hl]
    refine ⟨_, lockCal_exec h, ?_⟩
    rw [hx]
    exact ⟨reply_answers _ _ _ _ _, rfl, fun hc => if_neg hc, fun hc => if_pos hc, fun i => reply_post_cal _ _ _ _ _ i⟩
  · refine ⟨_, lockCal_exec h, ?_⟩
    rw [lockAnswer_shut hl]
    exact reply_onlyAnswers _ _ _ _ _

end Sys2Proof.Machine
end

section
/-! What the ends, faults, trims and trips of an event leave alone: every meter and configuration, every tank but for its draw list,
its pump and its inlet, the held causes, and the kinds already posted (R38 to R51, R66, R68, R147, R151). -/

namespace Sys2Proof.Machine

/-! ## The relation -/

/-- The parts of a lane that the end of a transaction does not reach. -/
def LaneUnit.still (u : LaneUnit) : Meter × LaneConfig × Debounced := (u.meter, u.cfg, u.hook)

/-- A tank but for its draw list, its pump and its inlet. -/
def TankUnit.still (k : TankUnit) : TankUnit :=
  { k with draws := [], pump := .stopped, pumpRun := false, pumpTimer := none, inlet := false }

/-- Whether a cause is held (R49). -/
def HeldCauses.has (h : HeldCauses) : LaneFault → Bool
  | .reverse => h.reverse
  | .meter => h.meter
  | .overrun => h.overrun

theorem HeldCauses.has_add (h : HeldCauses) (f g : LaneFault) : (h.add f).has g = (h.has g || decide (f = g)) := by
  cases f <;> cases g <;> simp [HeldCauses.add, HeldCauses.has]

/-- t has the meters, the configurations and the still parts of the tanks of s, and every held cause and posted kind of s. -/
structure KeepsFigures (s t : State) : Prop where
  lane : ∀ j, (t.lane j).still = (s.lane j).still
  tank : ∀ k, (t.tank k).still = (s.tank k).still
  held : ∀ j f, (s.lane j).held.has f = true → (t.lane j).held.has f = true
  kinds : ∀ i k, holdsKind (s.port i).pendingSet k = true → holdsKind (t.port i).pendingSet k = true

theorem KeepsFigures.refl (s : State) : KeepsFigures s s := ⟨fun _ => rfl, fun _ => rfl, fun _ _ => id, fun _ _ => id⟩

theorem KeepsFigures.trans {s t u : State} (h : KeepsFigures s t) (g : KeepsFigures t u) : KeepsFigures s u :=
  ⟨fun j => (g.lane j).trans (h.lane j), fun k => (g.tank k).trans (h.tank k), fun j f => g.held j f ∘ h.held j f,
    fun i k => g.kinds i k ∘ h.kinds i k⟩

section

variable {s t : State}

theorem KeepsFigures.meter (h : KeepsFigures s t) (j : Lane) : (t.lane j).meter = (s.lane j).meter :=
  congrArg (fun x : Meter × LaneConfig × Debounced => x.1) (h.lane j)

theorem KeepsFigures.cfg (h : KeepsFigures s t) (j : Lane) : (t.lane j).cfg = (s.lane j).cfg :=
  congrArg (fun x : Meter × LaneConfig × Debounced => x.2.1) (h.lane j)

theorem KeepsFigures.book (h : KeepsFigures s t) (k : Tank) : (t.tank k).book = (s.tank k).book :=
  (congrArg TankUnit.book (h.tank k) :)

theorem KeepsFigures.shortage (h : KeepsFigures s t) (k : Tank) : (t.tank k).shortage = (s.tank k).shortage :=
  (congrArg TankUnit.shortage (h.tank k) :)

theorem KeepsFigures.drawnSince (h : KeepsFigures s t) (k : Tank) : (t.tank k).drawnSince = (s.tank k).drawnSince :=
  (congrArg TankUnit.drawnSince (h.tank k) :)

/-! ## The units of the state -/

theorem setLane_figures {l : Lane} {u : LaneUnit} (hu : u.still = (t.lane l).still)
    (hh : ∀ f, (t.lane l).held.has f = true → u.held.has f = true) (h : KeepsFigures s t) : KeepsFigures s (t.setLane l u) := by
  refine h.trans ⟨fun j => ?_, fun _ => rfl, fun j => ?_, fun _ _ => id⟩
  · by_cases hj : j = l
    · subst hj; rw [State.lane_setLane_same]; exact hu
    · rw [State.lane_setLane_ne _ _ _ _ hj]
  · by_cases hj : j = l
    · subst hj; rw [State.lane_setLane_same]; exact hh
    · rw [State.lane_setLane_ne _ _ _ _ hj]; exact fun _ => id

theorem setTank_figures {k : Tank} {u : TankUnit} (hu : u.still = (t.tank k).still) (h : KeepsFigures s t) :
    KeepsFigures s (t.setTank k u) := by
  refine h.trans ⟨fun _ => rfl, fun j => ?_, fun _ _ => id, fun _ _ => id⟩
  by_cases hj : j = k
  · subst hj; rw [State.tank_setTank_same]; exact hu
  · rw [State.tank_setTank_ne _ _ _ _ hj]

/-- An update of a block with no lane, tank or port. -/
theorem block_figures {u : State} (h : KeepsFigures s t) (hl : u.lanes = t.lanes) (hk : u.tanks = t.tanks)
    (hp : u.ports = t.ports) : KeepsFigures s u :=
  h.trans ⟨fun j => by simp only [State.lane, hl], fun k => by simp only [State.tank, hk],
    fun j f hf => by simpa only [State.lane, hl] using hf, fun i k hk' => by simpa only [State.port, hp] using hk'⟩

theorem setSource_figures (i : SourceId) (x : Source) (h : KeepsFigures s t) : KeepsFigures s (t.setSource i x) :=
  block_figures h rfl rfl rfl

theorem post_figures (k : EventKind) (h : KeepsFigures s t) : KeepsFigures s (post k t) :=
  h.trans ⟨fun _ => rfl, fun _ => rfl, fun _ _ => id, fun i j hj => by rw [holdsKind_post, hj, Bool.true_or]⟩

theorem postIf_figures (c : Bool) (k : EventKind) (h : KeepsFigures s t) : KeepsFigures s (postIf c k t) := by
  cases c
  · exact h
  · exact post_figures k h

/-! ## The close and the ends (R38, R43, R46, R68) -/

theorem dropDemand_figures (k : Tank) (h : KeepsFigures s t) : KeepsFigures s (dropDemand k t) := by
  rcases dropDemand_cases k t with ⟨_, e⟩ | ⟨_, e⟩ <;> rw [e]
  · exact h
  · exact setTank_figures rfl h

theorem closeBooking_figures (c : Context) (k : Tank) (net : Int) (h : KeepsFigures s t) :
    KeepsFigures s (closeBooking c k net t).1 := by
  unfold closeBooking
  split
  · exact h
  · exact postIf_figures _ _ (block_figures h rfl rfl rfl)

theorem closeOrder_figures (n : Nat) (net : Int) (h : KeepsFigures s t) : KeepsFigures s (closeOrder n net t) := by
  unfold closeOrder
  split
  · exact h
  · exact post_figures _ (block_figures h rfl rfl rfl)

theorem fileRecord_figures (r : Record) (h : KeepsFigures s t) : KeepsFigures s (fileRecord r t) :=
  postIf_figures _ _ (block_figures h rfl rfl rfl)

theorem closeLane_figures (l : Lane) (h : KeepsFigures s t) : KeepsFigures s (closeLane l t) := by
  unfold closeLane
  dsimp only
  split
  · exact h
  · rename_i c hc
    refine dropDemand_figures _ (post_figures _ (setLane_figures ?_ ?_ (postIf_figures _ _ (fileRecord_figures _ (setTank_figures rfl
      (closeOrder_figures _ _ (closeBooking_figures c _ _ h)))))))
    · simp [State.lane, LaneUnit.afterClose, LaneUnit.shut, LaneUnit.still]
    · simp [State.lane, LaneUnit.afterClose, LaneUnit.shut]

theorem endLane_figures (l : Lane) (r : EndReason) (h : KeepsFigures s t) : KeepsFigures s (endLane l r t) := by
  rcases endLane_cases l r t with ⟨_, e⟩ | ⟨_, e⟩ | ⟨_, e⟩ <;> rw [e]
  · exact closeLane_figures _ (setLane_figures rfl (fun _ => id) h)
  · exact dropDemand_figures _ (setLane_figures rfl (fun _ => id) h)
  · exact h

theorem endLanes_figures (ls : LaneSet) (r : EndReason) (h : KeepsFigures s t) : KeepsFigures s (endLanes ls r t) :=
  foldl_keeps_prop (KeepsFigures s) _ (fun u l hu => by split <;> [exact endLane_figures l r hu; exact hu]) _ t h

/-! ## Faults, stages and the trim (R40, R41, R44, R45, R48, R66) -/

theorem takeFault_figures (l : Lane) (f : LaneFault) (h : KeepsFigures s t) : KeepsFigures s (takeFault l f t) := by
  have h1 : KeepsFigures s (post .laneFault (t.setLane l
      { t.lane l with held := (t.lane l).held.add f, ctx := (t.lane l).ctx.map (Context.markFault f) })) :=
    post_figures _ (setLane_figures rfl (fun g hg => by rw [HeldCauses.has_add, hg, Bool.true_or]) h)
  unfold takeFault
  dsimp only
  split
  · split
    · refine setLane_figures ?_ ?_ h1
      · simp [LaneUnit.setReason, LaneUnit.still]
      · simp [LaneUnit.setReason]
    · exact endLane_figures _ _ h1
  · exact h

theorem faultIf_figures (c : Bool) (l : Lane) (f : LaneFault) (h : KeepsFigures s t) : KeepsFigures s (faultIf c l f t) := by
  cases c
  · exact h
  · exact takeFault_figures l f h

theorem evaluateStage_figures (l : Lane) (h : KeepsFigures s t) : KeepsFigures s (evaluateStage l t) := by
  unfold evaluateStage
  dsimp only
  split
  · exact setLane_figures rfl (fun _ => id) h
  · exact h

theorem testPreset_figures (l : Lane) (h : KeepsFigures s t) : KeepsFigures s (testPreset l t) := by
  unfold testPreset
  dsimp only
  split
  · split
    · exact endLane_figures _ _ h
    · exact evaluateStage_figures _ h
  · exact h

theorem allocationCut_figures (l : Lane) (a : Int) (h : KeepsFigures s t) : KeepsFigures s (allocationCut l a t) := by
  unfold allocationCut
  dsimp only
  split
  · exact h
  · split
    · exact endLane_figures _ _ (setLane_figures rfl (fun _ => id) h)
    · exact evaluateStage_figures _ (setLane_figures rfl (fun _ => id) h)

theorem trimTank_figures (k : Tank) (h : KeepsFigures s t) : KeepsFigures s (trimTank k t) :=
  foldl_keeps_prop (KeepsFigures s) _ (fun _ c hu => allocationCut_figures c.1 c.2 hu) _ _ (setTank_figures rfl h)

theorem testOverrun_figures (l : Lane) (h : KeepsFigures s t) : KeepsFigures s (testOverrun l t) := by
  unfold testOverrun
  dsimp only
  split
  · exact h
  · exact faultIf_figures _ _ _ h

theorem sampleFaults_figures (l : Lane) (m : Meter) (h : KeepsFigures s t) : KeepsFigures s (sampleFaults l m t) :=
  faultIf_figures _ _ _ (faultIf_figures _ _ _ h)

/-! ## Trips and samples of sources (R144 to R151) -/

theorem endDischarge_figures (k : Tank) (b : Bool) (h : KeepsFigures s t) : KeepsFigures s (endDischarge k b t) := by
  unfold endDischarge State.setInlet
  exact setTank_figures rfl (block_figures h rfl rfl rfl)

theorem blockAll_figures (ls : LaneSet) (ts : TankSet) (h : KeepsFigures s t) : KeepsFigures s (blockAll ls ts t) :=
  foldl_keeps_prop (KeepsFigures s) _ (fun u k hu => by split <;> [exact endDischarge_figures k true hu; exact hu]) _ _
    (endLanes_figures ls .spill h)

theorem tripSource_figures (i : SourceId) (h : KeepsFigures s t) : KeepsFigures s (tripSource i t) :=
  post_figures _ (blockAll_figures _ _ (block_figures h rfl rfl rfl))

theorem riseSource_figures (i : SourceId) (h : KeepsFigures s t) : KeepsFigures s (riseSource i t) := by
  unfold riseSource
  dsimp only
  split
  · exact setSource_figures _ _ h
  · exact tripSource_figures i h

theorem sampleSource_figures (i : SourceId) (c : Bool) (h : KeepsFigures s t) : KeepsFigures s (sampleSource i c t) := by
  unfold sampleSource
  dsimp only
  split
  · exact riseSource_figures i (setSource_figures _ _ h)
  · exact setSource_figures _ _ h

theorem creepTrigger_figures (l : Lane) (c : Bool) (h : KeepsFigures s t) : KeepsFigures s (creepTrigger l c t) := by
  unfold creepTrigger
  dsimp only
  split
  · exact riseSource_figures _ (setSource_figures _ _ h)
  · exact setSource_figures _ _ h

theorem sampleHose_figures (l : Lane) (h : KeepsFigures s t) : KeepsFigures s (sampleHose l t) := by
  unfold sampleHose
  dsimp only
  split
  · exact creepTrigger_figures _ _ (sampleSource_figures _ _ h)
  · exact sampleSource_figures _ _ h

end

/-! ## The lanes that an event does not name -/

theorem takeFault_lane_ne (l j : Lane) (f : LaneFault) (s : State) (h : j ≠ l) : (takeFault l f s).lane j = s.lane j := by
  unfold takeFault
  dsimp only
  split
  · split
    · rw [State.lane_setLane_ne _ _ _ _ h, post_lane, State.lane_setLane_ne _ _ _ _ h]
    · rw [endLane_lane_ne _ _ _ _ h, post_lane, State.lane_setLane_ne _ _ _ _ h]
  · rfl

theorem faultIf_lane_ne (c : Bool) (l j : Lane) (f : LaneFault) (s : State) (h : j ≠ l) : (faultIf c l f s).lane j = s.lane j := by
  cases c
  · rfl
  · exact takeFault_lane_ne l j f s h

theorem miscountEvent_lane_ne (l j : Lane) (s : State) (h : j ≠ l) : (miscountEvent l s).lane j = s.lane j := by
  unfold miscountEvent
  rw [faultIf_lane_ne _ _ _ _ _ h, State.lane_setLane_ne _ _ _ _ h]

/-- Whatever fault it brings, a miscount event leaves its lane the meter unit after the miscount (R8). -/
theorem miscountEvent_meter (l : Lane) (s : State) :
    ((miscountEvent l s).lane l).meter = (s.lane l).meter.miscount (s.lane l).state.metered := by
  unfold miscountEvent
  rw [(faultIf_figures _ l .meter (.refl _)).meter l, State.lane_setLane_same]

/-- Outside the metered phase a miscount event changes the meter unit alone (R8, R9). -/
theorem miscountEvent_unmetered {l : Lane} {s : State} (h : (s.lane l).state.metered = false) :
    miscountEvent l s = s.setLane l { s.lane l with meter := (s.lane l).meter.miscount false } := by
  simp [miscountEvent, h, faultIf]

/-- The lanes that a set names are ended, and no other lane is reached. -/
theorem endLanes_lane (ls : LaneSet) (r : EndReason) (s : State) (l : Lane) :
    (endLanes ls r s).lane l = if inSet ls l then (endLane l r s).lane l else s.lane l := by
  split
  · rename_i hin
    obtain ⟨_, _, _, _, _, h5⟩ := endFold ls r allEight s allEight_nodup
    exact h5 l (mem_allEight l) hin
  · rename_i hin
    refine foldl_keeps (fun s => s.lane l) _ (fun s j => ?_) _ s
    split
    · rename_i hj
      exact endLane_lane_ne j l r s (fun e => hin (e ▸ hj))
    · rfl

end Sys2Proof.Machine
end

section
/-! The decoder, the index check, miscounts and the METER fault (R2 to R9, R42, R45, R47, R48). -/

namespace Sys2Proof.Machine

/-! ## The meter unit (R2, R5, R7, R8) -/

theorem Meter.countEdge_unchecked {m : Meter} (h : m.params.epr = 0) (a b : Bool) (z : Int) :
    m.countEdge a b z = { m with refA := a, refB := b, sampleAcc := m.sampleAcc + z, edgeSeen := true } := by
  simp [Meter.countEdge, h]

theorem Meter.countEdge_checked {m : Meter} (h : m.params.epr ≠ 0) (a b : Bool) (z : Int) :
    m.countEdge a b z =
      { m with
        refA := a, refB := b, sampleAcc := m.sampleAcc + z, edgeSeen := true, ivCount := m.ivCount + z
        ivFwd := m.ivFwd || decide (0 < z), ivRev := m.ivRev || decide (z < 0) } := by
  simp [Meter.countEdge, h]

/-- An edge moves the reference pair and the sample accumulator, and of the rest at most the index interval. -/
theorem Meter.countEdge_eq (m : Meter) (a b : Bool) (z : Int) :
    m.countEdge a b z =
      { m with
        refA := a, refB := b, sampleAcc := m.sampleAcc + z, edgeSeen := true, ivCount := (m.countEdge a b z).ivCount
        ivFwd := (m.countEdge a b z).ivFwd, ivRev := (m.countEdge a b z).ivRev } := by
  by_cases h : m.params.epr = 0
  · rw [Meter.countEdge_unchecked h]
  · rw [Meter.countEdge_checked h]

/-- With the index check off no index is missing (R5, R7). -/
theorem Meter.indexMissing_unchecked {m : Meter} (h : m.params.epr = 0) : m.indexMissing = false := by simp [Meter.indexMissing, h]

theorem Meter.indexMissing_checked {m : Meter} (h : m.params.epr ≠ 0) :
    m.indexMissing = decide (2 * m.params.epr + 2 < m.ivCount.natAbs) := by simp [Meter.indexMissing, h]

/-- A miscount raises the consecutive count, and in the metered phase the transaction's (R8). -/
theorem Meter.miscount_eq (m : Meter) (b : Bool) :
    m.miscount b =
      { m with
        consec := min 15 (m.consec + 1), missSeen := true
        txnMiscounts := if b then min 15 (m.txnMiscounts + 1) else m.txnMiscounts
        flags := if b then { m.flags with miscountSeen := true } else m.flags } := by
  cases b <;> rfl

/-! ## An edge at its lane (R42, R45) -/

theorem LaneUnit.hearEdge_eq (u : LaneUnit) :
    u.hearEdge =
      { u with
        noFlowTimer := if u.state = .delivering then some u.cfg.noFlowTime else u.noFlowTimer
        settleTimer := if u.state = .settling then some u.cfg.settleTime else u.settleTimer } := by
  unfold LaneUnit.hearEdge
  split <;> simp_all

/-- A counted edge that leaves no index missing reaches its lane alone. -/
theorem countedEdge_found {l : Lane} {a b : Bool} {z : Int} {s : State}
    (h : ((s.lane l).meter.countEdge a b z).indexMissing = false) :
    countedEdge l a b z s = s.setLane l { s.lane l with meter := (s.lane l).meter.countEdge a b z }.hearEdge := by
  simp [countedEdge, h]

/-- A counted edge that passes the missing-index figure restarts the interval and is a miscount (R7). -/
theorem countedEdge_missing {l : Lane} {a b : Bool} {z : Int} {s : State}
    (h : ((s.lane l).meter.countEdge a b z).indexMissing = true) :
    (∀ j, j ≠ l → (countedEdge l a b z s).lane j = s.lane j) ∧
      ((countedEdge l a b z s).lane l).meter =
        (((s.lane l).meter.countEdge a b z).restartInterval true).miscount (s.lane l).state.metered := by
  have e : countedEdge l a b z s =
      missingIndex l (s.setLane l { s.lane l with meter := (s.lane l).meter.countEdge a b z }.hearEdge) := by
    simp [countedEdge, h]
  rw [e, missingIndex]
  refine ⟨fun j hj => ?_, ?_⟩
  · rw [miscountEvent_lane_ne _ _ _ hj, State.lane_setLane_ne _ _ _ _ hj, State.lane_setLane_ne _ _ _ _ hj]
  · simp [miscountEvent_meter, LaneUnit.hearEdge_eq]

/-- A miscount between samples at a lane whose meter unit has first been changed (R3, R6, R9). -/
theorem miscountEvent_setMeter (l : Lane) (m : Meter) (s : State) :
    (∀ j, j ≠ l → (miscountEvent l (s.setLane l { s.lane l with meter := m })).lane j = s.lane j) ∧
      ((miscountEvent l (s.setLane l { s.lane l with meter := m })).lane l).meter = m.miscount (s.lane l).state.metered := by
  refine ⟨fun j hj => ?_, ?_⟩
  · rw [miscountEvent_lane_ne _ _ _ hj, State.lane_setLane_ne _ _ _ _ hj]
  · simp [miscountEvent_meter]

/-! ## The decoder samples (R2, R3, R5, R7, R8) -/

/-- Settles O12: an edge that finds its index reaches one lane; a missing index and an illegal transition are miscounts. -/
theorem decoderCountsEdgesAndMiscounts : Obligations.DecoderCountsEdgesAndMiscounts := by
  intro s l a b hp
  refine ⟨fun z hz => ?_, fun hu => ?_, ?_⟩
  · have he : exec (.quadratureEdge l a b) s = .next (countedEdge l a b z s) := by
      show Host.Outcome.next (s.whenRunning (decoderSample l a b)) = _
      rw [State.whenRunning_running _ hp, decoderSample, hz]
    have hc := Meter.countEdge_eq (s.lane l).meter a b z
    cases hm : ((s.lane l).meter.countEdge a b z).indexMissing with
    | false =>
      have ht := countedEdge_found hm
      have hl := congrArg (fun t : State => t.lane l) ht
      simp only [State.lane_setLane_same, LaneUnit.hearEdge_eq] at hl
      refine ⟨_, he, fun j hj => ?_, ?_⟩
      · rw [ht, State.lane_setLane_ne _ _ _ _ hj]
      · have hs : countedEdge l a b z s = s.setLane l ((countedEdge l a b z s).lane l) := by
          rw [ht, State.lane_setLane_same]
        rw [hl]
        refine ⟨?_, ?_, ?_, ?_, ?_, ?_, fun h0 => ⟨by rw [← hl]; exact hs, rfl, ?_, rfl, fun h => if_pos h, fun h => if_pos h⟩,
          fun h1 => ⟨fun _ => ?_, fun hf => ?_⟩⟩
        iterate 6 (rw [hc])
        · rw [Meter.countEdge_unchecked h0]
        · refine ⟨by rw [← hl]; exact hs, rfl, ?_⟩
          simp [Meter.countEdge_checked h1]
        · rw [Meter.indexMissing_checked (by rw [hc]; exact h1)] at hm
          simp only [Meter.countEdge_checked h1, decide_eq_false_iff_not] at hm
          exact absurd hf hm
    | true =>
      obtain ⟨hj, hl⟩ := countedEdge_missing hm
      have h1 : (s.lane l).meter.params.epr ≠ 0 := by
        intro h0
        rw [Meter.indexMissing_unchecked (by rw [hc]; exact h0)] at hm
        cases hm
      rw [Meter.miscount_eq, Meter.countEdge_checked h1] at hl
      refine ⟨_, he, hj, ?_⟩
      rw [hl]
      refine ⟨rfl, rfl, rfl, rfl, rfl, rfl, fun h0 => absurd h0 h1, fun _ => ⟨fun hf => ?_, fun _ =>
        ⟨rfl, rfl, rfl, rfl, rfl, fun hb => by simp [hb, Meter.restartInterval]⟩⟩⟩
      rw [Meter.indexMissing_checked (by rw [hc]; exact h1)] at hm
      simp only [Meter.countEdge_checked h1, decide_eq_true_eq] at hm
      omega
  · show Host.Outcome.next (s.whenRunning (decoderSample l a b)) = _
    rw [State.whenRunning_running _ hp, decoderSample, hu]
  · have he : exec (.illegalTransition l) s =
        .next (illegalPair l (!(s.lane l).meter.refA) (!(s.lane l).meter.refB) s) := by
      show Host.Outcome.next (s.whenRunning _) = _
      rw [State.whenRunning_running _ hp]
    obtain ⟨hj, hl⟩ := miscountEvent_setMeter l
      { (s.lane l).meter with refA := !(s.lane l).meter.refA, refB := !(s.lane l).meter.refB } s
    rw [Meter.miscount_eq] at hl
    refine ⟨_, he, hj, ?_⟩
    unfold illegalPair
    dsimp only
    rw [hl]
    refine ⟨rfl, rfl, rfl, rfl, rfl, fun hb => by simp [hb], fun hb => ⟨?_, by simp [hb]⟩⟩
    rw [miscountEvent_unmetered (by simpa using hb)]
    simp

end Sys2Proof.Machine
end

section
/-! Faults taken, and an index pulse judged (R6, R9, R47, R48, R51). -/

namespace Sys2Proof.Machine

/-! ## A fault by the state of its lane (R48) -/

/-- A lane that has taken a fault: its cause held, its context marked (R47, R48, R51). -/
def LaneUnit.faulted (u : LaneUnit) (f : LaneFault) : LaneUnit :=
  { u with held := u.held.add f, ctx := u.ctx.map (Context.markFault f) }

/-- In SETTLING the fault replaces the reason. -/
theorem takeFault_settling {l : Lane} {s : State} (f : LaneFault) (h : (s.lane l).state = .settling) :
    takeFault l f s = post .laneFault (s.setLane l (((s.lane l).faulted f).setReason f.reason)) := by
  have e : takeFault l f s =
      (post .laneFault (s.setLane l ((s.lane l).faulted f))).setLane l (((s.lane l).faulted f).setReason f.reason) := by
    simp [takeFault, h, LaneState.metered, LaneUnit.faulted]
  rw [e]
  simp [post, State.setLane]

/-- In STARTING and DELIVERING the fault ends the lane. -/
theorem takeFault_ends {l : Lane} {s : State} (f : LaneFault) (h : (s.lane l).state = .starting ∨ (s.lane l).state = .delivering) :
    takeFault l f s = endLane l f.reason (post .laneFault (s.setLane l ((s.lane l).faulted f))) := by
  rcases h with h | h <;> simp [takeFault, h, LaneState.metered, LaneUnit.faulted]

theorem metered_iff (x : LaneState) : x.metered = true ↔ x = .settling ∨ x = .starting ∨ x = .delivering := by
  cases x <;> simp [LaneState.metered]

/-- A fault taken is held, and LANE_FAULT is posted to every port. -/
theorem takeFault_takes {l : Lane} {s : State} (f : LaneFault) (h : (s.lane l).state.metered = true) :
    ((takeFault l f s).lane l).held.has f = true ∧ ∀ i, holdsKind ((takeFault l f s).port i).pendingSet .laneFault = true := by
  have hp : ∀ u i, holdsKind ((post .laneFault (s.setLane l u)).port i).pendingSet .laneFault = true := fun u i => by
    rw [holdsKind_post]; simp
  have hh : ((s.lane l).held.add f).has f = true := by rw [HeldCauses.has_add]; simp
  rcases (metered_iff _).1 h with h | h
  · rw [takeFault_settling f h]
    exact ⟨by simpa [LaneUnit.setReason, LaneUnit.faulted] using hh, hp _⟩
  · rw [takeFault_ends f h]
    have hk := endLane_figures l f.reason (.refl (post .laneFault (s.setLane l ((s.lane l).faulted f))))
    exact ⟨hk.held l f (by simpa [LaneUnit.faulted] using hh), fun i => hk.kinds i _ (hp _ i)⟩

theorem endLane_delivering {l : Lane} {s : State} (r : EndReason) (h : (s.lane l).state = .delivering) :
    (endLane l r s).lane l = (s.lane l).settle r := by
  simp [endLane, h]

/-- The end of a STARTING lane is its close with the reason (R38). -/
theorem endLane_starting {l : Lane} {s : State} (r : EndReason) (h : (s.lane l).state = .starting) :
    endLane l r s = closeLane l (s.setLane l { (s.lane l).setReason r with state := .settling }) := by
  simp [endLane, h]

/-! ## METER (R9, R47, R48, R51, R132, R136) -/

/-- The meter unit that reaches its miscount limit (R8, R9). -/
def LaneUnit.atMiscountLimit (u : LaneUnit) : LaneUnit :=
  { u with meter := Meter.miscount { u.meter with consec := u.cfg.miscountLimit - 1 } true }

section MeterFault

variable {s : State} {l : Lane} {c : Context}

/-- The METER fault is taken by the lane at its miscount limit (log 4). -/
theorem meterFault_eq (hm : (s.lane l).state.metered = true) (hc : (s.lane l).meter.consec < (s.lane l).cfg.miscountLimit)
    (hl : (s.lane l).cfg.miscountLimit ≤ 15) :
    meterFault l s = takeFault l .meter (s.setLane l (s.lane l).atMiscountLimit) := by
  have hr : Meter.reachesLimit { (s.lane l).meter with consec := (s.lane l).cfg.miscountLimit - 1 } (s.lane l).cfg.miscountLimit
      = true := by
    have h1 : (s.lane l).cfg.miscountLimit - 1 < (s.lane l).cfg.miscountLimit := by omega
    have h2 : (s.lane l).cfg.miscountLimit ≤ min 15 ((s.lane l).cfg.miscountLimit - 1 + 1) := by omega
    exact Bool.and_eq_true_iff.2 ⟨decide_eq_true h1, decide_eq_true h2⟩
  simp [meterFault, hm, hc, miscountEvent, hr, faultIf, LaneUnit.atMiscountLimit]

theorem atMiscountLimit_consec {u : LaneUnit} (hc : u.meter.consec < u.cfg.miscountLimit) (hl : u.cfg.miscountLimit ≤ 15) :
    u.atMiscountLimit.meter.consec = u.cfg.miscountLimit := by
  show min 15 (u.cfg.miscountLimit - 1 + 1) = u.cfg.miscountLimit
  omega

/-- A fault of a STARTING lane closes its transaction: the lane is DISABLED and its record and counters tell the fault. -/
theorem takeFault_starting (f : LaneFault) (hs : (s.lane l).state = .starting) (hc : (s.lane l).ctx = some c) :
    ∃ d : State, takeFault l f s = closeLane l d ∧
      d.lane l = { ((s.lane l).faulted f).setReason f.reason with state := .settling } ∧
      (d.lane l).ctx = some { c.markFault f with endReason := some f.reason } ∧ d.records = s.records := by
  rw [takeFault_ends f (Or.inl hs), endLane_starting _ (by simpa [LaneUnit.faulted] using hs)]
  exact ⟨_, rfl, by simp, by simp [LaneUnit.faulted, LaneUnit.setReason, hc], rfl⟩

theorem meterFault_starting (hs : (s.lane l).state = .starting) (hc : (s.lane l).ctx = some c)
    (hmc : (s.lane l).meter.consec < (s.lane l).cfg.miscountLimit) (hl : (s.lane l).cfg.miscountLimit ≤ 15) :
    ((meterFault l s).lane l).state = .disabled ∧ ((meterFault l s).lane l).ctx = none ∧
      ((meterFault l s).lane l).vlo = false ∧ ((meterFault l s).lane l).vhi = false ∧
      (∃ x, (meterFault l s).records.completed = s.records.completed ++ [x] ∧ x.endReason = .faultMeter ∧ x.tag = c.tag ∧
        x.flags.miscountSeen = true ∧ x.miscounts = min 15 ((s.lane l).meter.txnMiscounts + 1)) ∧
      ((meterFault l s).lane l).counters.miscount = min 15 ((s.lane l).counters.miscount + 1) ∧
      ((s.lane l).counters.miscount = 14 → ∀ i, holdsKind ((meterFault l s).port i).pendingSet .counter = true) ∧
      (s.records.completed.length + 1 = s.records.threshold →
        ∀ i, holdsKind ((meterFault l s).port i).pendingSet .records = true) := by
  rw [meterFault_eq (by simp [hs, LaneState.metered]) hmc hl]
  have hu : (s.setLane l (s.lane l).atMiscountLimit).lane l = (s.lane l).atMiscountLimit := State.lane_setLane_same _ _ _
  have hs' : ((s.setLane l (s.lane l).atMiscountLimit).lane l).state = .starting := by rw [hu]; exact hs
  have hc' : ((s.setLane l (s.lane l).atMiscountLimit).lane l).ctx = some c := by rw [hu]; exact hc
  obtain ⟨d, hd, hdl, hdc, hdr⟩ := takeFault_starting .meter hs' hc'
  have hm : (d.lane l).meter = (s.lane l).atMiscountLimit.meter := by rw [hdl]; simp [LaneUnit.faulted, LaneUnit.setReason]
  have hk : (d.lane l).counters = (s.lane l).counters := by
    rw [hdl]; simp [LaneUnit.faulted, LaneUnit.setReason, LaneUnit.atMiscountLimit]
  obtain ⟨x, ⟨hq, _, hn, hcs, hks⟩, ht⟩ := closeLane_filesRecord hdc rfl
  rw [hd]
  rw [hk, hm] at hcs
  simp only [hk, hm, hdr] at hks
  have hlane := closeLane_lane_same hdc
  refine ⟨by rw [hlane]; simp [LaneUnit.afterClose, Context.markFault], hn, by rw [hlane]; rfl, by rw [hlane]; rfl,
    ⟨x, by rw [hq, hdr]; rfl, ?_⟩, by rw [hcs]; rfl, fun h14 i => ?_, fun hth i => ?_⟩
  · rw [ht, hm]
    exact ⟨rfl, rfl, rfl, rfl⟩
  · rw [(hks i).2.1, h14]
    simp [LaneUnit.atMiscountLimit, Meter.miscount_eq]
  · rw [(hks i).2.2]
    simp [hth]

end MeterFault

/-! ## The index pulse (R5, R6) -/

theorem Meter.judge_nothing {m : Meter} (h : m.ivExists = false ∨ (m.ivFwd = true ∧ m.ivRev = true)) : m.judge = .nothing := by
  rcases h with h | ⟨h1, h2⟩
  · simp [Meter.judge, h]
  · simp [Meter.judge, h1, h2]

theorem Meter.judge_interval {m : Meter} (h : m.ivExists = true) (hb : (m.ivFwd && m.ivRev) = false) :
    m.judge = if m.params.epr - 2 ≤ m.ivCount.natAbs ∧ m.ivCount.natAbs ≤ m.params.epr + 2 then .good else .bad := by
  simp only [Meter.judge, h, hb, Bool.not_true, Bool.false_eq_true, if_false, within_iff]

/-- An index pulse by the judgement of its interval, which restarts (R6). -/
theorem indexPulse_lanes {l : Lane} {s : State} (h : (s.lane l).meter.params.epr ≠ 0) :
    (∀ j, j ≠ l → (indexPulse l s).lane j = s.lane j) ∧
      ((indexPulse l s).lane l).meter =
        match (s.lane l).meter.judge with
        | .nothing => (s.lane l).meter.restartInterval true
        | .good => { (s.lane l).meter.restartInterval true with consec := 0 }
        | .bad => ((s.lane l).meter.restartInterval true).miscount (s.lane l).state.metered := by
  unfold indexPulse
  simp only [h, if_false]
  cases (s.lane l).meter.judge with
  | nothing => exact ⟨fun j hj => State.lane_setLane_ne _ _ _ _ hj, by simp⟩
  | good => exact ⟨fun j hj => State.lane_setLane_ne _ _ _ _ hj, by simp⟩
  | bad => exact miscountEvent_setMeter l _ s

/-- Settles O13: the METER fault by the state of its lane, and an index pulse by the judgement of its interval. -/
theorem meterFaultAndIndexJudgement : Obligations.MeterFaultAndIndexJudgement := by
  intro s l c hp
  refine ⟨fun hc hm hmc hl => ?_, fun h0 => ?_, fun h1 => ?_⟩
  · have he : exec (.meterFault l) s = .next (meterFault l s) := by
      show Host.Outcome.next (s.whenRunning (meterFault l)) = _
      rw [State.whenRunning_running _ hp]
    have ht := meterFault_eq hm hmc hl
    have hu : ((s.setLane l (s.lane l).atMiscountLimit).lane l) = (s.lane l).atMiscountLimit := State.lane_setLane_same _ _ _
    have hm' : ((s.setLane l (s.lane l).atMiscountLimit).lane l).state.metered = true := by rw [hu]; exact hm
    obtain ⟨hheld, hkind⟩ := takeFault_takes .meter hm'
    have hmeter := (takeFault_figures l .meter (.refl (s.setLane l (s.lane l).atMiscountLimit))).meter l
    rw [hu] at hmeter
    rw [← ht] at hheld hkind hmeter
    refine ⟨_, he, fun j hj => ?_, hheld, ?_, hkind, fun hns => ?_, fun hns => ?_, fun hs => ?_, fun hs => ?_⟩
    · rw [ht, takeFault_lane_ne _ _ _ _ hj, State.lane_setLane_ne _ _ _ _ hj]
    · rw [hmeter, atMiscountLimit_consec hmc hl]
    · rw [ht]
      rcases (metered_iff _).1 hm with h | h | h
      · rw [takeFault_settling .meter (by rw [hu]; exact h)]
        simp [LaneUnit.setReason, LaneUnit.faulted, LaneUnit.atMiscountLimit, h, hc, LaneFault.reason]
      · exact absurd h hns
      · rw [takeFault_ends .meter (Or.inr (by rw [hu]; exact h)),
          endLane_delivering _ (by simpa [LaneUnit.faulted, LaneUnit.atMiscountLimit] using h)]
        simp [LaneUnit.settle, LaneUnit.shut, LaneUnit.setReason, LaneUnit.faulted, LaneUnit.atMiscountLimit, hc, LaneFault.reason]
    · rcases (metered_iff _).1 hm with h | h | h
      · exact absurd h hns
      · obtain ⟨_, _, hv, hw, _⟩ := meterFault_starting h hc hmc hl
        exact ⟨hv, hw⟩
      · rw [ht, takeFault_ends .meter (Or.inr (by rw [hu]; exact h)),
          endLane_delivering _ (by simpa [LaneUnit.faulted, LaneUnit.atMiscountLimit] using h)]
        exact ⟨rfl, rfl⟩
    · rw [ht, takeFault_settling .meter (by rw [hu]; exact hs)]
      simp [LaneUnit.setReason, LaneUnit.faulted, LaneUnit.atMiscountLimit]
    · obtain ⟨hst, hn, _, _, hx, hcs, hk, hr⟩ := meterFault_starting hs hc hmc hl
      exact ⟨hst, hn, hx, hcs, hk, hr⟩
  · show Host.Outcome.next (s.whenRunning (indexPulse l)) = _
    rw [State.whenRunning_running _ hp]
    simp [indexPulse, h0]
  · have he : exec (.indexPulse l) s = .next (indexPulse l s) := by
      show Host.Outcome.next (s.whenRunning (indexPulse l)) = _
      rw [State.whenRunning_running _ hp]
    obtain ⟨hj, hl⟩ := indexPulse_lanes h1
    refine ⟨_, he, hj, ?_⟩
    rw [hl]
    refine ⟨?_, ?_, ?_, ?_, fun hn => ?_, fun hx hb => ?_⟩
    iterate 4 (split <;> [rfl; rfl; (rw [Meter.miscount_eq]; rfl)])
    · rw [Meter.judge_nothing hn]; rfl
    · rw [Meter.judge_interval hx hb]
      split
      · rfl
      · rw [Meter.miscount_eq]; rfl

end Sys2Proof.Machine
end

section
/-! What a source is after a rise and after a sample, and what a sample that trips nothing leaves alone (R144 to R151). -/

namespace Sys2Proof.Machine

/-! ## A source replaced twice -/

@[simp] theorem Sources.set_set (q : Sources) (i : SourceId) (x y : Source) : (q.set i x).set i y = q.set i y := by
  cases i with
  | sump n => fin_cases n <;> rfl
  | estop => rfl
  | hose l => simp [Sources.set]
  | overfill k => simp [Sources.set]
  | loss k => simp [Sources.set]
  | manual => rfl

@[simp] theorem State.setSource_setSource (s : State) (i : SourceId) (x y : Source) :
    (s.setSource i x).setSource i y = s.setSource i y := by
  simp [State.setSource]

/-- A source of the state whose sources are those of another with one replaced. -/
theorem source_of_sources {s t : State} {i : SourceId} {x : Source} (h : t.spill.sources = s.spill.sources.set i x) (j : SourceId) :
    t.source j = if j = i then x else s.source j := by
  have e : t.source j = (s.setSource i x).source j := by simp only [State.source, State.setSource, h]
  rw [e]
  split
  · next hj => rw [hj, State.source_setSource_same]
  · next hj => rw [State.source_setSource_ne _ _ _ _ hj]

/-! ## The source after its event -/

/-- A source after a sample, its rise taken (R144, R145, R147). -/
def Source.sampled (x : Source) (cond : Bool) : Source := if x.rises cond then (x.sample cond).trip else x.sample cond

/-- A HOSE source after a creep trigger, its rise taken (R146). -/
def Source.creepSampled (x : Source) (creep : Bool) : Source :=
  if creep && !x.creepTaken then { x with creepTaken := creep }.trip else { x with creepTaken := creep }

/-- A HOSE source after a sample with a rate and a creep condition (R144, R146). -/
def Source.hoseSampled (x : Source) (rate : Nat) (creep : Bool) : Source :=
  if x.evaluates then (x.sampled (decide (x.hoseLimit < rate))).creepSampled creep else x.sampled (decide (x.hoseLimit < rate))

section

variable (i : SourceId) (cond creep : Bool) (l : Lane) (s : State)

/-- A rise leaves its source TRIPPED with a higher count, CLEAR or TRIPPED before, and no other source (R147). -/
theorem riseSource_sources : (riseSource i s).spill.sources = s.spill.sources.set i (s.source i).trip := by
  unfold riseSource
  dsimp only
  split
  · next ht => simp [State.setSource, Source.trip, ht]
  · rw [tripSource_spill]

theorem sampleSource_sources : (sampleSource i cond s).spill.sources = s.spill.sources.set i ((s.source i).sampled cond) := by
  unfold sampleSource Source.sampled
  dsimp only
  split
  · rw [riseSource_sources, State.source_setSource_same]
    simp [State.setSource]
  · rfl

theorem creepTrigger_sources :
    (creepTrigger l creep s).spill.sources = s.spill.sources.set (.hose l) ((s.source (.hose l)).creepSampled creep) := by
  unfold creepTrigger Source.creepSampled
  dsimp only
  split
  · rw [riseSource_sources, State.source_setSource_same]
    simp [State.setSource]
  · rfl

theorem sampleHose_sources :
    (sampleHose l s).spill.sources =
      s.spill.sources.set (.hose l) ((s.source (.hose l)).hoseSampled (s.lane l).meter.rate (s.lane l).meter.creepCond) := by
  unfold sampleHose Source.hoseSampled
  dsimp only
  split
  · rw [creepTrigger_sources, source_of_sources (sampleSource_sources _ _ s), sampleSource_sources]
    simp
  · rw [sampleSource_sources]

end

/-! ## The fields of a sampled source -/

section

variable (x : Source) (cond creep : Bool)

/-- A sample makes the debounced condition rise where it is evaluated and carries the run to the debounce count (R145). -/
theorem Source.rises_iff :
    x.rises cond = true ↔
      x.evaluates = true ∧ cond = true ∧ x.run < x.debounce ∧ x.debounce ≤ min 255 (x.run + 1) := by
  cases he : x.evaluates with
  | false => simp [Source.rises, he]
  | true =>
    cases cond with
    | true => simp [Source.rises, Source.sample, he, satAdd]
    | false =>
      simp [Source.rises, Source.sample, he]
      omega

theorem Source.sampled_evaluated {x : Source} (h : x.evaluates = true) :
    x.sampled cond =
      { x with
        lastCond := cond, run := if cond then min 255 (x.run + 1) else 0
        isTripped := x.isTripped || x.rises cond, tripCount := (x.sampled cond).tripCount } := by
  unfold Source.sampled
  split
  · next hr => simp [Source.sample, Source.trip, h, hr, satAdd]
  · next hr => simp [Source.sample, h, hr, satAdd]

theorem Source.sampled_unevaluated {x : Source} (h : x.evaluates = false) :
    x.sampled cond = { x with lastCond := cond, run := 0, blanking := x.blanking - 1 } := by
  simp [Source.sampled, Source.rises, Source.sample, h]

theorem Source.creepSampled_eq :
    x.creepSampled creep =
      { x with
        creepTaken := creep, isTripped := x.isTripped || (creep && !x.creepTaken)
        tripCount := (x.creepSampled creep).tripCount } := by
  unfold Source.creepSampled
  split
  · next h => simp [Source.trip, h]
  · next h => simp [h]

/-- Whatever a sample brings, the lanes and inlets of its source stay as set. -/
theorem Source.sampled_lanes : (x.sampled cond).lanes = x.lanes := by
  cases h : x.evaluates with
  | true => rw [Source.sampled_evaluated cond h]
  | false => rw [Source.sampled_unevaluated cond h]

end

/-! ## A sample that trips nothing -/

section

variable {i : SourceId} {cond creep : Bool} {l : Lane} {s : State}

/-- A rise of a TRIPPED source changes it alone (R147). -/
theorem riseSource_tripped (h : (s.source i).isTripped = true) : riseSource i s = s.setSource i (s.source i).trip := by
  simp [riseSource, Source.trip, h]

theorem sampleSource_alone (h : (s.source i).rises cond = true → (s.source i).isTripped = true) :
    sampleSource i cond s = s.setSource i ((s.source i).sampled cond) := by
  unfold sampleSource Source.sampled
  dsimp only
  split
  · next hr =>
    have ht : ((s.setSource i ((s.source i).sample cond)).source i).isTripped = true := by
      rw [State.source_setSource_same]
      unfold Source.sample
      split <;> exact h hr
    rw [riseSource_tripped ht]
    simp
  · rfl

theorem creepTrigger_alone (h : (creep && !(s.source (.hose l)).creepTaken) = true → (s.source (.hose l)).isTripped = true) :
    creepTrigger l creep s = s.setSource (.hose l) ((s.source (.hose l)).creepSampled creep) := by
  unfold creepTrigger Source.creepSampled
  dsimp only
  split
  · next hr =>
    rw [riseSource_tripped (by rw [State.source_setSource_same]; exact h hr)]
    simp
  · rfl

/-- A HOSE source that is CLEAR or TRIPPED as before its sample is all that the sample has changed (R144, R146). -/
theorem sampleHose_alone (h : ((sampleHose l s).source (.hose l)).isTripped = (s.source (.hose l)).isTripped) :
    sampleHose l s =
      s.setSource (.hose l) ((s.source (.hose l)).hoseSampled (s.lane l).meter.rate (s.lane l).meter.creepCond) := by
  rw [source_of_sources (sampleHose_sources l s), if_pos rfl] at h
  unfold Source.hoseSampled at h ⊢
  unfold sampleHose
  cases he : (s.source (.hose l)).evaluates with
  | true =>
    simp only [he, if_true] at h ⊢
    rw [Source.creepSampled_eq, Source.sampled_evaluated _ he] at h
    have hs : (s.source (.hose l)).rises (decide ((s.source (.hose l)).hoseLimit < (s.lane l).meter.rate)) = true →
        (s.source (.hose l)).isTripped = true := fun hr => by simpa [hr] using h
    rw [sampleSource_alone hs, creepTrigger_alone]
    · simp
    · rw [State.source_setSource_same, Source.sampled_evaluated _ he]
      intro hc
      simp only at h hc
      rw [hc] at h
      cases hx : (s.source (.hose l)).isTripped <;> simp_all
  | false =>
    simp only [he, Bool.false_eq_true, if_false]
    exact sampleSource_alone (fun hr => absurd (((s.source (.hose l)).rises_iff _).1 hr).1 (by simp [he]))

end

/-! ## The lanes of a trip (R151) -/

section

variable {i : SourceId} {cond creep : Bool} {l j : Lane} {s : State}

/-- A lane that a trip of a source leaves as it is: not in a state that a trip ends, or not in the source's set. -/
def State.spares (s : State) (i : SourceId) (j : Lane) : Prop :=
  (s.lane j).state.endedByTrip = false ∨ inSet (s.source i).lanes j = false

/-- An end of a lane in none of the states that a trip ends changes nothing. -/
theorem endLane_unended {r : EndReason} (h : (s.lane l).state.endedByTrip = false) : endLane l r s = s := by
  rcases endLane_cases l r s with ⟨hs | hs, _⟩ | ⟨hs, _⟩ | ⟨_, e⟩
  iterate 3 simp [hs, LaneState.endedByTrip] at h
  exact e

theorem State.spares.congr {t : State} (h : s.spares i j) (hl : t.lane j = s.lane j)
    (hs : (t.source i).lanes = (s.source i).lanes) : t.spares i j := by
  unfold State.spares
  rwa [hl, hs]

theorem tripSource_spares (h : s.spares i j) : (tripSource i s).lane j = s.lane j := by
  simp only [tripSource, blockAll, post_lane]
  have hb : ∀ ts (t : State), (blockInlets ts t).lane j = t.lane j := fun ts t => by simp [State.lane]
  rw [hb, endLanes_lane]
  split
  · next hin =>
    rcases h with h | h
    · rw [endLane_unended]
      · rfl
      · exact h
    · simp [h] at hin
  · rfl

theorem riseSource_spares (h : s.spares i j) : (riseSource i s).lane j = s.lane j := by
  unfold riseSource
  dsimp only
  split
  · rfl
  · exact tripSource_spares h

theorem setSource_spares {x : Source} (h : s.spares i j) (hx : x.lanes = (s.source i).lanes) : (s.setSource i x).spares i j :=
  h.congr rfl (by rw [State.source_setSource_same, hx])

theorem sampleSource_spares (h : s.spares i j) : (sampleSource i cond s).lane j = s.lane j := by
  unfold sampleSource
  dsimp only
  split
  · refine (riseSource_spares (setSource_spares h ?_)).trans rfl
    unfold Source.sample
    split <;> rfl
  · rfl

theorem creepTrigger_spares (h : s.spares (.hose l) j) : (creepTrigger l creep s).lane j = s.lane j := by
  unfold creepTrigger
  dsimp only
  split
  · rw [riseSource_spares (setSource_spares h (by rfl))]
    rfl
  · rfl

/-- A HOSE sample leaves as it is a lane that a trip of the source would leave (R146, R151). -/
theorem sampleHose_spares (h : s.spares (.hose l) j) : (sampleHose l s).lane j = s.lane j := by
  unfold sampleHose
  dsimp only
  split
  · rw [creepTrigger_spares, sampleSource_spares h]
    refine h.congr (sampleSource_spares h) ?_
    rw [source_of_sources (sampleSource_sources _ _ s), if_pos rfl, Source.sampled_lanes]
  · exact sampleSource_spares h

end

end Sys2Proof.Machine
end

section
/-! The meter sample: the figures it takes on both paths, and the books it reaches (R4, R10 to R21, R62, R83). -/

namespace Sys2Proof.Machine

/-! ## The start of every sample (R4, R8, R11, R12) -/

theorem Meter.takeSample_eq (m : Meter) (b : Bool) :
    m.takeSample b =
      { m with
        sampleAcc := 0, rate := rateOf m.params.kx m.deltaE, band := bandOf m.params (rateOf m.params.kx m.deltaE)
        edgeSeen := false, missSeen := false, consec := (m.takeSample b).consec
        txnMiscounts := (m.takeSample b).txnMiscounts, flags := (m.takeSample b).flags } := by
  unfold Meter.takeSample
  cases m.clamps <;> cases b <;> rfl

/-- Outside the metered phase the transaction's miscounts and flags stay (R8). -/
theorem Meter.takeSample_unmetered (m : Meter) :
    (m.takeSample false).txnMiscounts = m.txnMiscounts ∧ (m.takeSample false).flags = m.flags := by
  unfold Meter.takeSample
  cases m.clamps <;> exact ⟨rfl, rfl⟩

/-! ## The figures of the transaction path -/

/-- A tank that a net change has left: the drawn-since-sample count and the book (R62, R83). -/
def TankUnit.drawn (k : TankUnit) (dN : Int) : TankUnit := { k with drawnSince := holdVolume (k.drawnSince + dN) }.deduct dN

/-- The net change of the transaction-path sample that a lane is about to take (R15). -/
def State.netChange (s : State) (l : Lane) : Int :=
  ((s.lane l).txnMeter (s.tank (s.lane l).cfg.tank).alpha (s.tank (s.lane l).cfg.tank).t10).net - (s.lane l).meter.net

/-- A net change of a lane counted, booked and drawn from its reservation, no trim taken yet (R62, R64, R83). -/
def State.booked (s : State) (l : Lane) (dN : Int) : State :=
  (countDrawn (s.lane l).cfg.tank dN s).setTank (s.lane l).cfg.tank
    { (s.tank (s.lane l).cfg.tank).drawn dN with
      draws := recompute l (s.lane l).meter.net (s.tank (s.lane l).cfg.tank).draws }

/-- The state with a transaction-path sample in its lane and booked, no test taken yet (R15 to R17, R62). -/
def State.txnSampled (s : State) (l : Lane) : State :=
  (s.setLane l ((s.lane l).takeTxnSample (s.tank (s.lane l).cfg.tank).alpha (s.tank (s.lane l).cfg.tank).t10)).booked l
    (s.netChange l)

section

variable {s : State} {l : Lane}

theorem TankUnit.deduct_draws (k : TankUnit) (dN : Int) : (k.deduct dN).draws = k.draws := by
  unfold TankUnit.deduct
  split
  · rfl
  · split <;> rfl

theorem bookDraw_eq (l : Lane) (dN : Int) (s : State) : bookDraw l dN s = trimTank (s.lane l).cfg.tank (s.booked l dN) := by
  unfold bookDraw State.booked TankUnit.drawn
  have h : (countDrawn (s.lane l).cfg.tank dN s).tank (s.lane l).cfg.tank =
      { s.tank (s.lane l).cfg.tank with drawnSince := holdVolume ((s.tank (s.lane l).cfg.tank).drawnSince + dN) } :=
    State.tank_setTank_same _ _ _
  simp only [h, TankUnit.deduct_draws]

theorem booked_tank_same (l : Lane) (dN : Int) (s : State) :
    (s.booked l dN).tank (s.lane l).cfg.tank =
      { (s.tank (s.lane l).cfg.tank).drawn dN with
        draws := recompute l (s.lane l).meter.net (s.tank (s.lane l).cfg.tank).draws } :=
  State.tank_setTank_same _ _ _

theorem booked_tank_ne (l : Lane) (dN : Int) (s : State) {k : Tank} (h : k ≠ (s.lane l).cfg.tank) :
    (s.booked l dN).tank k = s.tank k :=
  (State.tank_setTank_ne _ _ _ _ h).trans (State.tank_setTank_ne s _ _ _ h)

theorem txnSampled_lane (s : State) (l : Lane) :
    (s.txnSampled l).lane l = (s.lane l).takeTxnSample (s.tank (s.lane l).cfg.tank).alpha (s.tank (s.lane l).cfg.tank).t10 :=
  State.lane_setLane_same s _ _

theorem txnSample_eq (l : Lane) (s : State) :
    txnSample l s =
      testOverrun l (testPreset l (sampleFaults l (s.lane l).meter (trimTank (s.lane l).cfg.tank (s.txnSampled l)))) := by
  unfold txnSample
  dsimp only
  rw [bookDraw_eq, State.lane_setLane_same]
  rfl

theorem meterSample_metered (h : (s.lane l).state.metered = true) : meterSample l s = sampleHose l (txnSample l s) := by
  simp [meterSample, h]

theorem meterSample_unmetered (h : (s.lane l).state.metered = false) :
    meterSample l s = sampleHose l (s.setLane l (s.lane l).takeCreepSample) := by
  simp [meterSample, h]

/-- The tests and the HOSE sample that follow leave the sampled figures alone. -/
theorem meterSample_figures (h : (s.lane l).state.metered = true) : KeepsFigures (s.txnSampled l) (meterSample l s) := by
  rw [meterSample_metered h, txnSample_eq]
  exact sampleHose_figures _ (testOverrun_figures _ (testPreset_figures _ (sampleFaults_figures _ _ (trimTank_figures _ (.refl _)))))

theorem creepSample_figures (h : (s.lane l).state.metered = false) :
    KeepsFigures (s.setLane l (s.lane l).takeCreepSample) (meterSample l s) := by
  rw [meterSample_unmetered h]
  exact sampleHose_figures _ (.refl _)

/-- The meter unit of a lane after its sample, by its path (R10). -/
theorem meterSample_meter (l : Lane) (s : State) :
    ((meterSample l s).lane l).meter =
      if (s.lane l).state.metered then
        (s.lane l).txnMeter (s.tank (s.lane l).cfg.tank).alpha (s.tank (s.lane l).cfg.tank).t10
      else (s.lane l).takeCreepSample.meter := by
  split
  · next h => rw [(meterSample_figures h).meter l, txnSampled_lane]; rfl
  · next h => rw [(creepSample_figures (by simpa using h)).meter l, State.lane_setLane_same]

end

/-! ## O14, O15 -/

theorem execMeterSample_running {s : State} (l : Lane) (h : s.device.phase = .running) :
    exec (.meterSample l) s = .next (meterSample l s) := by
  show Host.Outcome.next (s.whenRunning (meterSample l)) = _
  rw [State.whenRunning_running _ h]

theorem txnMeter_rate (u : LaneUnit) (alpha : Nat) (held : Option Int) :
    (u.txnMeter alpha held).rate = rateOf u.meter.params.kx u.meter.deltaE := by
  unfold LaneUnit.txnMeter
  rw [Meter.takeSample_eq]
  rfl

theorem takeCreepSample_rate (u : LaneUnit) : u.takeCreepSample.meter.rate = rateOf u.meter.params.kx u.meter.deltaE := by
  unfold LaneUnit.takeCreepSample
  rw [Meter.takeSample_eq]
  rfl

theorem rateOf_zero (kx : Nat) : rateOf kx 0 = 0 := by simp [rateOf]

/-- Settles O14: both paths begin with the same sample. -/
theorem sampleRateFollowsEdgeCount : Obligations.SampleRateFollowsEdgeCount := by
  intro s l hp
  have hr : ((meterSample l s).lane l).meter.rate = rateOf (s.lane l).meter.params.kx (s.lane l).meter.deltaE := by
    rw [meterSample_meter]
    split
    · exact txnMeter_rate _ _ _
    · exact takeCreepSample_rate _
  refine ⟨_, execMeterSample_running l hp, hr, fun h0 => ?_⟩
  rw [hr, Meter.deltaE, h0]
  exact rateOf_zero _

/-- Settles O15: the meter unit that the transaction path leaves, field by field. -/
theorem transactionSampleFigures : Obligations.TransactionSampleFigures := by
  intro s l hp hm
  refine ⟨_, execMeterSample_running l hp, ?_⟩
  rw [meterSample_meter, if_pos hm, LaneUnit.txnMeter, Meter.takeSample_eq]
  refine ⟨rfl, rfl, rfl, rfl, rfl, rfl, ?_, rfl, rfl, rfl⟩
  exact Int.toNat_of_nonneg (Int.emod_nonneg _ (by decide))

end Sys2Proof.Machine
end

section
/-! The creep path (R10, R19 to R21, R62, R146, R151). -/

namespace Sys2Proof.Machine

/-- The meter unit after a creep-path sample: the sample's own figures and the creep figures, nothing of R16's (R16, R20, R21). -/
theorem takeCreepSample_meter (u : LaneUnit) :
    u.takeCreepSample.meter =
      { u.meter with
        sampleAcc := 0, rate := u.takeCreepSample.meter.rate
        band := bandOf u.meter.params u.takeCreepSample.meter.rate, edgeSeen := false, missSeen := false
        consec := u.takeCreepSample.meter.consec
        creepAcc := accumulate u.meter.params u.meter.creepAcc u.meter.deltaE u.takeCreepSample.meter.band
        creepGross := grossOf u.meter.params u.takeCreepSample.meter.creepAcc
        creepCond := u.meter.creepCond || decide (u.cfg.creepLimit < u.takeCreepSample.meter.creepGross.natAbs)
        creepTotal := holdVolume (u.meter.creepTotal + (u.takeCreepSample.meter.creepGross - u.meter.creepGross))
        totalizer := totalize u.meter.totalizer (u.takeCreepSample.meter.creepGross - u.meter.creepGross) } := by
  obtain ⟨hm, hf⟩ := Meter.takeSample_unmetered u.meter
  unfold LaneUnit.takeCreepSample
  rw [Meter.takeSample_eq, hm, hf]
  rfl

/-- A lane outside the metered phase is one that a trip ends only where it is AUTHORIZED. -/
theorem endedByTrip_of_unmetered {x : LaneState} (h : x.metered = false) (ha : x ≠ .authorized) : x.endedByTrip = false := by
  cases x <;> simp_all [LaneState.metered, LaneState.endedByTrip]

section

variable {s : State} {l : Lane} (h : (s.lane l).state.metered = false)

include h

/-- Where HOSE Ln does not trip, a creep-path sample reaches its meter unit and that source alone. -/
theorem creepSample_alone (ht : ((meterSample l s).source (.hose l)).isTripped = (s.source (.hose l)).isTripped) :
    ∃ x, meterSample l s = (s.setLane l (s.lane l).takeCreepSample).setSource (.hose l) x := by
  rw [meterSample_unmetered h] at ht ⊢
  exact ⟨_, sampleHose_alone ht⟩

/-- A creep-path sample leaves its lane but for the meter unit, unless the source trips and names it AUTHORIZED (R146, R151). -/
theorem creepSample_lane
    (ht : ((meterSample l s).source (.hose l)).isTripped = (s.source (.hose l)).isTripped ∨ (s.lane l).state ≠ .authorized ∨
      inSet (s.source (.hose l)).lanes l = false) :
    (meterSample l s).lane l = (s.lane l).takeCreepSample := by
  rcases ht with ht | ht
  · obtain ⟨x, hx⟩ := creepSample_alone h ht
    rw [hx, State.lane_setSource, State.lane_setLane_same]
  · rw [meterSample_unmetered h, sampleHose_spares, State.lane_setLane_same]
    refine Or.imp (fun ha => ?_) (fun hi => hi) ht
    rw [State.lane_setLane_same]
    exact endedByTrip_of_unmetered h ha

end

/-- Settles O17: the sample is taken by the meter unit, and only a trip of HOSE Ln reaches further. -/
theorem creepSampleReachesNoBook : Obligations.CreepSampleReachesNoBook := by
  intro s l hp hm
  have hk := creepSample_figures hm
  have hu : ((meterSample l s).lane l).meter = (s.lane l).takeCreepSample.meter := by rw [meterSample_meter, hm]; rfl
  have field : ∀ {α : Type} (p : Meter → α), _ := fun p => congrArg p (takeCreepSample_meter (s.lane l))
  refine ⟨_, execMeterSample_running l hp, ?_⟩
  rw [hu]
  refine ⟨(field Meter.gross :), (field Meter.net :), (field Meter.accA :), (field Meter.accN :), (field Meter.revSum :),
    (field Meter.revGiven :), (field Meter.txnMiscounts :), (field Meter.lastT10 :), (field Meter.flags :),
    fun ht => creepSample_lane hm ht, fun ht => ?_, fun k => ⟨hk.book k, hk.shortage k, hk.drawnSince k⟩,
    (field Meter.creepAcc :), (field Meter.band :), (field Meter.sampleAcc :), (field Meter.creepGross :), ?_,
    (field Meter.creepTotal :), fun hl => ?_⟩
  · obtain ⟨x, hx⟩ := creepSample_alone hm ht
    rw [hx]
    exact ⟨fun j hj => State.lane_setLane_ne s _ _ _ hj, fun j hj => State.source_setSource_ne _ _ _ _ hj, rfl⟩
  · have ht := (field Meter.totalizer :)
    dsimp only at ht
    rw [ht]
    exact Int.toNat_of_nonneg (Int.emod_nonneg _ (by decide))
  · have hg := (field Meter.creepCond :)
    dsimp only at hg
    rw [hg, decide_eq_true hl, Bool.or_true]

end Sys2Proof.Machine
end

section
/-! The samples that the spill sources take: discrete inputs, HOSE, OVERFILL and LOSS (R22, R72, R75, R144 to R149). -/

namespace Sys2Proof.Machine

/-! ## One sample, in the statements' terms (R145, R149) -/

/-- y is x after a sample of cond, as R145 and R149 count it. -/
structure Source.Counted (x y : Source) (cond : Bool) : Prop where
  lastCond : y.lastCond = cond
  evaluated : x.evaluates = true →
    y.run = (if cond then min 255 (x.run + 1) else 0) ∧
      (y.isTripped = true ↔
        x.isTripped = true ∨ (cond = true ∧ x.run < x.debounce ∧ x.debounce ≤ min 255 (x.run + 1)))
  blanked : x.evaluates = false → y.run = 0 ∧ y.blanking = x.blanking - 1 ∧ y.isTripped = x.isTripped

theorem Source.sampled_counted (x : Source) (cond : Bool) : x.Counted (x.sampled cond) cond := by
  cases h : x.evaluates with
  | false =>
    rw [Source.sampled_unevaluated cond h]
    exact ⟨rfl, fun he => absurd he (by simp [h]), fun _ => ⟨rfl, rfl, rfl⟩⟩
  | true =>
    rw [Source.sampled_evaluated cond h]
    refine ⟨rfl, fun _ => ⟨rfl, ?_⟩, fun he => absurd he (by simp [h])⟩
    simp [Source.rises_iff, h]

/-- A sample with an absent condition trips nothing. -/
theorem Source.Counted.absent {x y : Source} (h : x.Counted y false) : y.isTripped = x.isTripped ∧ y.run = 0 := by
  cases he : x.evaluates with
  | false => exact ⟨(h.blanked he).2.2, (h.blanked he).1⟩
  | true =>
    obtain ⟨hr, ht⟩ := h.evaluated he
    exact ⟨by rw [Bool.eq_iff_iff]; simpa using ht, hr⟩

theorem State.source_setSource (s : State) (i : SourceId) (x : Source) (j : SourceId) :
    (s.setSource i x).source j = if j = i then x else s.source j :=
  source_of_sources rfl j

theorem sampleSource_source (i : SourceId) (cond : Bool) (s : State) (j : SourceId) :
    (sampleSource i cond s).source j = if j = i then (s.source i).sampled cond else s.source j :=
  source_of_sources (sampleSource_sources i cond s) j

/-! ## The discrete inputs (R144) -/

theorem discreteSample_source (low : BitVec 4) (open_ : Bool) (s : State) {i : SourceId} {cond : Bool}
    (h : (∃ n : Fin 4, i = .sump n ∧ cond = low.getLsbD n.val) ∨ (i = .estop ∧ cond = open_)) :
    (discreteSample low open_ s).source i = (s.source i).sampled cond := by
  rcases h with ⟨n, rfl, rfl⟩ | ⟨rfl, rfl⟩
  · simp only [discreteSample, sampleSource_source, SourceId.sump.injEq]
    fin_cases n <;> simp
  · simp [discreteSample, sampleSource_source]

/-! ## HOSE (R22, R146) -/

theorem txnSample_spill (l : Lane) (s : State) : (txnSample l s).spill = s.spill := by
  simp [txnSample, sampleFaults]

/-- HOSE Ln is sampled with the rate and the creep condition that the meter sample leaves; no other source is. -/
theorem meterSample_source (l : Lane) (s : State) (j : SourceId) :
    (meterSample l s).source j =
      if j = .hose l then
        (s.source (.hose l)).hoseSampled ((meterSample l s).lane l).meter.rate ((meterSample l s).lane l).meter.creepCond
      else s.source j := by
  have key : ∀ t : State, t.spill = s.spill → meterSample l s = sampleHose l t →
      (meterSample l s).source j =
        if j = .hose l then
          (s.source (.hose l)).hoseSampled ((meterSample l s).lane l).meter.rate ((meterSample l s).lane l).meter.creepCond
        else s.source j := by
    intro t ht he
    have hs : ∀ i, t.source i = s.source i := fun i => by simp only [State.source, ht]
    rw [he, source_of_sources (sampleHose_sources l t), (sampleHose_figures l (.refl t)).meter l, hs, hs]
  cases hm : (s.lane l).state.metered with
  | true => exact key _ (txnSample_spill l s) (meterSample_metered hm)
  | false => exact key (s.setLane l (s.lane l).takeCreepSample) rfl (meterSample_unmetered hm)

/-- A HOSE sample: the rate's count, and at an evaluated sample the creep condition, whose first presence trips (R146). -/
theorem Source.hoseSampled_counts (x : Source) (rate : Nat) (creep : Bool) :
    (x.hoseSampled rate creep).lastCond = decide (x.hoseLimit < rate) ∧
      (x.evaluates = true →
        (x.hoseSampled rate creep).run = (if x.hoseLimit < rate then min 255 (x.run + 1) else 0) ∧
        (x.hoseSampled rate creep).creepTaken = creep ∧
        ((x.hoseSampled rate creep).isTripped = true ↔
          x.isTripped = true ∨ (creep = true ∧ x.creepTaken = false) ∨
            (x.hoseLimit < rate ∧ x.run < x.debounce ∧ x.debounce ≤ min 255 (x.run + 1)))) ∧
      (x.evaluates = false →
        (x.hoseSampled rate creep).run = 0 ∧ (x.hoseSampled rate creep).blanking = x.blanking - 1 ∧
        (x.hoseSampled rate creep).creepTaken = x.creepTaken ∧ (x.hoseSampled rate creep).isTripped = x.isTripped) := by
  cases h : x.evaluates with
  | false =>
    simp [Source.hoseSampled, h, Source.sampled_unevaluated]
  | true =>
    simp only [Source.hoseSampled, h, if_true]
    rw [Source.creepSampled_eq, Source.sampled_evaluated _ h]
    simp [Source.rises_iff, h, or_comm, or_left_comm]

/-! ## OVERFILL and LOSS (R72, R75, R144) -/

theorem mapDeliveries_spill (p : DeliveryEntry → Bool) (f : DeliveryEntry → DeliveryEntry) (s : State) :
    (mapDeliveries p f s).spill = s.spill := rfl

theorem zoneSample_spill (k : Tank) (level : Nat) (s : State) : (zoneSample k level s).spill = s.spill := by
  have hz : ∀ before t, (zoneAlarm k before t).spill = t.spill := fun before t => by simp [zoneAlarm]
  unfold zoneSample
  dsimp only
  split
  · simp [enterLowLow, hz]
  · simp [hz]

theorem closingGauge_spill (k : Tank) (s : State) : (closingGauge k s).spill = s.spill := by
  unfold closingGauge
  split
  · split <;> rfl
  · rfl

theorem missedGauge_spill (k : Tank) (s : State) : (missedGauge k s).spill = s.spill := by
  simp [missedGauge, mapDeliveries_spill]

/-- The sources OVERFILL and LOSS of a tank take the conditions that it hands. -/
theorem tankSources_source (k : Tank) (s : State) (j : SourceId) :
    (tankSources k s).source j =
      if j = .loss k then (s.source j).sampled (s.tank k).lossHanded
      else if j = .overfill k then (s.source j).sampled (s.tank k).overfillHanded else s.source j := by
  unfold tankSources
  dsimp only
  rw [sampleSource_source, sampleSource_source, sampleSource_source]
  split
  · next h => simp [h]
  · split
    · next h => rw [h]
    · rfl

theorem TankUnit.ageWindow_handed (u : TankUnit) (valid : Bool) (uptime : Nat) :
    (u.ageWindow valid uptime).zone = u.zone ∧ (u.ageWindow valid uptime).lossHanded = u.lossHanded := by
  have hr : (u.restartWindow uptime).zone = u.zone ∧ (u.restartWindow uptime).lossHanded = u.lossHanded := by
    unfold TankUnit.restartWindow
    split <;> exact ⟨rfl, rfl⟩
  unfold TankUnit.ageWindow
  split
  · exact ⟨rfl, rfl⟩
  · split
    · exact hr
    · exact ⟨rfl, rfl⟩

/-- A gauge sample up to the loss test: the reading, the gauged net, the zones and the delivery that waits (R57 to R73, R87). -/
def gaugeTaken (k : Tank) (r : Option GaugeReading) (s : State) : State :=
  match r with
  | some g =>
    closingGauge k (zoneSample k g.level { s.setTank k ((s.tank k).takeReading r).computeNet with bus := .polled k })
  | none => missedGauge k { s.setTank k ((s.tank k).takeReading r).computeNet with bus := .polled k }

/-- The end of a gauge sample: the loss test, the tank's sources, and the window's age (R72, R74, R75, R144). -/
def gaugeHanded (k : Tank) (valid : Bool) (s : State) : State :=
  (tankSources k (testAndHand k valid s)).setTank k
    (((tankSources k (testAndHand k valid s)).tank k).ageWindow valid (tankSources k (testAndHand k valid s)).time.uptime)

theorem gaugeEvent_eq (k : Tank) (r : Option GaugeReading) (s : State) :
    gaugeEvent k r s = gaugeHanded k r.isSome (gaugeTaken k r s) := by
  cases r <;> rfl

theorem gaugeTaken_spill (k : Tank) (r : Option GaugeReading) (s : State) : (gaugeTaken k r s).spill = s.spill := by
  cases r with
  | none => exact (missedGauge_spill _ _).trans rfl
  | some g => exact ((closingGauge_spill _ _).trans (zoneSample_spill _ _ _)).trans rfl

theorem gaugeHanded_source (k : Tank) (valid : Bool) (s : State) (j : SourceId) :
    (gaugeHanded k valid s).source j =
      if j = .loss k then (s.source j).sampled ((gaugeHanded k valid s).tank k).lossHanded
      else if j = .overfill k then (s.source j).sampled (decide (((gaugeHanded k valid s).tank k).zone = .highHigh))
      else s.source j := by
  have hk := sampleSource_figures (.loss k) ((testAndHand k valid s).tank k).lossHanded
    (sampleSource_figures (.overfill k) ((testAndHand k valid s).tank k).overfillHanded (.refl (testAndHand k valid s)))
  have ht : ((tankSources k (testAndHand k valid s)).tank k).still = ((testAndHand k valid s).tank k).still := hk.tank k
  obtain ⟨hz, hl⟩ := TankUnit.ageWindow_handed ((tankSources k (testAndHand k valid s)).tank k) valid
    (tankSources k (testAndHand k valid s)).time.uptime
  have hz' : ((gaugeHanded k valid s).tank k).zone = ((testAndHand k valid s).tank k).zone := by
    rw [gaugeHanded, State.tank_setTank_same, hz]
    exact (congrArg TankUnit.zone ht :)
  have hl' : ((gaugeHanded k valid s).tank k).lossHanded = ((testAndHand k valid s).tank k).lossHanded := by
    rw [gaugeHanded, State.tank_setTank_same, hl]
    exact (congrArg TankUnit.lossHanded ht :)
  have ho : ((testAndHand k valid s).tank k).overfillHanded = decide (((testAndHand k valid s).tank k).zone = .highHigh) := by
    rw [testAndHand, State.tank_setTank_same]
    rfl
  rw [hz', hl', ← ho]
  exact tankSources_source k (testAndHand k valid s) j

/-- A gauge sample ends with the tank's sources taking the debounced zone and the loss condition handed. -/
theorem gaugeEvent_source (k : Tank) (r : Option GaugeReading) (s : State) (j : SourceId) :
    (gaugeEvent k r s).source j =
      if j = .loss k then (s.source j).sampled ((gaugeEvent k r s).tank k).lossHanded
      else if j = .overfill k then (s.source j).sampled (decide (((gaugeEvent k r s).tank k).zone = .highHigh))
      else s.source j := by
  have hs : (gaugeTaken k r s).source j = s.source j := by simp only [State.source, gaugeTaken_spill]
  rw [gaugeEvent_eq, gaugeHanded_source, hs]

/-! ## The timer of a tank with no gauge (R144, R191) -/

/-- An absent condition trips nothing. -/
theorem sampleSource_absent (i : SourceId) (s : State) :
    sampleSource i false s = s.setSource i ((s.source i).sampled false) :=
  sampleSource_alone (fun h => absurd (((s.source i).rises_iff _).1 h).2.1 (by simp))

theorem noGaugeSample_ended {k : Tank} {s : State} (h : (s.tank k).noGaugeTimer = some 0) :
    noGaugeSample k s =
      ((s.setTank k { s.tank k with noGaugeTimer := some 1 }).setSource (.overfill k)
        ((s.source (.overfill k)).sampled false)).setSource (.loss k) ((s.source (.loss k)).sampled false) := by
  simp only [noGaugeSample, ended, h, decide_true, if_true, sampleSource_absent]
  rw [State.source_setSource_ne _ _ _ _ (by simp)]
  rfl

theorem noGaugeSample_source {k : Tank} {s : State} (h : (s.tank k).noGaugeTimer = some 0) (i : SourceId) :
    (noGaugeSample k s).source i =
      if i = .loss k then (s.source (.loss k)).sampled false
      else if i = .overfill k then (s.source (.overfill k)).sampled false else s.source i := by
  rw [noGaugeSample_ended h, State.source_setSource, State.source_setSource]
  rfl

/-- Settles O26: each kind of sample hands its sources a condition, and a source counts it in one way. -/
theorem sourceSamplesCountRuns : Obligations.SourceSamplesCountRuns := by
  intro s hp
  have hrun : ∀ f : State → State, s.whenRunning f = f s := fun f => State.whenRunning_running f hp
  refine ⟨fun low open_ => ⟨discreteSample low open_ s, ?_, fun i cond hi => ?_⟩, fun l => ?_, fun k reply hg => ?_,
    fun k hk => ?_, fun k hk => ?_⟩
  · exact congrArg Host.Outcome.next (hrun _)
  · have hc := (s.source i).sampled_counted cond
    rw [discreteSample_source low open_ s hi]
    refine ⟨hc.lastCond, fun he => ?_, hc.blanked⟩
    obtain ⟨hr, ht⟩ := hc.evaluated he
    refine ⟨hr, fun h0 => ?_, fun h1 hlt hle hmax => ht.2 (Or.inr ⟨h1, hlt, ?_⟩)⟩
    · subst h0
      exact hc.absent.1
    · omega
  · have hh := meterSample_source l s (.hose l)
    rw [if_pos rfl] at hh
    refine ⟨_, _, _, execMeterSample_running l hp, rfl, rfl, fun j hj => ?_, ?_⟩
    · rw [meterSample_source, if_neg hj]
    · rw [hh]
      exact Source.hoseSampled_counts _ _ _
  · refine ⟨gaugeEvent k (gaugeReading reply) s, ?_, fun j hjo hjl => ?_, fun i cond hi => ?_⟩
    · refine congrArg Host.Outcome.next ((hrun _).trans ?_)
      simp [gaugeSample, hg]
    · rw [gaugeEvent_source, if_neg hjl, if_neg hjo]
    · have hs : (gaugeEvent k (gaugeReading reply) s).source i = (s.source i).sampled cond := by
        rw [gaugeEvent_source]
        rcases hi with ⟨rfl, rfl⟩ | ⟨rfl, rfl⟩
        · rw [if_neg (by simp), if_pos rfl]
        · rw [if_pos rfl]
      have hc := (s.source i).sampled_counted cond
      rw [hs]
      exact ⟨hc.lastCond, hc.evaluated, hc.blanked⟩
  · refine congrArg Host.Outcome.next ((hrun _).trans ?_)
    simp [noGaugeSample, ended, hk]
  · have ho := (s.source (.overfill k)).sampled_counted false
    have hl := (s.source (.loss k)).sampled_counted false
    have ht := noGaugeSample_ended hk
    have hsrc := noGaugeSample_source hk
    refine ⟨noGaugeSample k s, congrArg Host.Outcome.next (hrun _), by rw [ht]; rfl, fun j hj => ?_, ?_, ?_, ?_, ?_, ?_, ?_,
      fun i => ?_⟩
    · rw [ht]
      exact State.tank_setTank_ne s _ _ _ hj
    · rw [ht]
      exact State.tank_setTank_same s _ _
    · rw [hsrc, if_neg (by simp), if_pos rfl, ho.absent.2]
    · rw [hsrc, if_neg (by simp), if_pos rfl, ho.lastCond]
    · rw [hsrc, if_pos rfl, hl.absent.2]
    · rw [hsrc, if_pos rfl, hl.lastCond]
    · rw [ht]
      rfl
    · rw [hsrc]
      split
      · next h => rw [h, hl.absent.1]
      · split
        · next h => rw [h, ho.absent.1]
        · rfl

end Sys2Proof.Machine
end

section
/-! A transaction-path sample: the book of its tank, and the tests that follow it (R18, R40, R41, R45, R48, R62, R83). -/

namespace Sys2Proof.Machine

/-! ## The book (R62, R83) -/

theorem TankUnit.drawn_drawnSince (k : TankUnit) (dN : Int) : (k.drawn dN).drawnSince = holdVolume (k.drawnSince + dN) := by
  unfold TankUnit.drawn TankUnit.deduct
  split
  · rfl
  · split <;> rfl

theorem TankUnit.drawn_book_negative (k : TankUnit) {dN : Int} (h : dN < 0) :
    (k.drawn dN).book = min 2000000000 (k.book + dN.natAbs) := by
  simp only [TankUnit.drawn, TankUnit.deduct, h, if_true]
  rfl

theorem TankUnit.drawn_book_nonneg (k : TankUnit) {dN : Int} (h : 0 ≤ dN) :
    (k.drawn dN).book = k.book - dN.toNat ∧
      (k.drawn dN).shortage =
        if dN.toNat ≤ k.book then k.shortage else min 2000000000 (k.shortage + (dN.toNat - k.book)) := by
  have hn : ¬ dN < 0 := by omega
  simp only [TankUnit.drawn, TankUnit.deduct, hn, if_false]
  split
  · exact ⟨rfl, rfl⟩
  · refine ⟨?_, rfl⟩
    dsimp only
    omega

/-- A list that fits the book is not trimmed (R66). -/
theorem trimTank_of_fits {k : Tank} {s : State} (h : allocated (s.tank k).draws ≤ (s.tank k).book) : trimTank k s = s := by
  have e : trimTank k s = s.setTank k (s.tank k) := by simp only [trimTank, trimDraws, h, if_true, List.foldl_nil]
  rw [e, State.setTank_tank_self]

/-! ## The tests (R41, R45) -/

section

variable {s : State} {l : Lane} {c : Context}

/-- Only a DELIVERING lane takes the preset test (R41). -/
theorem testPreset_undelivering (h : (s.lane l).state ≠ .delivering) : testPreset l s = s := by
  unfold testPreset
  dsimp only
  split
  · next h1 _ => exact absurd h1 h
  · rfl

theorem testPreset_reached (h : (s.lane l).state = .delivering) (hc : (s.lane l).ctx = some c)
    (hn : c.effPreset ≤ (s.lane l).meter.net) : testPreset l s = endLane l .preset s := by
  simp [testPreset, h, hc, hn]

theorem testPreset_below {st : Stage} (h : (s.lane l).state = .delivering) (hc : (s.lane l).ctx = some c)
    (hst : (s.lane l).stage = some st) (hn : (s.lane l).meter.net < c.effPreset) :
    testPreset l s =
      s.setLane l ((s.lane l).inStage (nextStage (s.lane l).cfg c.effPreset (s.lane l).meter.net st)) := by
  have hn' : ¬ c.effPreset ≤ (s.lane l).meter.net := by omega
  simp [testPreset, evaluateStage, h, hc, hn', hst]

theorem testOverrun_within (hc : (s.lane l).ctx = some c)
    (h : (s.lane l).meter.net - c.effPreset ≤ (s.lane l).cfg.overrunLimit ∨ c.overrunTaken = true) : testOverrun l s = s := by
  rcases h with h | h
  · have h' : ¬ ((s.lane l).cfg.overrunLimit : Int) < (s.lane l).meter.net - c.effPreset := by omega
    simp [testOverrun, hc, faultIf, h']
  · simp [testOverrun, hc, faultIf, h]

theorem testOverrun_past (hm : (s.lane l).state.metered = true) (hc : (s.lane l).ctx = some c)
    (h : ((s.lane l).cfg.overrunLimit : Int) < (s.lane l).meter.net - c.effPreset) (ht : c.overrunTaken = false) :
    testOverrun l s = takeFault l .overrun s := by
  simp [testOverrun, hc, hm, faultIf, h, ht]

/-- A SETTLING lane within the overrun limit is past the last tests as it is (R45, R151). -/
theorem settlingTail_within (h : (s.lane l).state = .settling) (hc : (s.lane l).ctx = some c)
    (hw : (s.lane l).meter.net - c.effPreset ≤ (s.lane l).cfg.overrunLimit ∨ c.overrunTaken = true) :
    (sampleHose l (testOverrun l s)).lane l = s.lane l := by
  rw [testOverrun_within hc hw, sampleHose_spares (Or.inl (by rw [h]; rfl))]

/-- The first overrun of a SETTLING lane is a fault that replaces its reason (R45, R48). -/
theorem settlingTail_past (h : (s.lane l).state = .settling) (hc : (s.lane l).ctx = some c)
    (hp : ((s.lane l).cfg.overrunLimit : Int) < (s.lane l).meter.net - c.effPreset) (ht : c.overrunTaken = false) :
    (sampleHose l (testOverrun l s)).lane l = ((s.lane l).faulted .overrun).setReason .faultOverrun ∧
      ∀ i, holdsKind ((sampleHose l (testOverrun l s)).port i).pendingSet .laneFault = true := by
  have hm : (s.lane l).state.metered = true := by rw [h]; rfl
  have hl : (takeFault l .overrun s).lane l = ((s.lane l).faulted .overrun).setReason .faultOverrun := by
    rw [takeFault_settling _ h]
    exact State.lane_setLane_same _ _ _
  rw [testOverrun_past hm hc hp ht]
  refine ⟨?_, fun i => (sampleHose_figures l (.refl _)).kinds i _ ((takeFault_takes .overrun hm).2 i)⟩
  rw [sampleHose_spares (Or.inl (by rw [hl]; exact congrArg LaneState.endedByTrip h)), hl]

/-- The last tests leave a SETTLING lane SETTLING, its valves and its timer as they are. -/
theorem settlingTail_stays (h : (s.lane l).state = .settling) (hc : (s.lane l).ctx = some c) :
    ((sampleHose l (testOverrun l s)).lane l).state = .settling ∧
      ((sampleHose l (testOverrun l s)).lane l).vlo = (s.lane l).vlo ∧
      ((sampleHose l (testOverrun l s)).lane l).vhi = (s.lane l).vhi ∧
      ((sampleHose l (testOverrun l s)).lane l).settleTimer = (s.lane l).settleTimer := by
  by_cases hw : (s.lane l).meter.net - c.effPreset ≤ (s.lane l).cfg.overrunLimit ∨ c.overrunTaken = true
  · rw [settlingTail_within h hc hw]
    exact ⟨h, rfl, rfl, rfl⟩
  · obtain ⟨hp, ht⟩ := not_or.1 hw
    rw [(settlingTail_past h hc (by omega) (by simpa using ht)).1]
    exact ⟨h, rfl, rfl, rfl⟩

/-! ## The three cases of a sample (log 8) -/

/-- A REVERSE fault in a sample (R18, R48). -/
theorem reverseSample (hm : (s.lane l).state.metered = true) (hc : (s.lane l).ctx = some c) {t : State}
    (ht : t = sampleHose l (testOverrun l (testPreset l (takeFault l .reverse s)))) :
    (t.lane l).held.reverse = true ∧ (∀ i, holdsKind (t.port i).pendingSet .laneFault = true) ∧
      ((s.lane l).state = .delivering → (t.lane l).state = .settling ∧ (t.lane l).vlo = false ∧ (t.lane l).vhi = false) ∧
      ((s.lane l).state ≠ .starting → (s.lane l).meter.net - c.effPreset ≤ (s.lane l).cfg.overrunLimit →
        (t.lane l).ctx.bind (fun d => d.endReason) = some .faultReverse) := by
  have hk : KeepsFigures (takeFault l .reverse s) t := by
    rw [ht]
    exact sampleHose_figures _ (testOverrun_figures _ (testPreset_figures _ (.refl _)))
  obtain ⟨hheld, hkinds⟩ := takeFault_takes .reverse hm
  have key : (s.lane l).state ≠ .starting →
      ((takeFault l .reverse s).lane l).state = .settling ∧
      ((takeFault l .reverse s).lane l).ctx = some { c.markFault .reverse with endReason := some .faultReverse } ∧
      ((s.lane l).state = .delivering →
        ((takeFault l .reverse s).lane l).vlo = false ∧ ((takeFault l .reverse s).lane l).vhi = false) := by
    intro hns
    rcases (metered_iff _).1 hm with h | h | h
    · rw [takeFault_settling _ h, post_lane, State.lane_setLane_same]
      refine ⟨h, by simp [LaneUnit.setReason, LaneUnit.faulted, hc, LaneFault.reason], fun hd => ?_⟩
      rw [h] at hd
      cases hd
    · exact absurd h hns
    · have hd : ((post .laneFault (s.setLane l ((s.lane l).faulted .reverse))).lane l) = (s.lane l).faulted .reverse :=
        State.lane_setLane_same s _ _
      rw [takeFault_ends _ (Or.inr h), endLane_delivering _ (by rw [hd]; exact h), hd]
      exact ⟨rfl, by simp [LaneUnit.settle, LaneUnit.shut, LaneUnit.setReason, LaneUnit.faulted, hc, LaneFault.reason],
        fun _ => ⟨rfl, rfl⟩⟩
  have hf := takeFault_figures l .reverse (.refl s)
  refine ⟨hk.held l .reverse hheld, fun i => hk.kinds i _ (hkinds i), fun hd => ?_, fun hns hn => ?_⟩
  · obtain ⟨hs, hc', hv⟩ := key (by rw [hd]; simp)
    obtain ⟨h1, h2, h3, _⟩ := settlingTail_stays hs hc'
    rw [ht, testPreset_undelivering (by rw [hs]; simp)]
    exact ⟨h1, h2.trans (hv hd).1, h3.trans (hv hd).2⟩
  · obtain ⟨hs, hc', _⟩ := key hns
    rw [ht, testPreset_undelivering (by rw [hs]; simp), settlingTail_within hs hc', hc']
    · rfl
    · rw [hf.meter l, hf.cfg l]
      exact Or.inl hn

/-- The preset reached in a sample (R41, R45). -/
theorem presetSample (hd : (s.lane l).state = .delivering) (hc : (s.lane l).ctx = some c)
    (hn : c.effPreset ≤ (s.lane l).meter.net) {t : State} (ht : t = sampleHose l (testOverrun l (testPreset l s))) :
    (t.lane l).state = .settling ∧ (t.lane l).vlo = false ∧ (t.lane l).vhi = false ∧
      (t.lane l).settleTimer = some (s.lane l).cfg.settleTime ∧
      (((s.lane l).meter.net - c.effPreset ≤ (s.lane l).cfg.overrunLimit ∨ c.overrunTaken = true) →
        (t.lane l).ctx.bind (fun d => d.endReason) = some .preset) ∧
      ((s.lane l).cfg.overrunLimit < (s.lane l).meter.net - c.effPreset → c.overrunTaken = false →
        (t.lane l).held.overrun = true ∧ (t.lane l).ctx.bind (fun d => d.endReason) = some .faultOverrun ∧
          ∀ i, holdsKind (t.port i).pendingSet .laneFault = true) := by
  have hl : (endLane l .preset s).lane l = (s.lane l).settle .preset := endLane_delivering _ hd
  have hs : ((endLane l .preset s).lane l).state = .settling := by rw [hl]; rfl
  have hc' : ((endLane l .preset s).lane l).ctx = some { c with endReason := some .preset } := by
    rw [hl]
    simp [LaneUnit.settle, LaneUnit.shut, LaneUnit.setReason, hc]
  rw [ht, testPreset_reached hd hc hn]
  obtain ⟨h1, h2, h3, h4⟩ := settlingTail_stays hs hc'
  refine ⟨h1, by rw [h2, hl]; rfl, by rw [h3, hl]; rfl, by rw [h4, hl]; rfl, fun hw => ?_, fun hp ho => ?_⟩
  · rw [settlingTail_within hs hc' (by rw [hl]; exact hw), hc']
    rfl
  · obtain ⟨h5, h6⟩ := settlingTail_past hs hc' (by rw [hl]; exact hp) ho
    rw [h5]
    exact ⟨rfl, by simp [LaneUnit.setReason, LaneUnit.faulted, hc'], h6⟩

/-- A sample below the preset that trips nothing (R40). -/
theorem belowSample {st : Stage} (hd : (s.lane l).state = .delivering) (hc : (s.lane l).ctx = some c)
    (hst : (s.lane l).stage = some st) (hn : (s.lane l).meter.net < c.effPreset) {t : State}
    (ht : t = sampleHose l (testOverrun l (testPreset l s)))
    (hh : (t.source (.hose l)).isTripped = (s.source (.hose l)).isTripped) :
    t.lane l = (s.lane l).inStage (nextStage (s.lane l).cfg c.effPreset (s.lane l).meter.net st) := by
  rw [testPreset_below hd hc hst hn, testOverrun_within] at ht
  · rw [ht] at hh ⊢
    rw [sampleHose_alone hh, State.lane_setSource, State.lane_setLane_same]
  · rw [State.lane_setLane_same]
    simp [LaneUnit.inStage, hc]
    rfl
  · rw [State.lane_setLane_same]
    refine Or.inl ?_
    simp only [LaneUnit.inStage]
    omega

end

/-- R40's table as the statement gives it. -/
theorem nextStage_eq (cfg : LaneConfig) (eff n : Int) (st : Stage) :
    nextStage cfg eff n st =
      if st = .lowEnd ∨ ((st = .high ∨ (cfg.slowStart : Int) ≤ n) ∧ eff - cfg.slowdown ≤ n) ∨
          (st = .lowStart ∧ (cfg.slowStart : Int) ≤ n ∧ eff < cfg.slowStart + cfg.slowdown) then .lowEnd
      else if st = .high ∨ (cfg.slowStart : Int) ≤ n then .high
      else .lowStart := by
  cases st with
  | lowStart =>
    by_cases h1 : (cfg.slowStart : Int) ≤ n <;> simp [nextStage, h1, or_comm]
  | high => simp [nextStage]
  | lowEnd => simp [nextStage]

section

variable {s : State} {l : Lane} {c : Context}

/-- A sample with no clamp and no trim: the REVERSE test, the preset test, the overrun test and the HOSE sample (log 8). -/
theorem txnSample_plain (hm : (s.lane l).state.metered = true) (h1 : -32767 ≤ (s.lane l).meter.sampleAcc)
    (h2 : (s.lane l).meter.sampleAcc ≤ 32767)
    (hfit : allocated ((s.txnSampled l).tank (s.lane l).cfg.tank).draws ≤ ((s.txnSampled l).tank (s.lane l).cfg.tank).book) :
    meterSample l s =
      sampleHose l (testOverrun l (testPreset l
        (faultIf (((s.txnSampled l).lane l).meter.revGiven && !(s.lane l).meter.revGiven) l .reverse (s.txnSampled l)))) := by
  have hcl : (s.lane l).meter.clamps = false := by simp [Meter.clamps, Meter.deltaE, clampInt_of_within h1 h2]
  rw [meterSample_metered hm, txnSample_eq, trimTank_of_fits hfit, sampleFaults]
  simp only [hcl, Bool.false_and]
  rfl

theorem txnMeter_revGiven (u : LaneUnit) (alpha : Nat) (held : Option Int) :
    (u.txnMeter alpha held).revGiven = (u.meter.revGiven || decide (u.cfg.reverseLimit < (u.txnMeter alpha held).revSum)) := by
  unfold LaneUnit.txnMeter
  rw [Meter.takeSample_eq]
  rfl

theorem txnSampled_tank (s : State) (l : Lane) :
    (s.txnSampled l).tank (s.lane l).cfg.tank =
      { (s.tank (s.lane l).cfg.tank).drawn (s.netChange l) with
        draws := recompute l ((s.txnSampled l).lane l).meter.net (s.tank (s.lane l).cfg.tank).draws } := by
  have h := booked_tank_same l (s.netChange l)
    (s.setLane l ((s.lane l).takeTxnSample (s.tank (s.lane l).cfg.tank).alpha (s.tank (s.lane l).cfg.tank).t10))
  rw [State.lane_setLane_same] at h
  rw [txnSampled_lane]
  exact h

theorem txnSampled_tank_ne (s : State) (l : Lane) {k : Tank} (h : k ≠ (s.lane l).cfg.tank) : (s.txnSampled l).tank k = s.tank k := by
  refine (booked_tank_ne l (s.netChange l) _ ?_).trans rfl
  rw [State.lane_setLane_same]
  exact h

end

/-- Settles O16: the tank takes the net change, and each outcome of the tests has its own lemma. -/
theorem transactionSampleBooksNet : Obligations.TransactionSampleBooksNet := by
  intro s l hp hm
  have hk := meterSample_figures hm
  have hnet : ((s.txnSampled l).lane l).meter.net - (s.lane l).meter.net = s.netChange l := by rw [txnSampled_lane]; rfl
  have hmeter := hk.meter l
  have hbook := hk.book (s.lane l).cfg.tank
  have hshort := hk.shortage (s.lane l).cfg.tank
  have hdrawn := hk.drawnSince (s.lane l).cfg.tank
  simp only [txnSampled_tank] at hbook hshort hdrawn
  refine ⟨_, execMeterSample_running l hp, fun k hne => ?_, ?_, ⟨fun hneg => ?_, fun hpos => ?_⟩, fun c hc h1 h2 hfit => ?_⟩
  · rw [hk.book, hk.shortage, hk.drawnSince, txnSampled_tank_ne s l hne]
    exact ⟨rfl, rfl, rfl⟩
  · rw [hdrawn, TankUnit.drawn_drawnSince, hmeter, hnet]
    rfl
  · rw [hmeter, hnet] at hneg
    rw [hbook, TankUnit.drawn_book_negative _ hneg, hmeter]
    omega
  · rw [hmeter, hnet] at hpos
    rw [hbook, hshort, hmeter, hnet]
    exact TankUnit.drawn_book_nonneg _ hpos
  · have hX := txnSampled_lane s l
    have hstate : ((s.txnSampled l).lane l).state = (s.lane l).state := by rw [hX]; rfl
    have hstage : ((s.txnSampled l).lane l).stage = (s.lane l).stage := by rw [hX]; rfl
    have hcfg : ((s.txnSampled l).lane l).cfg = (s.lane l).cfg := by rw [hX]; rfl
    have hctx : ((s.txnSampled l).lane l).ctx = some { c with figures := ((s.txnSampled l).lane l).meter.figures } := by
      rw [hX]
      simp [LaneUnit.takeTxnSample, hc]
    have hrev : ((s.txnSampled l).lane l).meter.revGiven =
        ((s.lane l).meter.revGiven || decide ((s.lane l).cfg.reverseLimit < ((s.txnSampled l).lane l).meter.revSum)) := by
      rw [hX]
      exact txnMeter_revGiven _ _ _
    have hsrc : (s.txnSampled l).source (.hose l) = s.source (.hose l) := rfl
    rw [hmeter, hbook] at hfit
    have ht := txnSample_plain hm h1 h2 (by rw [txnSampled_tank]; exact hfit)
    simp only [hmeter]
    refine ⟨fun hg hr => ?_, fun hd hr => ?_⟩
    · have h := reverseSample (by rw [hstate]; exact hm) hctx (ht.trans (by simp [hrev, hg, hr, faultIf]))
      rw [hstate, hcfg] at h
      exact h
    · have hn0 : (((s.txnSampled l).lane l).meter.revGiven && !(s.lane l).meter.revGiven) = false := by
        rw [hrev]
        rcases hr with hr | hr
        · simp [hr]
        · cases (s.lane l).meter.revGiven <;> simp [hr]
      rw [hn0] at ht
      refine ⟨fun hn => ?_, fun st hst hn hh => ?_⟩
      · have h := presetSample (hstate.trans hd) hctx hn ht
        rw [hcfg] at h
        exact h
      · have h := belowSample (hstate.trans hd) hctx (hstage.trans hst) hn ht (hh.trans (by rw [hsrc]))
        rw [hcfg] at h
        rw [h]
        refine ⟨rfl, rfl, ?_, ?_⟩
        · simp [LaneUnit.inStage]
        · show some (nextStage _ _ _ _) = _
          rw [nextStage_eq]
          split
          · rfl
          · split <;> rfl

end Sys2Proof.Machine
end

section
/-! HOOK: a lane started with its pump, and a lane ended by its nozzle (R30, R35, R36, R38, R43, R68). -/

namespace Sys2Proof.Machine

/-! ## The start of a lane (R35, R36, R68) -/

/-- A lane that enters STARTING: its consecutive-miscount count is 0 (R8, R35). -/
def LaneUnit.started (u : LaneUnit) : LaneUnit := { u with state := .starting, meter := { u.meter with consec := 0 } }

section

variable {s : State} {l : Lane}

theorem startLane_starting (h : (s.tank (s.lane l).cfg.tank).pump = .starting) : startLane l s = s.setLane l (s.lane l).started := by
  simp [startLane, joinDemand, h, LaneUnit.started]

theorem startLane_running (h : (s.tank (s.lane l).cfg.tank).pump = .running) :
    startLane l s = s.setLane l (s.lane l).started.deliver := by
  simp [startLane, joinDemand, h, LaneUnit.started]

/-- The first demand on a STOPPED pump whose ready input is released (R68). -/
theorem startLane_demands (h : (s.tank (s.lane l).cfg.tank).pump = .stopped)
    (hr : (s.tank (s.lane l).cfg.tank).rdy.level = false) :
    startLane l s =
      (s.setLane l (s.lane l).started).setTank (s.lane l).cfg.tank
        ((s.tank (s.lane l).cfg.tank).setPump .starting (some 10)) := by
  simp [startLane, joinDemand, h, hr, LaneUnit.started, Config.pumpTimeout]

/-- The first demand on a STOPPED pump whose ready input is asserted (R36, R68). -/
theorem startLane_ready (h : (s.tank (s.lane l).cfg.tank).pump = .stopped)
    (hr : (s.tank (s.lane l).cfg.tank).rdy.level = true) :
    startLane l s = pumpRunning (s.lane l).cfg.tank (s.setLane l (s.lane l).started) := by
  simp [startLane, joinDemand, h, hr, LaneUnit.started]

theorem pumpRunning_lane (k : Tank) (s : State) (j : Lane) : (pumpRunning k s).lane j = (s.lane j).hearRunning k := by
  simp [pumpRunning, State.lane]

theorem started_hearRunning (u : LaneUnit) : u.started.hearRunning u.cfg.tank = u.started.deliver :=
  if_pos ⟨rfl, rfl⟩

/-- A lane that is not STARTING on the tank does not hear its pump (R36). -/
theorem hearRunning_unstarted {u : LaneUnit} {k : Tank} (h : u.cfg.tank = k → u.state ≠ .starting) : u.hearRunning k = u :=
  if_neg fun ⟨h1, h2⟩ => h h1 h2

/-- The lanes after the first demand on a ready pump, with no other lane of the tank STARTING. -/
theorem startLane_ready_lanes (h : (s.tank (s.lane l).cfg.tank).pump = .stopped)
    (hr : (s.tank (s.lane l).cfg.tank).rdy.level = true)
    (hn : ∀ j, j ≠ l → (s.lane j).cfg.tank = (s.lane l).cfg.tank → (s.lane j).state ≠ .starting) (j : Lane) :
    (startLane l s).lane j = if j = l then (s.lane l).started.deliver else s.lane j := by
  rw [startLane_ready h hr, pumpRunning_lane]
  split
  · next hj =>
    subst hj
    rw [State.lane_setLane_same]
    exact started_hearRunning _
  · next hj =>
    rw [State.lane_setLane_ne _ _ _ _ hj]
    exact hearRunning_unstarted (hn j hj)

end

/-! ## The HOOK samples (R30) -/

/-- A lane whose debounced HOOK level is a sample's, twice seen. -/
def LaneUnit.hooked (u : LaneUnit) (level : Bool) : LaneUnit := { u with hook := ⟨level, some level, true⟩ }

theorem execHookSample_running {s : State} (l : Lane) (level : Bool) (h : s.device.phase = .running) :
    exec (.hookSample l level) s = .next (hookSample l level s) := by
  show Host.Outcome.next (s.whenRunning (hookSample l level)) = _
  rw [State.whenRunning_running _ h]

section

variable {s : State} {l : Lane} {level : Bool}

/-- The sample that agrees with the one before and changes the level raises the event. -/
theorem hookSample_event (h : (s.lane l).hook = ⟨!level, some level, true⟩) :
    hookSample l level s = hookEvent l level (s.setLane l ((s.lane l).hooked level)) := by
  simp [hookSample, h, Debounced.sample, LaneUnit.hooked]

theorem hookSample_first (h : (s.lane l).hook.last ≠ some level) :
    hookSample l level s = s.setLane l { s.lane l with hook := { (s.lane l).hook with last := some level } } := by
  simp [hookSample, Debounced.sample, h]

theorem hookSample_starts (ha : (s.lane l).state = .authorized) (h : (s.lane l).hook = ⟨false, some true, true⟩) :
    hookSample l true s = startLane l (s.setLane l ((s.lane l).hooked true)) := by
  have h1 : ((s.setLane l ((s.lane l).hooked true)).lane l).state = .authorized := by rw [State.lane_setLane_same]; exact ha
  rw [hookSample_event h]
  simp only [hookEvent, h1]

theorem hookSample_ends (ha : (s.lane l).state = .starting ∨ (s.lane l).state = .delivering)
    (h : (s.lane l).hook = ⟨true, some false, true⟩) :
    hookSample l false s = endLane l .hook (s.setLane l ((s.lane l).hooked false)) := by
  have h1 : ((s.setLane l ((s.lane l).hooked false)).lane l).state = (s.lane l).state := by rw [State.lane_setLane_same]; rfl
  rw [hookSample_event h]
  rcases ha with ha | ha <;> simp only [hookEvent, h1, ha]

end

/-! ## The record of an end (R38, R46, R51, R132) -/

section

variable {s t : State} {l : Lane} {u : LaneUnit} {c : Context} {x : Record} {r : EndReason}

/-- What a close files and tells is of the meter unit, the counters and the configuration of its lane. -/
theorem filesRecord_setLane (hm : u.meter = (s.lane l).meter) (hk : u.counters = (s.lane l).counters)
    (h : (s.setLane l u).filesRecord t l c x) : s.filesRecord t l c x := by
  unfold State.filesRecord at h ⊢
  rw [State.lane_setLane_same, hm, hk] at h
  exact h

theorem tells_setLane (hm : u.meter = (s.lane l).meter) (hcfg : u.cfg = (s.lane l).cfg) (h : x.tells (s.setLane l u) l c r) :
    x.tells s l c r := by
  unfold Record.tells at h ⊢
  rw [State.lane_setLane_same, hm, hcfg] at h
  exact h

/-- The end of a STARTING lane with a context closes its transaction. -/
theorem endLane_files (r : EndReason) (h : (s.lane l).state = .starting) (hc : (s.lane l).ctx = some c) :
    ∃ x, s.filesRecord (endLane l r s) l c x ∧ x.tells s l c r ∧
      (endLane l r s).lane l =
        { (s.lane l).setReason r with state := .settling }.afterClose { c with endReason := some r } := by
  have hd : ((s.setLane l { (s.lane l).setReason r with state := .settling }).lane l).ctx =
      some { c with endReason := some r } := by
    rw [State.lane_setLane_same]
    simp [LaneUnit.setReason, hc]
  obtain ⟨x, hf, ht⟩ := closeLane_filesRecord hd rfl
  rw [endLane_starting r h]
  refine ⟨x, filesRecord_setLane (by rfl) (by rfl) hf, tells_setLane (by rfl) (by rfl) ht, ?_⟩
  rw [closeLane_lane_same hd, State.lane_setLane_same]

theorem afterClose_isOpen (u : LaneUnit) (c : Context) : (u.afterClose c).state.isOpen = false := by
  simp only [LaneUnit.afterClose]
  split <;> rfl

end

/-- Settles O18: each pump state gives the start its shape, and an end is a close or a settling. -/
theorem hookStartsAndEndsALane : Obligations.HookStartsAndEndsALane := by
  intro s l hp
  have hlane : ∀ b, (s.setLane l ((s.lane l).hooked b)).lane l = (s.lane l).hooked b := fun b => State.lane_setLane_same _ _ _
  have hcfg : ((s.setLane l ((s.lane l).hooked true)).lane l).cfg = (s.lane l).cfg := by rw [hlane]; rfl
  refine ⟨fun ha hh hpump => ?_, fun ha hh hpump hn => ?_, fun c ha hc hh => ?_, fun c ha hc hh => ?_, fun level hh => ?_⟩
  · refine ⟨_, execHookSample_running l true hp, ?_⟩
    rw [hookSample_starts ha hh]
    cases hk : (s.tank (s.lane l).cfg.tank).pump with
    | stopped => exact absurd hk hpump
    | starting =>
      rw [startLane_starting (by rw [hcfg]; exact hk), hlane, State.setLane_setLane, State.lane_setLane_same]
      exact ⟨rfl, rfl, rfl, fun _ => ⟨rfl, rfl⟩, fun h => (nomatch h)⟩
    | running =>
      rw [startLane_running (by rw [hcfg]; exact hk), hlane, State.setLane_setLane, State.lane_setLane_same]
      exact ⟨rfl, rfl, rfl, fun h => (nomatch h), fun _ => ⟨rfl, rfl, rfl, rfl, rfl, rfl⟩⟩
  · refine ⟨_, execHookSample_running l true hp, ?_⟩
    rw [hookSample_starts ha hh]
    cases hr : (s.tank (s.lane l).cfg.tank).rdy.level with
    | false =>
      rw [startLane_demands (by rw [hcfg]; exact hpump) (by rw [hcfg]; exact hr), hlane, State.setLane_setLane, State.lane_setTank,
        State.lane_setLane_same]
      refine ⟨fun j hj => ?_, fun k hk => State.tank_setTank_ne _ _ _ _ hk, rfl, rfl, rfl, fun _ => ⟨?_, rfl, rfl, rfl⟩,
        fun h => (nomatch h)⟩
      · exact State.lane_setLane_ne s _ _ _ hj
      · exact State.tank_setTank_same _ _ _
    | true =>
      have hpump' : ((s.setLane l ((s.lane l).hooked true)).tank ((s.setLane l ((s.lane l).hooked true)).lane l).cfg.tank).pump =
          .stopped := by rw [hcfg]; exact hpump
      have hlanes := startLane_ready_lanes hpump' (by rw [hcfg]; exact hr)
        (fun j hj => by rw [hcfg, State.lane_setLane_ne _ _ _ _ hj]; exact hn j)
      have hl := hlanes l
      rw [if_pos rfl, hlane] at hl
      have ht := startLane_ready hpump' (by rw [hcfg]; exact hr)
      rw [hcfg] at ht
      rw [hl]
      refine ⟨fun j hj => ?_, fun k hk => ?_, by rw [ht]; rfl, rfl, rfl, fun h => (nomatch h),
        fun _ => ⟨?_, rfl, rfl, rfl, rfl, rfl, rfl⟩⟩
      · rw [hlanes, if_neg hj, State.lane_setLane_ne _ _ _ _ hj]
      · rw [ht]
        exact State.tank_setTank_ne s _ _ _ hk
      · rw [ht]
        exact State.tank_setTank_same s _ _
  · obtain ⟨x, hf, ht, hl⟩ := endLane_files .hook (by rw [hlane false]; exact ha) (by rw [hlane]; exact hc)
    refine ⟨_, x, execHookSample_running l false hp, ?_⟩
    rw [hookSample_ends (Or.inl ha) hh]
    refine ⟨fun j hj => ?_, by rw [hl, hlane]; rfl, by rw [hl]; exact afterClose_isOpen _ _, by rw [hl]; rfl, by rw [hl]; rfl,
      by rw [hl]; rfl, filesRecord_setLane (by rfl) (by rfl) hf, tells_setLane (by rfl) (by rfl) ht⟩
    rw [endLane_lane_ne _ _ _ _ hj, State.lane_setLane_ne _ _ _ _ hj]
  · refine ⟨_, execHookSample_running l false hp, ?_⟩
    rw [hookSample_ends (Or.inr ha) hh]
    refine ⟨fun j hj => ?_, ?_⟩
    · rw [endLane_lane_ne _ _ _ _ hj, State.lane_setLane_ne _ _ _ _ hj]
    · rw [endLane_delivering _ (by rw [hlane]; exact ha), hlane]
      refine ⟨rfl, rfl, rfl, rfl, rfl, rfl, rfl, ?_⟩
      simp [LaneUnit.settle, LaneUnit.shut, LaneUnit.setReason, LaneUnit.hooked, hc]
  · exact (execHookSample_running l level hp).trans (congrArg Host.Outcome.next (hookSample_first hh))

end Sys2Proof.Machine
end

section
/-! OPEN_LANE: the checks that pass, what they grant, and the transaction that opens (R32 to R34, R65, R101, R102, R119, R128, R129). -/

namespace Sys2Proof.Machine

/-! ## The checks that pass (R32, R33) -/

section

variable {s : State} {r : OpenRequest}

/-- Step 5 of R32 in the statement's terms. -/
theorem secondOpen_false {l : Lane} {k : Tank} {tag : Tag}
    (h : ∀ j c, j ≠ l → (s.lane j).cfg.tank = k → (s.lane j).ctx = some c → c.tag ≠ tag) : s.secondOpen l k tag = false := by
  simp only [State.secondOpen, List.any_eq_false, Bool.and_eq_true, decide_eq_true_eq, not_and, Option.any_eq_true, not_exists]
  exact fun j _ ⟨hj, hk⟩ c hc => h j c hj hk hc

/-- Step 6 of R32 with no order named, or a PENDING one of the tag and tank. -/
theorem openOrderCheck_none {n : Nat} {ord : Option Order} {tag : Tag} {k : Tank} {os : List Order}
    (h : (n = 0 ∧ ord = none) ∨
      ∃ o, ord = some o ∧ n ≠ 0 ∧ findOrder os n = some o ∧ o.claimedBy = none ∧ o.tag = tag ∧ o.tank = k) :
    namedOrder os n = ord ∧ openOrderCheck n ord tag k = none := by
  rcases h with ⟨rfl, rfl⟩ | ⟨o, rfl, hn, hf, hc, ht, hk⟩
  · exact ⟨rfl, rfl⟩
  · exact ⟨by simp [namedOrder, hn, hf], by simp [openOrderCheck, hn, hc, ht, hk]⟩

/-- Steps 1 to 6 of R32. -/
theorem openRefusal_none {i : Nat} {a : Account} (hidle : (s.lane r.lane).state = .idle) (hb : s.laneBlocked r.lane = false)
    (hz : (s.tank (s.lane r.lane).cfg.tank).zone ≠ .lowLow)
    (hg : (s.tank (s.lane r.lane).cfg.tank).cfg.gaugeFitted = true → (s.tank (s.lane r.lane).cfg.tank).gaugeValid = true)
    (ha : findAccount s.accounts.slots r.tag = some (i, a)) (hsus : a.suspended = false)
    (hperm : inSet a.permits (s.lane r.lane).cfg.tank = true)
    (hsec : s.secondOpen r.lane (s.lane r.lane).cfg.tank r.tag = false)
    (ho : openOrderCheck r.order (namedOrder s.orders.orders r.order) r.tag (s.lane r.lane).cfg.tank = none) :
    openRefusal r s = none := by
  have htank : openTankCheck (s.tank (s.lane r.lane).cfg.tank) = none := by
    simp only [openTankCheck, hz, if_false]
    cases hf : (s.tank (s.lane r.lane).cfg.tank).cfg.gaugeFitted with
    | false => rfl
    | true => simp [hg hf]
  simp [openRefusal, hidle, openStateCheck, hb, htank, ha, accountCheck, hsus, hperm, hsec, ho, firstRefusal]

end

/-- The hours check passed without a reading, with a reading in order, or by the override alone (R101, R102). -/
theorem hoursCheck_passes {a : Account} {required isSet override overridden : Bool} {hours : Option Nat} {now : Nat} {level : Nat}
    (h : (hours = none ∧ required = false ∧ overridden = false) ∨
      (∃ h, hours = some h ∧ h ≤ 9999999 ∧ overridden = false ∧ ∀ last, a.hoursLast = some last →
        last ≤ h ∧ (isSet = true → ∀ fill, a.lastFill = some fill → h - last ≤ (now - fill) / 360 + 10)) ∨
      ∃ h last fill, hours = some h ∧ h ≤ 9999999 ∧ overridden = true ∧ override = true ∧ level = 0 ∧
        a.hoursLast = some last ∧ last ≤ h ∧ isSet = true ∧ a.lastFill = some fill ∧ (now - fill) / 360 + 10 < h - last) :
    ∃ x, hoursCheck a required hours (if isSet then some now else none) (override && decide (level = 0)) = x ∧ x ≠ .refused ∧
      decide (x = .noHours) = hours.isNone ∧ decide (x = .overridden) = overridden := by
  rcases h with ⟨rfl, rfl, rfl⟩ | ⟨h, rfl, hmax, rfl, hlast⟩ | ⟨h, last, fill, rfl, hmax, rfl, rfl, rfl, hl, hle, rfl, hf, hgap⟩
  · exact ⟨.noHours, rfl, by decide, rfl, rfl⟩
  · refine ⟨.pass, ?_, by decide, rfl, rfl⟩
    have hm : ¬ 9999999 < h := by omega
    cases hl : a.hoursLast with
    | none => simp [hoursCheck, Config.maxHours, hm, hl]
    | some last =>
      obtain ⟨hle, hgap⟩ := hlast last hl
      have hle' : ¬ h < last := by omega
      cases hs : isSet with
      | false => simp [hoursCheck, Config.maxHours, hm, hl, hle']
      | true =>
        cases hf : a.lastFill with
        | none => simp [hoursCheck, Config.maxHours, hm, hl, hle', hf]
        | some fill =>
          have hg : h - last ≤ gapAllowed now fill := hgap hs fill hf
          simp [hoursCheck, Config.maxHours, hm, hl, hle', hf, hg]
  · refine ⟨.overridden, ?_, by decide, rfl, rfl⟩
    have hm : ¬ 9999999 < h := by omega
    have hle' : ¬ h < last := by omega
    have hg : ¬ h - last ≤ gapAllowed now fill := by
      show ¬ h - last ≤ (now - fill) / 360 + 10
      omega
    simp [hoursCheck, Config.maxHours, hm, hl, hle', hf, hg]

/-- Step 8: the preset of the request, of the order, or of a FUEL machine's capacity (R33). -/
theorem choosePreset_chosen {asked : Option Nat} {ord : Option Order} {cls : ProductClass} {capacity p : Nat}
    (h : (asked = some p ∧ 1 ≤ p ∧ p ≤ 2000000) ∨ (asked = none ∧ ord.map (fun o => o.volume) = some p) ∨
      (asked = none ∧ ord = none ∧ cls = .fuel ∧ p = capacity)) : choosePreset asked ord cls capacity = some p := by
  rcases h with ⟨rfl, h1, h2⟩ | ⟨rfl, h⟩ | ⟨rfl, rfl, rfl, rfl⟩
  · have hw : within 1 Config.maxPreset p = true := (within_iff _ _ _).2 ⟨h1, h2⟩
    simp [choosePreset, hw]
  · cases ord with
    | none => cases h
    | some o => exact h
  · rfl

/-- Step 9: the volume asked, or what the stock has left above the minimum fill (R65). -/
theorem grant_granted {k : TankUnit} {priority : Bool} {p1 q avail : Nat}
    (ha : avail = if priority then k.book - allocated k.draws else k.book - allocated k.draws - k.reserve)
    (h : (p1 ≤ avail ∧ q = p1) ∨ (avail < p1 ∧ k.cfg.minFill ≤ avail ∧ 0 < avail ∧ q = avail)) :
    k.grant priority p1 = some q := by
  have he : k.available priority = avail := by rw [ha, TankUnit.available]
  rcases h with ⟨h1, rfl⟩ | ⟨h1, h2, h3, rfl⟩
  · simp [TankUnit.grant, he, h1]
  · have hn : ¬ p1 ≤ q := by omega
    simp [TankUnit.grant, he, hn, h2, h3]

/-- Step 10: a free slot, or OVERWRITE (R128). -/
theorem refusesOpen_false {q : RecordQueue} (h : q.completed.length + setCount q.reserved < 64 ∨ q.policy = .overwrite) :
    q.refusesOpen = false := by
  rcases h with h | h
  · have hf : q.free ≠ 0 := by
      show 64 - (q.completed.length + setCount q.reserved) ≠ 0
      omega
    simp [RecordQueue.refusesOpen, hf]
  · simp [RecordQueue.refusesOpen, h]

/-! ## The transaction that opens (R16, R34, R35, R64, R119, R129) -/

/-- What an accepted OPEN_LANE leaves in its blocks, with HOOK released or asserted; x is the stage that the context holds. -/
structure State.Opens (s t : State) (r : OpenRequest) (g : OpenGrant) (x : Option Stage) : Prop where
  ctx : (t.lane r.lane).ctx =
    some { openContext r g s.stamp ((s.lane r.lane).meter.opening (s.tank (s.lane r.lane).cfg.tank).t10).figures with stageAtEnd := x }
  meter : (t.lane r.lane).meter =
    { (s.lane r.lane).meter.opening (s.tank (s.lane r.lane).cfg.tank).t10 with consec := (t.lane r.lane).meter.consec }
  records : t.records = s.records.reserve r.lane
  draws : (t.tank (s.lane r.lane).cfg.tank).draws =
    (s.tank (s.lane r.lane).cfg.tank).draws ++ [{ lane := r.lane, alloc := g.preset, remaining := g.preset }]
  book : (t.tank (s.lane r.lane).cfg.tank).book = (s.tank (s.lane r.lane).cfg.tank).book
  orders : t.orders.orders = if r.order = 0 then s.orders.orders else claimOrder r.order r.lane s.orders.orders
  accounts : t.accounts = s.accounts

section

variable {s : State} {r : OpenRequest} {g : OpenGrant}

theorem grantOpen_lane (r : OpenRequest) (g : OpenGrant) (s : State) :
    (grantOpen r g s).lane r.lane =
      (s.lane r.lane).authorize r g s.stamp (s.tank (s.lane r.lane).cfg.tank).t10 :=
  State.lane_setLane_same s _ _

theorem grantOpen_lane_ne (r : OpenRequest) (g : OpenGrant) (s : State) {j : Lane} (h : j ≠ r.lane) :
    (grantOpen r g s).lane j = s.lane j :=
  State.lane_setLane_ne s _ _ _ h

theorem grantOpen_tank (r : OpenRequest) (g : OpenGrant) (s : State) :
    (grantOpen r g s).tank (s.lane r.lane).cfg.tank =
      { s.tank (s.lane r.lane).cfg.tank with
        draws := (s.tank (s.lane r.lane).cfg.tank).draws ++ [{ lane := r.lane, alloc := g.preset, remaining := g.preset }] } :=
  State.tank_setTank_same s _ _

theorem grantOpen_opens (r : OpenRequest) (g : OpenGrant) (s : State) : s.Opens (grantOpen r g s) r g none where
  ctx := by rw [grantOpen_lane]; rfl
  meter := by rw [grantOpen_lane]; rfl
  records := rfl
  draws := by rw [grantOpen_tank]
  book := by rw [grantOpen_tank]
  orders := rfl
  accounts := rfl

/-- A pump that moves leaves the rest of its tank and every other tank. -/
theorem setPump_tank (s : State) (k : Tank) (p : PumpState) (timer : Timer) (j : Tank) :
    ((s.setTank k ((s.tank k).setPump p timer)).tank j).draws = (s.tank j).draws ∧
      ((s.setTank k ((s.tank k).setPump p timer)).tank j).book = (s.tank j).book := by
  by_cases h : j = k
  · rw [h, State.tank_setTank_same]
    exact ⟨rfl, rfl⟩
  · rw [State.tank_setTank_ne _ _ _ _ h]
    exact ⟨rfl, rfl⟩

/-- What the start of a lane leaves: STARTING, or DELIVERING in its first stage, and no book, list or record (R35, R36, R68). -/
theorem startLane_leaves (l : Lane) (s : State) :
    ((startLane l s).lane l = (s.lane l).started ∨ (startLane l s).lane l = (s.lane l).started.deliver) ∧
      (startLane l s).records = s.records ∧ (startLane l s).orders = s.orders ∧ (startLane l s).accounts = s.accounts ∧
      ∀ k, ((startLane l s).tank k).draws = (s.tank k).draws ∧ ((startLane l s).tank k).book = (s.tank k).book := by
  cases h : (s.tank (s.lane l).cfg.tank).pump with
  | starting =>
    rw [startLane_starting h]
    exact ⟨Or.inl (State.lane_setLane_same _ _ _), rfl, rfl, rfl, fun _ => ⟨rfl, rfl⟩⟩
  | running =>
    rw [startLane_running h]
    exact ⟨Or.inr (State.lane_setLane_same _ _ _), rfl, rfl, rfl, fun _ => ⟨rfl, rfl⟩⟩
  | stopped =>
    cases hr : (s.tank (s.lane l).cfg.tank).rdy.level with
    | false =>
      rw [startLane_demands h hr]
      exact ⟨Or.inl (State.lane_setLane_same s _ _), rfl, rfl, rfl, setPump_tank s _ _ _⟩
    | true =>
      rw [startLane_ready h hr, pumpRunning_lane, State.lane_setLane_same]
      exact ⟨Or.inr (started_hearRunning _), rfl, rfl, rfl, setPump_tank s _ _ _⟩

/-- A start after the acceptance leaves the transaction opened, its lane STARTING or DELIVERING (R34, R35). -/
theorem startLane_opens (r : OpenRequest) (g : OpenGrant) (s : State) :
    ∃ x, s.Opens (startLane r.lane (grantOpen r g s)) r g x ∧
      (((startLane r.lane (grantOpen r g s)).lane r.lane).state = .starting ∨
        ((startLane r.lane (grantOpen r g s)).lane r.lane).state = .delivering) ∧
      ((startLane r.lane (grantOpen r g s)).lane r.lane).meter.consec = 0 := by
  have ho := grantOpen_opens r g s
  obtain ⟨hl, hrec, hord, hacc, htank⟩ := startLane_leaves r.lane (grantOpen r g s)
  obtain ⟨hdraws, hbook⟩ := htank (s.lane r.lane).cfg.tank
  have key : ∀ x,
      ((startLane r.lane (grantOpen r g s)).lane r.lane).ctx =
        some { openContext r g s.stamp ((s.lane r.lane).meter.opening (s.tank (s.lane r.lane).cfg.tank).t10).figures with
          stageAtEnd := x } →
      ((startLane r.lane (grantOpen r g s)).lane r.lane).meter = ((grantOpen r g s).lane r.lane).started.meter →
      s.Opens (startLane r.lane (grantOpen r g s)) r g x := fun x hctx hm =>
    { ctx := hctx
      meter := by rw [hm, grantOpen_lane]; rfl
      records := hrec.trans ho.records
      draws := hdraws.trans ho.draws
      book := hbook.trans ho.book
      orders := by rw [hord, ho.orders]
      accounts := hacc.trans ho.accounts }
  rcases hl with hl | hl
  · refine ⟨none, key none ?_ (by rw [hl]), Or.inl (by rw [hl]; rfl), by rw [hl]; rfl⟩
    rw [hl, grantOpen_lane]
    rfl
  · refine ⟨some .lowStart, key _ ?_ (by rw [hl]; rfl), Or.inr (by rw [hl]; rfl), by rw [hl]; rfl⟩
    rw [hl, grantOpen_lane]
    rfl

end

/-! ## The reservation (R128, R129) -/

theorem reserve_reserved (q : RecordQueue) (l : Lane) : inSet (q.reserve l).reserved l = true := by
  simp only [RecordQueue.reserve, inSet_or, inSet_bit8, decide_true, Bool.or_true]

theorem reserve_free {q : RecordQueue} (l : Lane) (h : q.completed.length + setCount q.reserved < 64) :
    (q.reserve l).completed = q.completed ∧ (q.reserve l).dropped = q.dropped := by
  have hf : q.free ≠ 0 := by
    show 64 - (q.completed.length + setCount q.reserved) ≠ 0
    omega
  simp [RecordQueue.reserve, hf]

theorem reserve_full {q : RecordQueue} (l : Lane) (h : 64 ≤ q.completed.length + setCount q.reserved) :
    (q.reserve l).completed = q.completed.tail ∧ (q.reserve l).dropped = min 255 (q.dropped + 1) := by
  have hf : q.free = 0 := by
    show 64 - (q.completed.length + setCount q.reserved) = 0
    omega
  simp [RecordQueue.reserve, hf, RecordQueue.drop, satAdd]

/-- A claim takes every order of its number (R119). -/
theorem claimOrder_claimed {n : Nat} {l : Lane} {os : List Order} {o : Order} (h : o ∈ claimOrder n l os) (hn : o.number = n) :
    o.claimedBy = some l := by
  obtain ⟨p, _, rfl⟩ := List.mem_map.1 h
  split at hn
  · next hp => rw [if_pos hp]
  · next hp => exact absurd hn hp

/-! ## The answer -/

section

variable {s : State} {r : OpenRequest} {a : Account} {h : HoursResult}

theorem openChecks_passed {i : Nat} (hr : openRefusal r s = none) (ha : findAccount s.accounts.slots r.tag = some (i, a))
    (hh : hoursCheck a (s.accounts.classes.get a.cls).hoursRequired r.hours (if s.time.isSet then some s.time.clock else none)
      r.override = h) (hn : h ≠ .refused) : openChecks r s = openGrant r a h s := by
  simp only [openChecks, hr, ha, hh]

theorem openGrant_granted {ord : Option Order} {p q : Nat} (ho : namedOrder s.orders.orders r.order = ord)
    (hp : choosePreset r.preset ord (s.tank (s.lane r.lane).cfg.tank).cfg.cls a.capacity = some p)
    (hq : (s.tank (s.lane r.lane).cfg.tank).grant (ord.any (fun o => o.priority))
      (clampToCapacity (s.tank (s.lane r.lane).cfg.tank).cfg.cls a.capacity p) = some q)
    (hf : s.records.refusesOpen = false) :
    openGrant r a h s =
      .inr { preset := q, clamped := decide (q ≠ p), noHours := decide (h = .noHours), overridden := decide (h = .overridden)
             priority := ord.any (fun o => o.priority) } := by
  simp only [openGrant, ho, hp, hq, hf, Bool.false_eq_true, if_false]

theorem openAnswer_granted {g : OpenGrant} (h : openChecks r s = .inr g) :
    openAnswer r s =
      { state := acceptOpen r g s, status := if g.clamped then .clamped else .ok
        payload := .opened g.preset (s.lane r.lane).cfg.tank r.order (g.flags s.stamp.2) } := by
  simp [openAnswer, h]

/-- The acceptance by the HOOK level of the lane (R34, R35). -/
theorem acceptOpen_opens (r : OpenRequest) (g : OpenGrant) (s : State) :
    ∃ x, s.Opens (acceptOpen r g s) r g x ∧
      ((s.lane r.lane).hook.level = false →
        s.otherLanes (acceptOpen r g s) r.lane ∧ ((acceptOpen r g s).lane r.lane).state = .authorized ∧
          ((acceptOpen r g s).lane r.lane).authTimer = some (s.lane r.lane).cfg.authTime ∧ x = none) ∧
      ((s.lane r.lane).hook.level = true →
        (((acceptOpen r g s).lane r.lane).state = .starting ∨ ((acceptOpen r g s).lane r.lane).state = .delivering) ∧
          ((acceptOpen r g s).lane r.lane).meter.consec = 0) := by
  unfold acceptOpen
  cases (s.lane r.lane).hook.level with
  | false =>
    refine ⟨none, grantOpen_opens r g s, fun _ => ⟨fun j hj => grantOpen_lane_ne r g s hj, ?_, ?_, rfl⟩, fun h => (nomatch h)⟩
    · exact congrArg LaneUnit.state (grantOpen_lane r g s)
    · exact congrArg LaneUnit.authTimer (grantOpen_lane r g s)
  | true =>
    obtain ⟨x, ho, hstate, hconsec⟩ := startLane_opens r g s
    exact ⟨x, ho, fun h => (nomatch h), fun _ => ⟨hstate, hconsec⟩⟩

end

/-- What an OPEN_LANE asks of a lane, its override counted from a port of level 0 alone (R32). -/
def State.openRequest (s : State) (f : Frame) (l : Lane) (tag : Tag) (n : Nat) (preset hours : Option Nat) (override : Bool) :
    OpenRequest :=
  { lane := l, tag := tag, order := n, preset := preset, hours := hours, override := override && decide ((s.port f.port).level = 0) }

theorem openLane_exec {s : State} {f : Frame} {l : Lane} {tag : Tag} {n : Nat} {preset hours : Option Nat} {override : Bool}
    (h : s.takes f (.openLane f l.val tag n preset hours (if override then 1 else 0)) = true) :
    ∃ x : Answer, exec (.openLane f l.val tag n preset hours (if override then 1 else 0)) s =
        .next (x.state.reply f 0x28#8 x.status x.payload) ∧
      x = openAnswer (s.openRequest f l tag n preset hours override) s := by
  refine ⟨_, congrArg Host.Outcome.next (serve_of_takes h rfl), ?_⟩
  cases override <;> simp [openLaneAnswer, flagOf, State.openRequest]

/-- What an OPEN_LANE of volume p is granted where q of it is admitted (R33, R34, R65, R102). -/
def grantOf (hours : Option Nat) (ord : Option Order) (p q : Nat) (overridden : Bool) : OpenGrant :=
  { preset := q, clamped := decide (q ≠ p), noHours := hours.isNone, overridden := overridden
    priority := ord.any (fun o => o.priority) }

/-- Settles O39: every check of R32 passes, and the grant it gives opens the transaction. -/
theorem openLaneOpensATransaction : Obligations.OpenLaneOpensATransaction := by
  intro s f l tag n preset hours i a ord p q avail override overridden htakes hidle hb hz hg ha hsus hperm hsec hord hhours hp hav
    hq hrec
  obtain ⟨y, hy, rfl⟩ := openLane_exec htakes
  obtain ⟨hnamed, hoc⟩ := openOrderCheck_none hord
  have hrefusal : openRefusal (s.openRequest f l tag n preset hours override) s = none :=
    openRefusal_none hidle hb hz hg ha hsus hperm (secondOpen_false hsec) (hnamed.symm ▸ hoc)
  obtain ⟨h, hh, hne, hno, hov⟩ := hoursCheck_passes hhours
  have hchecks : openChecks (s.openRequest f l tag n preset hours override) s = .inr (grantOf hours ord p q overridden) := by
    refine ((openChecks_passed hrefusal ha hh hne).trans (openGrant_granted hnamed (choosePreset_chosen hp) (grant_granted hav hq)
      (refusesOpen_false hrec))).trans ?_
    rw [hno, hov]
    rfl
  rw [openAnswer_granted hchecks] at hy
  obtain ⟨x, ho, hreleased, hasserted⟩ :=
    acceptOpen_opens (s.openRequest f l tag n preset hours override) (grantOf hours ord p q overridden) s
  have hmeter := ho.meter
  refine ⟨_, _, hy, ?_, ho.ctx, rfl, rfl, rfl, rfl, rfl, rfl, rfl, rfl, rfl, rfl, rfl, rfl, rfl, congrArg Meter.gross hmeter,
    congrArg Meter.net hmeter, congrArg Meter.revSum hmeter, congrArg Meter.txnMiscounts hmeter, congrArg Meter.creepAcc hmeter,
    congrArg Meter.creepCond hmeter, (congrArg Meter.totalizer hmeter :), ?_, fun hfree => ?_, fun hfull => ?_, ho.draws, ho.book,
    fun hn o hmem hnum => ?_, ho.accounts, hreleased, hasserted⟩
  · have hst : (if (grantOf hours ord p q overridden).clamped then Status.clamped else .ok) = if q ≠ p then .clamped else .ok := by
      simp only [grantOf, decide_eq_true_eq]
    rw [← hst]
    exact reply_answers _ f _ _ _
  · exact (congrArg (fun z : RecordQueue => inSet z.reserved l) ho.records).trans (reserve_reserved _ _)
  · obtain ⟨h1, h2⟩ := reserve_free l hfree
    exact ⟨(congrArg RecordQueue.completed ho.records).trans h1, (congrArg RecordQueue.dropped ho.records).trans h2⟩
  · obtain ⟨h1, h2⟩ := reserve_full l hfull
    exact ⟨(congrArg RecordQueue.completed ho.records).trans h1, (congrArg RecordQueue.dropped ho.records).trans h2⟩
  · have hos : (acceptOpen (s.openRequest f l tag n preset hours override) (grantOf hours ord p q overridden) s).orders.orders =
        claimOrder n l s.orders.orders := ho.orders.trans (if_neg hn)
    exact claimOrder_claimed (hos ▸ hmem) hnum

end Sys2Proof.Machine
end

section
/-! Start-up: the open contexts filed in lane order, their machines booked, the active deliveries abandoned, and every volatile item
at its start-up value (R90, R108, R127, R131, R135, R171 to R174). -/

namespace Sys2Proof.Machine

/-! ## One context filed (R172, step 2) -/

/-- A state that differs from another in its lanes, records and accounts alone. -/
def State.filesOnly (s t : State) : Prop := t = { s with lanes := t.lanes, records := t.records, accounts := t.accounts }

theorem powerLostBooking_eq (c : Context) (k : Tank) (s : State) :
    powerLostBooking c k s = { s with accounts := (powerLostBooking c k s).accounts } := by
  unfold powerLostBooking; split <;> rfl

theorem fileContext_none {l : Lane} {s : State} (h : (s.lane l).ctx = none) : fileContext l s = s := by
  simp [fileContext, h]

theorem fileContext_some {l : Lane} {s : State} {c : Context} (h : (s.lane l).ctx = some c) :
    fileContext l s =
      { s with
        lanes := s.lanes.set l { s.lane l with ctx := none }
        records := { s.records with reserved := s.records.reserved ||| bit8 l }.file
          (powerLostRecord l (s.lane l) c s.cal.changes)
        accounts := (powerLostBooking c (s.lane l).cfg.tank s).accounts } := by
  simp only [fileContext, h]
  rw [powerLostBooking_eq]
  rfl

theorem fileContext_filesOnly (l : Lane) (s : State) : s.filesOnly (fileContext l s) := by
  cases h : (s.lane l).ctx with
  | none => rw [fileContext_none h]; rfl
  | some c => rw [fileContext_some h]; rfl

theorem fileContext_lane (l j : Lane) (s : State) :
    (fileContext l s).lane j = if j = l then { s.lane l with ctx := none } else s.lane j := by
  cases h : (s.lane l).ctx with
  | none =>
    rw [fileContext_none h]
    split
    · rename_i e; rw [e, ← h]
    · rfl
  | some c => rw [fileContext_some h]; exact Eight.get_set _ _ _ _

theorem fileContext_lane_ne {l j : Lane} (s : State) (h : j ≠ l) : (fileContext l s).lane j = s.lane j := by
  rw [fileContext_lane, if_neg h]

/-! ## Several contexts filed in order -/

/-- The contexts of some lanes filed in order. -/
def fileEach (as : List Lane) (s : State) : State := as.foldl (fun s l => fileContext l s) s

theorem fileContexts_eq (s : State) : fileContexts s = fileEach allEight s := rfl

theorem fileEach_cons (a : Lane) (as : List Lane) (s : State) : fileEach (a :: as) s = fileEach as (fileContext a s) := rfl

theorem fileEach_append (as bs : List Lane) (s : State) : fileEach (as ++ bs) s = fileEach bs (fileEach as s) :=
  List.foldl_append

theorem fileEach_filesOnly (as : List Lane) (s : State) : s.filesOnly (fileEach as s) :=
  foldl_keeps_prop (State.filesOnly s) _ (fun t l (ht : t = _) => by
    unfold State.filesOnly
    rw [show fileContext l t = _ from fileContext_filesOnly l t]
    rw [ht]) as s rfl

theorem fileEach_lane (as : List Lane) (s : State) (j : Lane) :
    (fileEach as s).lane j = if j ∈ as then { s.lane j with ctx := none } else s.lane j := by
  induction as generalizing s with
  | nil => rfl
  | cons a as ih =>
    rw [fileEach_cons, ih, fileContext_lane]
    by_cases h : j = a <;> simp [h]

theorem fileEach_lane_not_mem {as : List Lane} (s : State) {j : Lane} (h : j ∉ as) : (fileEach as s).lane j = s.lane j := by
  rw [fileEach_lane, if_neg h]

/-- The records that a start-up files for some lanes of s, in order, and the numbers they take (R131, R135). -/
structure State.FilesLost (s t : State) (as : List Lane) (rs : List Record) : Prop where
  completed : t.records.completed = s.records.completed ++ rs
  lanes : rs.map (fun r => r.lane) = as.filter (fun l => (s.lane l).ctx.isSome)
  tells : ∀ r ∈ rs, r.endReason = .powerLost ∧ r.endTime = 0 ∧ r.flags.clockUnset = true ∧ r.flags.service = false ∧
    ∃ c, (s.lane r.lane).ctx = some c ∧ r.tag = c.tag ∧ r.order = c.order ∧ r.net = c.figures.net ∧
      r.gross = c.figures.gross ∧ r.preset = c.effPreset ∧ r.stageAtEnd = c.stageAtEnd
  policy : t.records.policy = s.records.policy
  threshold : t.records.threshold = s.records.threshold
  dropped : t.records.dropped = s.records.dropped
  reserved : s.records.reserved = 0#8 → t.records.reserved = 0#8
  numbers : 1 ≤ s.records.next → s.records.next ≤ 4294967295 →
    rs.map (fun r => r.number) = (List.range rs.length).map (fun i => (s.records.next - 1 + i) % 4294967295 + 1) ∧
      t.records.next = (s.records.next - 1 + rs.length) % 4294967295 + 1

/-- The number after n, in the form of R131's run. -/
theorem nextNumber_eq {n : Nat} (h1 : 1 ≤ n) (h2 : n ≤ 4294967295) : nextNumber Config.max32 n = n % 4294967295 + 1 := by
  unfold nextNumber Config.max32
  split <;> omega

/-- Numbers that run on from n: the first is n, and the rest run on from the number after it (R131). -/
theorem runOn_cons (n k : Nat) (h1 : 1 ≤ n) (h2 : n ≤ 4294967295) :
    (List.range (k + 1)).map (fun i => (n - 1 + i) % 4294967295 + 1) =
      n :: (List.range k).map (fun i => (n % 4294967295 + 1 - 1 + i) % 4294967295 + 1) := by
  rw [List.range_succ_eq_map, List.map_cons, List.map_map]
  congr 1
  · omega
  · apply List.map_congr_left
    intro i _
    simp only [Function.comp]
    omega

/-- The record filed for one context. -/
theorem fileContext_records {l : Lane} {s : State} {c : Context} (h : (s.lane l).ctx = some c) :
    (fileContext l s).records =
      { s.records.file (powerLostRecord l (s.lane l) c s.cal.changes) with
        reserved := (s.records.reserved ||| bit8 l) &&& ~~~(bit8 l) } := by
  rw [fileContext_some h]; rfl

theorem fileEach_filesLost (as : List Lane) (s : State) (hn : as.Nodup) : ∃ rs, s.FilesLost (fileEach as s) as rs := by
  induction as generalizing s with
  | nil =>
    refine ⟨[], (List.append_nil _).symm, rfl, fun _ h => absurd h List.not_mem_nil, rfl, rfl, rfl, id, fun h1 h2 => ⟨rfl, ?_⟩⟩
    show s.records.next = (s.records.next - 1 + 0) % 4294967295 + 1
    omega
  | cons a as ih =>
    obtain ⟨ha, hn⟩ := List.nodup_cons.1 hn
    obtain ⟨rs, h⟩ := ih (fileContext a s) hn
    have hlane : ∀ j ∈ as, (fileContext a s).lane j = s.lane j := fun j hj =>
      fileContext_lane_ne s (fun e => ha (e ▸ hj))
    have hfilter : as.filter (fun l => ((fileContext a s).lane l).ctx.isSome) = as.filter (fun l => (s.lane l).ctx.isSome) :=
      List.filter_congr (fun j hj => by rw [hlane j hj])
    have htells : ∀ r ∈ rs, (fileContext a s).lane r.lane = s.lane r.lane := fun r hr => by
      have hm : r.lane ∈ as.filter _ := h.lanes ▸ List.mem_map.2 ⟨r, hr, rfl⟩
      exact hlane _ (List.mem_filter.1 hm).1
    cases hc : (s.lane a).ctx with
    | none =>
      rw [fileEach_cons]
      rw [fileContext_none hc] at h ⊢
      exact ⟨rs, h.completed, by rw [h.lanes, List.filter_cons_of_neg (by simp [hc])], h.tells, h.policy, h.threshold, h.dropped,
        h.reserved, h.numbers⟩
    | some c =>
      have hq := fileContext_records hc
      have hnext : (fileContext a s).records.next = nextNumber Config.max32 s.records.next := by rw [hq]; rfl
      refine ⟨{ powerLostRecord a (s.lane a) c s.cal.changes with number := s.records.next } :: rs, ?_, ?_, ?_, ?_, ?_, ?_,
        fun h0 => h.reserved ?_, fun h1 h2 => ?_⟩
      · rw [fileEach_cons, h.completed, hq]
        simp [RecordQueue.file]
      · rw [List.map_cons, h.lanes, hfilter, List.filter_cons_of_pos (by simp [hc])]
        rfl
      · intro r hr
        rcases List.mem_cons.1 hr with rfl | hr
        · exact ⟨rfl, rfl, by simp [powerLostRecord, recordFlags], rfl, c, hc, rfl, rfl, rfl, rfl, rfl, rfl⟩
        · rw [← htells r hr]; exact h.tells r hr
      · rw [fileEach_cons, h.policy, hq]; rfl
      · rw [fileEach_cons, h.threshold, hq]; rfl
      · rw [fileEach_cons, h.dropped, hq]; rfl
      · simp [hq, h0]
      · rw [nextNumber_eq h1 h2] at hnext
        obtain ⟨hnum, hlast⟩ := h.numbers (by omega) (by omega)
        rw [hnext] at hnum hlast
        refine ⟨?_, ?_⟩
        · rw [List.map_cons, hnum, List.length_cons, runOn_cons _ _ h1 h2]
        · rw [fileEach_cons, hlast, List.length_cons]
          omega

/-! ## The machines of the filed contexts (R93, R95, R108) -/

theorem findAccount_tag {xs : List (Nat × Account)} {tag : Tag} {i : Nat} {a : Account} (h : findAccount xs tag = some (i, a)) :
    (i, a) ∈ xs ∧ i / 4 = bucketOf tag ∧ a.tag = tag := by
  have hp := List.find?_some h
  simp only [Bool.and_eq_true, decide_eq_true_eq] at hp
  exact ⟨List.mem_of_find?_eq_some h, hp⟩

/-- An entry found by its tag and written back is found in its place (R95). -/
theorem findAccount_putSlot_same {xs : List (Nat × Account)} {tag : Tag} {i : Nat} {a b : Account}
    (h : findAccount xs tag = some (i, a)) (hb : b.tag = tag) : findAccount (putSlot i b xs) tag = some (i, b) := by
  have hi := (findAccount_tag h).2.1
  have hhead : ∀ ys, findAccount ((i, b) :: ys) tag = some (i, b) := fun ys => by simp [findAccount, hi, hb]
  induction xs with
  | nil => cases h
  | cons e xs ih =>
    unfold putSlot
    split
    · exact hhead _
    · split
      · exact hhead _
      · rename_i hne
        unfold findAccount at h ⊢
        rw [List.find?_cons] at h ⊢
        split at h
        · cases h; exact absurd rfl hne
        · exact ih h

/-- In a table in slot order an occupied slot is written in place (R93). -/
theorem putSlot_eq_map {xs : List (Nat × Account)} {i : Nat} (b : Account) (hs : (xs.map (fun e => e.1)).Pairwise (· < ·))
    (hi : i ∈ xs.map (fun e => e.1)) : putSlot i b xs = xs.map (fun e => if e.1 = i then (i, b) else e) := by
  induction xs with
  | nil => cases hi
  | cons e xs ih =>
    rw [List.map_cons, List.pairwise_cons] at hs
    obtain ⟨he, hs⟩ := hs
    have hrest : ∀ d ∈ xs, e.1 < d.1 := fun d hd => he _ (List.mem_map.2 ⟨d, hd, rfl⟩)
    unfold putSlot
    by_cases hie : i = e.1
    · rw [if_neg (by omega), if_pos hie, List.map_cons, if_pos hie.symm]
      congr 1
      symm
      exact (List.map_congr_left fun d hd => if_neg (by have := hrest d hd; omega)).trans (List.map_id _)
    · have hm : i ∈ xs.map (fun e => e.1) := by simpa [hie] using hi
      have hlt := he _ hm
      rw [if_neg (by omega), if_neg hie, List.map_cons, if_neg (fun h => hie h.symm), ih hs hm]

/-- An entry of an ordered table is the only one in its slot. -/
theorem slot_unique {xs : List (Nat × Account)} (hs : (xs.map (fun e => e.1)).Pairwise (· < ·)) {e d : Nat × Account}
    (he : e ∈ xs) (hd : d ∈ xs) (h : e.1 = d.1) : e = d := by
  have hinj : xs.Pairwise (fun e d => e.1 < d.1) := List.pairwise_map.1 hs
  have hnodup : (xs.map (fun e => e.1)).Nodup := hs.imp (fun h => Nat.ne_of_lt h)
  exact List.inj_on_of_nodup_map hnodup he hd h

section

variable {s : State} {c : Context} {k : Tank}

/-- A start-up booking leaves the occupied slots, and every entry of another tag, as they were. -/
theorem powerLostBooking_others (h : AccountLaw s) :
    (powerLostBooking c k s).accounts.slots.map (fun e => e.1) = s.accounts.slots.map (fun e => e.1) ∧
      (∀ e ∈ s.accounts.slots, c.tag ≠ e.2.tag → e ∈ (powerLostBooking c k s).accounts.slots) ∧
      ∀ tag, c.tag ≠ tag → findAccount (powerLostBooking c k s).accounts.slots tag = findAccount s.accounts.slots tag := by
  unfold powerLostBooking
  split
  · exact ⟨rfl, fun _ he _ => he, fun _ _ => rfl⟩
  · rename_i i a hf
    obtain ⟨hm, _, ht⟩ := findAccount_tag hf
    dsimp only
    rw [putSlot_eq_map _ h (List.mem_map.2 ⟨_, hm, rfl⟩)]
    have hother : ∀ e ∈ s.accounts.slots, c.tag ≠ e.2.tag → e.1 ≠ i := fun e he hne heq =>
      hne (ht ▸ congrArg (fun e : Nat × Account => e.2.tag) (slot_unique h hm he heq.symm))
    refine ⟨?_, fun e he hne => List.mem_map.2 ⟨e, he, if_neg (hother e he hne)⟩, fun tag hne => ?_⟩
    · rw [List.map_map]
      apply List.map_congr_left
      intro e _
      simp only [Function.comp]
      split
      · rename_i e'; exact e'.symm
      · rfl
    · unfold findAccount
      have hstep : ∀ xs : List (Nat × Account), (∀ e ∈ xs, e ∈ s.accounts.slots) →
          (xs.map (fun e => if e.1 = i then (i, bookPowerLost a (s.tank k).cfg.cls c.figures.net c.hours) else e)).find?
              (fun e => decide (e.1 / 4 = bucketOf tag) && decide (e.2.tag = tag)) =
            xs.find? (fun e => decide (e.1 / 4 = bucketOf tag) && decide (e.2.tag = tag)) := by
        intro xs hxs
        induction xs with
        | nil => rfl
        | cons e xs ih =>
          rw [List.map_cons, List.find?_cons, List.find?_cons, ih (fun d hd => hxs d (List.mem_cons_of_mem _ hd))]
          by_cases hei : e.1 = i
          · have : e = (i, a) := slot_unique h (hxs e List.mem_cons_self) hm hei
            subst this
            simp [bookPowerLost, bookTotals, ht, hne]
          · rw [if_neg hei]
      exact hstep _ (fun _ h => h)

theorem fileContext_accounts (l : Lane) (s : State) :
    (fileContext l s).accounts =
      match (s.lane l).ctx with
      | none => s.accounts
      | some c => (powerLostBooking c (s.lane l).cfg.tank s).accounts := by
  cases h : (s.lane l).ctx with
  | none => rw [fileContext_none h]
  | some c => rw [fileContext_some h]

theorem fileContext_others (l : Lane) (h : AccountLaw s) :
    (fileContext l s).accounts.slots.map (fun e => e.1) = s.accounts.slots.map (fun e => e.1) ∧
      (∀ e ∈ s.accounts.slots, (∀ c, (s.lane l).ctx = some c → c.tag ≠ e.2.tag) → e ∈ (fileContext l s).accounts.slots) ∧
      ∀ tag, (∀ c, (s.lane l).ctx = some c → c.tag ≠ tag) →
        findAccount (fileContext l s).accounts.slots tag = findAccount s.accounts.slots tag := by
  rw [fileContext_accounts]
  cases hc : (s.lane l).ctx with
  | none => exact ⟨rfl, fun _ he _ => he, fun _ _ => rfl⟩
  | some c =>
    obtain ⟨h1, h2, h3⟩ := powerLostBooking_others (c := c) (k := (s.lane l).cfg.tank) h
    exact ⟨h1, fun e he hne => h2 e he (hne c rfl), fun tag hne => h3 tag (hne c rfl)⟩

/-- The accounts of machines that have no context among the lanes filed stay (R93, R108). -/
theorem fileEach_others (as : List Lane) (s : State) (h : AccountLaw s) :
    (fileEach as s).accounts.slots.map (fun e => e.1) = s.accounts.slots.map (fun e => e.1) ∧
      (∀ e ∈ s.accounts.slots, (∀ l ∈ as, ∀ c, (s.lane l).ctx = some c → c.tag ≠ e.2.tag) →
        e ∈ (fileEach as s).accounts.slots) ∧
      ∀ tag, (∀ l ∈ as, ∀ c, (s.lane l).ctx = some c → c.tag ≠ tag) →
        findAccount (fileEach as s).accounts.slots tag = findAccount s.accounts.slots tag := by
  induction as generalizing s with
  | nil => exact ⟨rfl, fun _ he _ => he, fun _ _ => rfl⟩
  | cons a as ih =>
    obtain ⟨h1, h2, h3⟩ := fileContext_others a h
    obtain ⟨g1, g2, g3⟩ := ih (fileContext a s) ((fileContext_keeps a (.refl s)).account h)
    have hctx : ∀ l d, ((fileContext a s).lane l).ctx = some d → (s.lane l).ctx = some d := fun l d hd => by
      rw [fileContext_lane] at hd
      split at hd
      · cases hd
      · exact hd
    refine ⟨g1.trans h1, fun e he hne => g2 e (h2 e he (hne a List.mem_cons_self)) fun l hl d hd => ?_, fun tag hne => ?_⟩
    · exact hne l (List.mem_cons_of_mem _ hl) d (hctx l d hd)
    · rw [fileEach_cons, g3 tag fun l hl d hd => hne l (List.mem_cons_of_mem _ hl) d (hctx l d hd),
        h3 tag (hne a List.mem_cons_self)]

/-- The machine of the one context of its tag is booked once (R108). -/
theorem fileContexts_books {l : Lane} {i : Nat} {a : Account} (h : AccountLaw s) (hc : (s.lane l).ctx = some c)
    (hu : ∀ j d, j ≠ l → (s.lane j).ctx = some d → d.tag ≠ c.tag) (ha : findAccount s.accounts.slots c.tag = some (i, a)) :
    findAccount (fileContexts s).accounts.slots c.tag =
      some (i, bookPowerLost a (s.tank (s.lane l).cfg.tank).cfg.cls c.figures.net c.hours) := by
  obtain ⟨as, bs, hab⟩ := List.append_of_mem (mem_allEight l)
  have hn := allEight_nodup
  rw [hab, List.nodup_append] at hn
  obtain ⟨_, hlbs, hdis⟩ := hn
  have hlas : l ∉ as := fun hl => hdis l hl l List.mem_cons_self rfl
  have hlbs : l ∉ bs := (List.nodup_cons.1 hlbs).1
  rw [fileContexts_eq, hab, fileEach_append, fileEach_cons]
  have h1 : AccountLaw (fileEach as s) :=
    (foldl_keeps_prop (KeepsTables s) _ (fun _ j hu => fileContext_keeps j hu) as s (.refl s)).account h
  have hlane := fileEach_lane_not_mem s hlas
  have htank : (fileEach as s).tank (s.lane l).cfg.tank = s.tank (s.lane l).cfg.tank := by
    rw [show fileEach as s = _ from fileEach_filesOnly as s]; rfl
  have hfind : findAccount (fileEach as s).accounts.slots c.tag = some (i, a) := by
    rw [(fileEach_others as s h).2.2 c.tag fun j hj d hd => hu j d (fun e => hlas (e ▸ hj)) hd, ha]
  have hbook : findAccount (fileContext l (fileEach as s)).accounts.slots c.tag =
      some (i, bookPowerLost a (s.tank (s.lane l).cfg.tank).cfg.cls c.figures.net c.hours) := by
    rw [fileContext_accounts, hlane, hc]
    simp only [powerLostBooking, hfind, htank]
    exact findAccount_putSlot_same hfind (findAccount_tag ha).2.2
  rw [(fileEach_others bs _ ((fileContext_keeps l (.refl _)).account h1)).2.2 c.tag fun j hj d hd => ?_, hbook]
  have hjl : j ≠ l := fun e => hlbs (e ▸ hj)
  rw [fileContext_lane_ne _ hjl, fileEach_lane] at hd
  split at hd
  · cases hd
  · exact hu j d hjl hd

end

/-! ## The state after a start-up (R171, R172) -/

/-- A start-up changes the device, its volatile items, and what the open contexts and active deliveries leave. -/
theorem startUp_eq (cause : StartCause) (straps : BitVec 2) (s : State) :
    startUp cause straps s =
      { resetVolatile cause straps (checkMarker s) with
        lanes := (checkMarker s).lanes.map (fun u => { u.atStartUp with ctx := none })
        records := (fileContexts (resetVolatile cause straps (checkMarker s))).records
        accounts := (fileContexts (resetVolatile cause straps (checkMarker s))).accounts
        deliveries :=
          { (checkMarker s).deliveries with
            entries := (checkMarker s).deliveries.entries.map
              (DeliveryEntry.afterStartUp (resetVolatile cause straps (checkMarker s)).stamp) } } := by
  have hl : (fileContexts (resetVolatile cause straps (checkMarker s))).lanes =
      (checkMarker s).lanes.map (fun u => { u.atStartUp with ctx := none }) := by
    apply Eight.ext_get
    intro j
    have := fileEach_lane allEight (resetVolatile cause straps (checkMarker s)) j
    rw [if_pos (mem_allEight j), resetVolatile_lane] at this
    rw [Eight.get_map]
    exact this
  have hf := fileEach_filesOnly allEight (resetVolatile cause straps (checkMarker s))
  rw [State.filesOnly, ← fileContexts_eq, hl] at hf
  rw [startUp, abandonDeliveries]
  rw [hf]
  simp only [resetVolatile, List.map_map, Function.comp_def, abandonAtStartUp_afterStartUp]
  rfl

theorem LaneUnit.atStartUp_closed_fresh (u : LaneUnit) : ({ u.atStartUp with ctx := none } : LaneUnit).fresh :=
  LaneUnit.atStartUp_fresh (u := { u with ctx := none }) rfl

theorem DeliveryEntry.afterStartUp_inactive (stamp : Nat × Bool) (e : DeliveryEntry) :
    (e.afterStartUp stamp).state.active = false ∧ (e.afterStartUp stamp).timer = none ∧ (e.afterStartUp stamp).waited = none := by
  unfold DeliveryEntry.afterStartUp
  split
  · exact ⟨rfl, rfl, rfl⟩
  · rename_i h; exact ⟨Bool.eq_false_iff.2 h, rfl, rfl⟩

/-- Whatever began it, a start-up leaves every volatile item at its start-up value. -/
theorem startUp_started (cause : StartCause) (straps : BitVec 2) (s : State) : (startUp cause straps s).started straps := by
  obtain ⟨rs, hf⟩ := fileEach_filesLost allEight (resetVolatile cause straps (checkMarker s)) allEight_nodup
  rw [← fileContexts_eq] at hf
  rw [startUp_eq]
  refine ⟨rfl, rfl, by cases cause <;> rfl, rfl, fun l => ?_, fun k => ?_, fun i => ?_, rfl, rfl, rfl, rfl, hf.reserved rfl, hf.dropped,
    fun e he => ?_⟩
  · simp only [State.lane, Eight.get_map]; exact LaneUnit.atStartUp_closed_fresh _
  · exact resetVolatile_tank cause straps (checkMarker s) k ▸ TankUnit.atStartUp_fresh _
  · exact resetVolatile_source cause straps (checkMarker s) i ▸ ⟨rfl, rfl, rfl, rfl⟩
  · obtain ⟨d, _, rfl⟩ := List.mem_map.1 he
    exact DeliveryEntry.afterStartUp_inactive _ d

theorem checkMarker_present {s : State} (h : s.device.formatMarker = true) : checkMarker s = s := by simp [checkMarker, h]

/-- What a start-up that finds the marker keeps of the store (R90, R93, R108, R127, R131, R143, R161, R170). -/
theorem startUp_keepsStore (straps : BitVec 2) {s : State} {d : Device} (hd : d.formatMarker = s.device.formatMarker)
    (hm : s.device.formatMarker = true) : s.keepsStore (startUp .powerOrPin straps { s with device := d }) := by
  obtain ⟨s', hs'⟩ : ∃ s', s' = resetVolatile .powerOrPin straps { s with device := d } := ⟨_, rfl⟩
  have hctx : ∀ l, (s'.lane l).ctx = (s.lane l).ctx := fun l => by rw [hs', resetVolatile_lane]; rfl
  obtain ⟨rs, hf⟩ := fileEach_filesLost allEight s' allEight_nodup
  have ho := fileEach_others allEight s'
  rw [← fileContexts_eq] at hf ho
  have hsame : (∀ l, (s.lane l).ctx = none) → fileContexts s' = s' := fun h =>
    fileContexts_of_no_context fun l => by rw [hctx]; exact h l
  rw [startUp_eq, checkMarker_present (s := { s with device := d }) (hd.trans hm), ← hs']
  refine ⟨?_, fun k => ?_, fun l => ?_, ?_, ?_, ?_, ?_, ?_, ?_, ?_, ?_, ?_, ?_, fun i => ?_, fun i => ?_, ?_, ?_, ?_, fun ha => ?_,
    fun hc => ?_⟩
  · rw [hs']; exact hd
  · have := resetVolatile_tank .powerOrPin straps { s with device := d } k
    rw [← hs'] at this
    simp only [State.tank] at this ⊢
    rw [this]
    exact ⟨rfl, rfl, rfl, rfl, rfl, rfl⟩
  · simp only [State.lane, Eight.get_map]
    exact ⟨rfl, rfl, rfl⟩
  · rw [hs']; rfl
  · rw [hs']; rfl
  · have h : (fileContexts s').accounts.classes = s'.accounts.classes :=
      foldl_keeps (fun s => s.accounts.classes) _ (fun u j => by
        rw [fileContext_accounts]
        split
        · rfl
        · unfold powerLostBooking; split <;> rfl) _ _
    exact h.trans (by rw [hs']; rfl)
  · exact hf.policy.trans (by rw [hs']; rfl)
  · exact hf.threshold.trans (by rw [hs']; rfl)
  iterate 5 (subst hs'; rfl)
  · have := resetVolatile_source .powerOrPin straps { s with device := d } i
    rw [← hs'] at this
    exact this
  · have := resetVolatile_port .powerOrPin straps { s with device := d } i
    rw [← hs'] at this
    simp only [State.port] at this ⊢
    rw [this]
    exact ⟨rfl, rfl⟩
  · rw [hs']; rfl
  · rfl
  · exact ⟨rs, by rw [hf.completed, hs']; rfl⟩
  · obtain ⟨h1, h2, _⟩ := ho (by rw [hs']; exact ha)
    rw [hs'] at h1 h2 ⊢
    exact ⟨h1, fun e he hne => h2 e he fun l _ c hc => hne l c (by rw [← hctx l, hs']; exact hc)⟩
  · rw [hsame hc, hs']
    exact ⟨rfl, rfl, rfl⟩

/-- Settles O6: every start-up leaves the start-up values, and one that finds the marker keeps the store. -/
theorem powerOnBeginsRestoring : Obligations.PowerOnBeginsRestoring := by
  intro s straps cmd hs
  obtain ⟨d, hd, he⟩ := startsUp_exec hs
  refine ⟨_, he, startUp_started _ _ _, fun i => ?_, by rw [startUp_eq]; rfl, startUp_keepsStore straps hd⟩
  have h := resetVolatile_port .powerOrPin straps (checkMarker { s with device := d }) i
  rw [startUp_eq]
  simp only [State.port] at h ⊢
  rw [h]
  exact Port.atStartUp_fresh _ _

/-- Settles O7: the records are those of the fold over the lanes, and a machine with one context is booked by it alone. -/
theorem startUpFilesPowerLostRecords : Obligations.StartUpFilesPowerLostRecords := by
  intro s straps cmd hs hm
  obtain ⟨d, hd, he⟩ := startsUp_exec hs
  obtain ⟨s', hs'⟩ : ∃ s', s' = resetVolatile .powerOrPin straps { s with device := d } := ⟨_, rfl⟩
  have hctx : ∀ l, (s'.lane l).ctx = (s.lane l).ctx := fun l => by rw [hs', resetVolatile_lane]; rfl
  have hcfg : ∀ l, (s'.lane l).cfg = (s.lane l).cfg := fun l => by rw [hs', resetVolatile_lane]; rfl
  have hcls : ∀ k, (s'.tank k).cfg = (s.tank k).cfg := fun k => by rw [hs', resetVolatile_tank]; rfl
  obtain ⟨rs, hf⟩ := fileEach_filesLost allEight s' allEight_nodup
  rw [← fileContexts_eq] at hf
  rw [startUp_eq, checkMarker_present (s := { s with device := d }) (hd.trans hm), ← hs'] at he
  have hrec : s'.records = { s.records with reserved := 0#8, dropped := 0 } := by rw [hs']; rfl
  have hnum := hf.numbers
  have hacc : s'.accounts = s.accounts := by rw [hs']; rfl
  rw [hrec] at hnum
  refine ⟨_, rs, he, by rw [hf.completed, hrec], ?_, fun r hr => ?_, by rw [hf.policy, hrec], by rw [hf.threshold, hrec],
    hf.reserved (by rw [hrec]), hnum, fun l c i a ha hc hu hfa => ?_⟩
  · simpa only [hctx] using hf.lanes
  · simpa only [hctx] using hf.tells r hr
  · have hb := fileContexts_books (s := s') (by rw [AccountLaw, hacc]; exact ha) ((hctx l).trans hc)
      (fun j e hj hje => hu j e hj ((hctx j).symm.trans hje)) (by rw [hacc]; exact hfa)
    rw [hcfg, hcls] at hb
    refine ⟨_, hb, rfl, ?_, rfl, rfl, rfl, rfl, rfl, rfl⟩
    simp only [bookPowerLost, bookTotals]
    cases c.hours with
    | none => rfl
    | some h => cases a.hoursLast <;> simp

end Sys2Proof.Machine
end

section
/-! The laws of valves, flow, inlets, records and contexts (R28, R29, R34, R69, R84, R126, R151) under the operations of the model.
Two relations carry them. Quiets says that nothing begins: no lane starts to flow, no pump to run and no inlet to open. Calms adds that
no tank falls to LOW_LOW and no source begins to block. Each operation that only ends things is shown once to extend Calms. -/

namespace Sys2Proof.Machine

/-! ## One lane, one tank, one source -/

/-- R29 of one lane. -/
def LaneUnit.meetsValveLaw (u : LaneUnit) : Prop :=
  (u.vlo = true → u.state = .delivering) ∧ (u.vhi = true → u.state = .delivering ∧ u.stage = some .high)

/-- R28, R34, R46 of one lane: a context exactly while its transaction is open. -/
def LaneUnit.meetsContextLaw (u : LaneUnit) : Prop := u.ctx.isSome = u.state.isOpen

/-- A lane that keeps its own laws and does not begin to flow. -/
structure LaneUnit.Quiets (u v : LaneUnit) : Prop where
  valve : u.meetsValveLaw → v.meetsValveLaw
  context : u.meetsContextLaw → v.meetsContextLaw
  flow : v.state.endedByTrip = true → u.state.endedByTrip = true ∧ v.cfg.tank = u.cfg.tank

/-- A tank whose pump does not start and whose inlet does not open. -/
structure TankUnit.Quiets (u v : TankUnit) : Prop where
  pump : u.pump = .stopped → v.pump = .stopped
  inlet : v.inlet = true → u.inlet = true

/-- A tank that in addition does not fall to LOW_LOW. -/
structure TankUnit.Calms (u v : TankUnit) : Prop extends TankUnit.Quiets u v where
  zone : v.zone = .lowLow → u.zone = .lowLow

/-- A source that begins to block nothing (R150). -/
def Source.Calms (x y : Source) : Prop := y.isTripped = true → x.isTripped = true ∧ y.lanes = x.lanes ∧ y.inlets = x.inlets

theorem LaneUnit.Quiets.refl (u : LaneUnit) : u.Quiets u := ⟨id, id, fun h => ⟨h, rfl⟩⟩

theorem LaneUnit.Quiets.trans {u v w : LaneUnit} (h : u.Quiets v) (g : v.Quiets w) : u.Quiets w :=
  ⟨g.valve ∘ h.valve, g.context ∘ h.context, fun hw =>
    have ⟨hv, ht⟩ := g.flow hw
    have ⟨hu, hs⟩ := h.flow hv
    ⟨hu, ht.trans hs⟩⟩

/-- A lane alike in all that its laws speak of. -/
theorem LaneUnit.quiets_of_same {u v : LaneUnit} (hs : v.state = u.state) (hst : v.stage = u.stage) (hlo : v.vlo = u.vlo)
    (hhi : v.vhi = u.vhi) (hc : v.ctx.isSome = u.ctx.isSome) (ht : v.cfg.tank = u.cfg.tank) : u.Quiets v where
  valve := fun h => by simpa only [LaneUnit.meetsValveLaw, hs, hst, hlo, hhi] using h
  context := fun h => by simpa only [LaneUnit.meetsContextLaw, hs, hc] using h
  flow := fun h => ⟨hs ▸ h, ht⟩

/-- A lane with its valves released in a state that no trip ends. -/
theorem LaneUnit.quiets_of_shut {u v : LaneUnit} (hlo : v.vlo = false) (hhi : v.vhi = false) (he : v.state.endedByTrip = false)
    (hc : u.meetsContextLaw → v.meetsContextLaw) : u.Quiets v where
  valve := fun _ => ⟨fun h => by simp [hlo] at h, fun h => by simp [hhi] at h⟩
  context := hc
  flow := fun h => by simp [he] at h

/-- Out of DELIVERING both valves are released (R29). -/
theorem LaneUnit.meetsValveLaw.released {u : LaneUnit} (h : u.meetsValveLaw) (hs : u.state ≠ .delivering) :
    u.vlo = false ∧ u.vhi = false :=
  ⟨Bool.eq_false_iff.2 fun e => hs (h.1 e), Bool.eq_false_iff.2 fun e => hs (h.2 e).1⟩

theorem LaneUnit.meetsValveLaw_of_released {u : LaneUnit} (hlo : u.vlo = false) (hhi : u.vhi = false) : u.meetsValveLaw :=
  ⟨fun h => by simp [hlo] at h, fun h => by simp [hhi] at h⟩

theorem TankUnit.Calms.refl (u : TankUnit) : u.Calms u := ⟨⟨id, id⟩, id⟩

theorem TankUnit.Calms.trans {u v w : TankUnit} (h : u.Calms v) (g : v.Calms w) : u.Calms w :=
  ⟨⟨g.pump ∘ h.pump, h.inlet ∘ g.inlet⟩, h.zone ∘ g.zone⟩

/-- A tank alike in all that the laws speak of. -/
theorem TankUnit.calms_of_same {u v : TankUnit} (hp : v.pump = u.pump) (hi : v.inlet = u.inlet) (hz : v.zone = u.zone) :
    u.Calms v := ⟨⟨hp.trans, hi.symm.trans⟩, hz.symm.trans⟩

theorem Source.Calms.refl (x : Source) : x.Calms x := fun h => ⟨h, rfl, rfl⟩

theorem Source.Calms.trans {x y z : Source} (h : x.Calms y) (g : y.Calms z) : x.Calms z := fun hz =>
  have ⟨hy, hl, hi⟩ := g hz
  have ⟨hx, kl, ki⟩ := h hy
  ⟨hx, hl.trans kl, hi.trans ki⟩

/-! ## The relations -/

/-- From s to t nothing begins to flow, to run or to open, and the lanes and the record queue keep their laws. -/
structure Quiets (s t : State) : Prop where
  lane : ∀ l, (s.lane l).Quiets (t.lane l)
  tank : ∀ k, (s.tank k).Quiets (t.tank k)
  phase : t.device.phase = s.device.phase
  record : RecordLaw s → RecordLaw t

/-- From s to t, in addition, no tank falls to LOW_LOW and nothing becomes blocked. -/
structure Calms (s t : State) : Prop where
  lane : ∀ l, (s.lane l).Quiets (t.lane l)
  tank : ∀ k, (s.tank k).Calms (t.tank k)
  source : ∀ i, (s.source i).Calms (t.source i)
  phase : t.device.phase = s.device.phase
  record : RecordLaw s → RecordLaw t

/-- Every law of valves, flow, inlets, records and contexts that holds of s holds of t. -/
structure KeepsLaws (s t : State) : Prop where
  valve : ValveLaw s → ValveLaw t
  flow : FlowLaw s → FlowLaw t
  inlet : InletLaw s → InletLaw t
  record : RecordLaw s → RecordLaw t
  context : ContextLaw s → ContextLaw t

theorem Quiets.trans {s t u : State} (h : Quiets s t) (g : Quiets t u) : Quiets s u :=
  ⟨fun l => (h.lane l).trans (g.lane l), fun k => ⟨(g.tank k).pump ∘ (h.tank k).pump, (h.tank k).inlet ∘ (g.tank k).inlet⟩,
    g.phase.trans h.phase, g.record ∘ h.record⟩

theorem Calms.refl (s : State) : Calms s s := ⟨fun _ => .refl _, fun _ => .refl _, fun _ => .refl _, rfl, id⟩

theorem Calms.trans {s t u : State} (h : Calms s t) (g : Calms t u) : Calms s u :=
  ⟨fun l => (h.lane l).trans (g.lane l), fun k => (h.tank k).trans (g.tank k), fun i => (h.source i).trans (g.source i),
    g.phase.trans h.phase, g.record ∘ h.record⟩

theorem Calms.quiets {s t : State} (h : Calms s t) : Quiets s t := ⟨h.lane, fun k => (h.tank k).toQuiets, h.phase, h.record⟩

theorem KeepsLaws.refl (s : State) : KeepsLaws s s := ⟨id, id, id, id, id⟩

theorem KeepsLaws.trans {s t u : State} (h : KeepsLaws s t) (g : KeepsLaws t u) : KeepsLaws s u :=
  ⟨g.valve ∘ h.valve, g.flow ∘ h.flow, g.inlet ∘ h.inlet, g.record ∘ h.record, g.context ∘ h.context⟩

section

variable {s t : State}

/-- R150 read off the relation: a lane blocked after was blocked before. -/
theorem Calms.laneBlocked (h : Calms s t) {l : Lane} (hb : t.laneBlocked l = true) : s.laneBlocked l = true := by
  obtain ⟨i, hi, hl⟩ := (laneBlocked_iff t l).1 hb
  obtain ⟨hx, hs, _⟩ := h.source i hi
  exact (laneBlocked_iff s l).2 ⟨i, hx, hs ▸ hl⟩

theorem Calms.inletBlocked (h : Calms s t) {k : Tank} (hb : t.inletBlocked k = true) : s.inletBlocked k = true := by
  obtain ⟨i, hi, hl⟩ := (inletBlocked_iff t k).1 hb
  obtain ⟨hx, _, hs⟩ := h.source i hi
  exact (inletBlocked_iff s k).2 ⟨i, hx, hs ▸ hl⟩

/-- Where nothing begins, the laws of flow and inlets need only what blocks a lane that still flows or an inlet that is still open. -/
theorem Quiets.keepsLaws (h : Quiets s t)
    (hl : ∀ l, (t.lane l).state.endedByTrip = true → t.laneBlocked l = true → s.laneBlocked l = true)
    (hz : ∀ l, (t.lane l).state.endedByTrip = true → (t.tank (t.lane l).cfg.tank).zone = .lowLow →
      (s.tank (s.lane l).cfg.tank).zone = .lowLow)
    (hp : ∀ k, (t.tank k).zone = .lowLow → (t.tank k).pump = .stopped ∨ (s.tank k).zone = .lowLow)
    (hi : ∀ k, (t.tank k).inlet = true → t.inletBlocked k = true → s.inletBlocked k = true) : KeepsLaws s t where
  valve := fun hv l => (h.lane l).valve (hv l)
  context := fun hc l => (h.lane l).context (hc l)
  record := h.record
  flow := fun ⟨hf, hk⟩ => ⟨fun l he => by
      obtain ⟨hb, hn⟩ := hf l ((h.lane l).flow he).1
      exact ⟨Bool.eq_false_iff.2 fun e => by simp [hl l he e] at hb, fun e => hn (hz l he e)⟩,
    fun k e => (hp k e).elim id fun hs => (h.tank k).pump (hk k hs)⟩
  inlet := fun hs k hk => by
    obtain ⟨hr, hb⟩ := hs k ((h.tank k).inlet hk)
    exact ⟨h.phase.trans hr, Bool.eq_false_iff.2 fun e => by simp [hi k hk e] at hb⟩

theorem Calms.keepsLaws (h : Calms s t) : KeepsLaws s t :=
  h.quiets.keepsLaws (fun _ _ hb => h.laneBlocked hb) (fun l he hz => ((h.lane l).flow he).2 ▸ (h.tank _).zone hz)
    (fun k hz => Or.inr ((h.tank k).zone hz)) (fun _ _ hb => h.inletBlocked hb)

/-! ## The units of the state -/

/-- Two states alike in all that the laws speak of, but for records removed. -/
theorem calms_of_same (hl : t.lanes = s.lanes) (hk : t.tanks = s.tanks) (hx : t.spill.sources = s.spill.sources)
    (hp : t.device.phase = s.device.phase) (hr : t.records.reserved = s.records.reserved)
    (hc : t.records.completed.length ≤ s.records.completed.length) : Calms s t where
  lane := fun l => by rw [State.lane, State.lane, hl]; exact .refl _
  tank := fun k => by rw [State.tank, State.tank, hk]; exact .refl _
  source := fun i => by rw [State.source, State.source, hx]; exact .refl _
  phase := hp
  record := fun ⟨hn, hm⟩ => ⟨by rw [hr]; omega, fun l => by rw [hr, hm l, State.lane, State.lane, hl]⟩

/-- Two states alike in lanes, tanks, sources, device and records. -/
theorem calms_of_bay (hl : t.lanes = s.lanes) (hk : t.tanks = s.tanks) (hx : t.spill.sources = s.spill.sources)
    (hd : t.device = s.device) (hr : t.records = s.records) : Calms s t :=
  calms_of_same hl hk hx (by rw [hd]) (by rw [hr]) (by rw [hr])

/-- Lanes may be replaced by lanes that keep their own laws and hold a context where they held one. -/
theorem lanes_calms {v : Eight LaneUnit} (hv : ∀ l, (t.lane l).Quiets (v.get l) ∧ (v.get l).ctx.isSome = (t.lane l).ctx.isSome)
    (h : Calms s t) : Calms s { t with lanes := v } :=
  h.trans ⟨fun l => (hv l).1, fun _ => .refl _, fun _ => .refl _, rfl, fun ⟨hn, hm⟩ => ⟨hn, fun l => (hm l).trans (hv l).2.symm⟩⟩

theorem setLane_calms {l : Lane} {u : LaneUnit} (hu : (t.lane l).Quiets u) (hc : u.ctx.isSome = (t.lane l).ctx.isSome)
    (h : Calms s t) : Calms s (t.setLane l u) := by
  refine lanes_calms (fun j => ?_) h
  rw [Eight.get_set]
  split
  · rename_i hj; rw [hj]; exact ⟨hu, hc⟩
  · exact ⟨.refl _, rfl⟩

theorem tanks_calms {v : Eight TankUnit} (hv : ∀ k, (t.tank k).Calms (v.get k)) (h : Calms s t) : Calms s { t with tanks := v } :=
  h.trans ⟨fun _ => .refl _, hv, fun _ => .refl _, rfl, id⟩

theorem setTank_calms {k : Tank} {u : TankUnit} (hu : (t.tank k).Calms u) (h : Calms s t) : Calms s (t.setTank k u) := by
  refine tanks_calms (fun j => ?_) h
  rw [Eight.get_set]
  split
  · rename_i hj; rw [hj]; exact hu
  · exact .refl _

theorem setSource_calms {i : SourceId} {x : Source} (hx : (t.source i).Calms x) (h : Calms s t) : Calms s (t.setSource i x) := by
  refine h.trans ⟨fun _ => .refl _, fun _ => .refl _, fun j => ?_, rfl, id⟩
  rw [State.source_setSource]
  split
  · rename_i hj; rw [hj]; exact hx
  · exact .refl _

theorem post_calms (k : EventKind) (h : Calms s t) : Calms s (post k t) := h.trans (calms_of_bay rfl rfl rfl rfl rfl)

theorem postIf_calms (c : Bool) (k : EventKind) (h : Calms s t) : Calms s (postIf c k t) := by
  cases c
  · exact h
  · exact post_calms k h

theorem mapDeliveries_calms (p : DeliveryEntry → Bool) (f : DeliveryEntry → DeliveryEntry) (h : Calms s t) :
    Calms s (mapDeliveries p f t) := h.trans (calms_of_bay rfl rfl rfl rfl rfl)

/-! ## The close and the ends (R38, R43, R46, R68, R130) -/

theorem TankUnit.setPump_stopped_calms (k : TankUnit) (timer : Timer) : k.Calms (k.setPump .stopped timer) := ⟨⟨fun _ => rfl, id⟩, id⟩

theorem dropDemand_calms (k : Tank) (h : Calms s t) : Calms s (dropDemand k t) := by
  rcases dropDemand_cases k t with ⟨_, e⟩ | ⟨_, e⟩ <;> rw [e]
  · exact h
  · exact setTank_calms (TankUnit.setPump_stopped_calms _ _) h

theorem afterClose_quiets (u : LaneUnit) (c : Context) : u.Quiets (u.afterClose c) := by
  have ho := afterClose_isOpen u c
  refine LaneUnit.quiets_of_shut rfl rfl ?_ (fun _ => ho.symm)
  cases hs : (u.afterClose c).state <;> simp [hs, LaneState.isOpen, LaneState.endedByTrip] at ho ⊢

/-- A filing turns the reservation of its lane into a completed record (R130). -/
theorem closeLane_recordLaw {l : Lane} {c : Context} (hc : (s.lane l).ctx = some c) (h : RecordLaw s) :
    RecordLaw (closeLane l s) := by
  obtain ⟨hn, hm⟩ := h
  obtain ⟨x, hx, _, _, hq⟩ := closeLane_records hc
  have hin : inSet s.records.reserved l = true := by rw [hm l, hc]; rfl
  have hcount := setCount_remove _ _ hin
  unfold RecordLaw
  rw [hq]
  refine ⟨?_, fun j => ?_⟩
  · simp only [RecordQueue.file, hx, List.length_append, List.length_singleton]
    omega
  · simp only [RecordQueue.file, hx, inSet_and, inSet_not, inSet_bit8, hm j]
    by_cases hj : j = l
    · rw [hj, closeLane_lane_same hc]
      simp [LaneUnit.afterClose]
    · rw [closeLane_lane_ne _ _ _ hj]
      simp [hj]

/-- A close takes its lane's entry off the draw list and may stop the pump. -/
theorem closeLane_tank_calms (l : Lane) (s : State) (k : Tank) : (s.tank k).Calms ((closeLane l s).tank k) := by
  unfold closeLane
  dsimp only
  split
  · exact .refl _
  · rename_i c _
    refine TankUnit.Calms.trans ?_ ((dropDemand_calms (s.lane l).cfg.tank (.refl _)).tank k)
    simp only [post_tank, State.tank_setLane, postIf_tank]
    by_cases hk : k = (s.lane l).cfg.tank
    · subst hk
      refine TankUnit.calms_of_same ?_ ?_ ?_ <;> simp [State.tank, State.setTank]
    · refine TankUnit.calms_of_same ?_ ?_ ?_ <;> simp [State.tank, State.setTank, Eight.get_set_ne _ _ _ _ hk]

theorem closeLane_calms (l : Lane) (h : Calms s t) : Calms s (closeLane l t) := by
  cases hc : (t.lane l).ctx with
  | none => rw [closeLane_none hc]; exact h
  | some c =>
    refine h.trans ⟨fun j => ?_, closeLane_tank_calms l t, fun i => ?_, by rw [closeLane_device], closeLane_recordLaw hc⟩
    · by_cases hj : j = l
      · rw [hj, closeLane_lane_same hc]; exact afterClose_quiets _ c
      · rw [closeLane_lane_ne _ _ _ hj]; exact .refl _
    · rw [State.source, State.source, closeLane_spill]; exact .refl _

@[simp] theorem LaneUnit.setReason_ctx_isSome (u : LaneUnit) (r : EndReason) : (u.setReason r).ctx.isSome = u.ctx.isSome := by
  simp [LaneUnit.setReason]

theorem endLane_calms (l : Lane) (r : EndReason) (h : Calms s t) : Calms s (endLane l r t) := by
  rcases endLane_cases l r t with ⟨hs, e⟩ | ⟨hs, e⟩ | ⟨_, e⟩ <;> rw [e]
  · have hnd : (t.lane l).state ≠ .delivering := by rcases hs with hs | hs <;> simp [hs]
    have hopen : (t.lane l).state.isOpen = true := by rcases hs with hs | hs <;> rw [hs] <;> rfl
    refine closeLane_calms _ (setLane_calms ⟨fun hv => ?_, fun hc => ?_, fun he => ?_⟩ (LaneUnit.setReason_ctx_isSome _ _) h)
    · exact LaneUnit.meetsValveLaw_of_released (hv.released hnd).1 (hv.released hnd).2
    · exact ((LaneUnit.setReason_ctx_isSome _ _).trans hc).trans hopen
    · simp [LaneState.endedByTrip] at he
  · refine dropDemand_calms _ (setLane_calms (LaneUnit.quiets_of_shut rfl rfl rfl fun hc => ?_) ?_ h)
    · have hopen : (t.lane l).state.isOpen = true := by rw [hs]; rfl
      exact (LaneUnit.setReason_ctx_isSome (t.lane l).shut r).trans (hc.trans hopen)
    · exact LaneUnit.setReason_ctx_isSome (t.lane l).shut r
  · exact h

theorem endLanes_calms (ls : LaneSet) (r : EndReason) (h : Calms s t) : Calms s (endLanes ls r t) :=
  foldl_keeps_prop (Calms s) _ (fun u l hu => by split <;> [exact endLane_calms l r hu; exact hu]) _ t h

/-! ## Faults, stages and the trim (R40, R41, R44, R45, R48, R66) -/

theorem takeFault_calms (l : Lane) (f : LaneFault) (h : Calms s t) : Calms s (takeFault l f t) := by
  have hc : ((t.lane l).faulted f).ctx.isSome = (t.lane l).ctx.isSome := by simp [LaneUnit.faulted]
  cases hm : (t.lane l).state.metered with
  | false => simpa [takeFault, hm] using h
  | true =>
    rcases (metered_iff _).1 hm with hs | hs
    · rw [takeFault_settling f hs]
      have hr := (LaneUnit.setReason_ctx_isSome ((t.lane l).faulted f) f.reason).trans hc
      exact post_calms _ (setLane_calms (LaneUnit.quiets_of_same rfl rfl rfl rfl hr rfl) hr h)
    · rw [takeFault_ends f hs]
      exact endLane_calms _ _ (post_calms _ (setLane_calms (LaneUnit.quiets_of_same rfl rfl rfl rfl hc rfl) hc h))

theorem faultIf_calms (c : Bool) (l : Lane) (f : LaneFault) (h : Calms s t) : Calms s (faultIf c l f t) := by
  cases c
  · exact h
  · exact takeFault_calms l f h

/-- A lane that changes only in its meter unit and its timers. -/
theorem setMeter_calms {l : Lane} (m : Meter) (h : Calms s t) : Calms s (t.setLane l { t.lane l with meter := m }) :=
  setLane_calms (LaneUnit.quiets_of_same rfl rfl rfl rfl rfl rfl) rfl h

theorem miscountEvent_calms (l : Lane) (h : Calms s t) : Calms s (miscountEvent l t) :=
  faultIf_calms _ _ _ (setMeter_calms _ h)

/-- A lane in a stage of DELIVERING has its valves as R29 drives them. -/
theorem inStage_meetsValveLaw (u : LaneUnit) (st : Stage) : (u.inStage st).meetsValveLaw :=
  ⟨fun _ => rfl, fun h => ⟨rfl, congrArg some (of_decide_eq_true h)⟩⟩

theorem inStage_ctx_isSome (u : LaneUnit) (st : Stage) : (u.inStage st).ctx.isSome = u.ctx.isSome := by simp [LaneUnit.inStage]

/-- A lane that flows already may take another stage of DELIVERING. -/
theorem inStage_quiets {u : LaneUnit} (st : Stage) (h : u.state.endedByTrip = true) : u.Quiets (u.inStage st) where
  valve := fun _ => inStage_meetsValveLaw u st
  context := fun hc => by
    have ho : u.state.isOpen = true := by cases hs : u.state <;> simp [hs, LaneState.endedByTrip] at h <;> rfl
    exact (inStage_ctx_isSome u st).trans (hc.trans ho)
  flow := fun _ => ⟨h, rfl⟩

theorem evaluateStage_calms (l : Lane) (h : Calms s t) : Calms s (evaluateStage l t) := by
  unfold evaluateStage
  dsimp only
  split
  · rename_i hs _ _
    exact setLane_calms (inStage_quiets _ (by rw [hs]; rfl)) (inStage_ctx_isSome _ _) h
  · exact h

theorem testPreset_calms (l : Lane) (h : Calms s t) : Calms s (testPreset l t) := by
  unfold testPreset
  dsimp only
  split
  · split
    · exact endLane_calms _ _ h
    · exact evaluateStage_calms _ h
  · exact h

theorem allocationCut_calms (l : Lane) (a : Int) (h : Calms s t) : Calms s (allocationCut l a t) := by
  unfold allocationCut
  dsimp only
  split
  · exact h
  · rename_i c hc
    have h1 : Calms s (t.setLane l { t.lane l with ctx := some (c.trim a) }) :=
      setLane_calms (LaneUnit.quiets_of_same rfl rfl rfl rfl (by simp [hc]) rfl) (by simp [hc]) h
    split
    · exact endLane_calms _ _ h1
    · exact evaluateStage_calms _ h1

theorem trimTank_calms (k : Tank) (h : Calms s t) : Calms s (trimTank k t) :=
  foldl_keeps_prop (Calms s) _ (fun _ c hu => allocationCut_calms c.1 c.2 hu) _ _
    (setTank_calms (TankUnit.calms_of_same rfl rfl rfl) h)

theorem countDrawn_calms (k : Tank) (dN : Int) (h : Calms s t) : Calms s (countDrawn k dN t) :=
  mapDeliveries_calms _ _ (setTank_calms (TankUnit.calms_of_same rfl rfl rfl) h)

theorem bookDraw_calms (l : Lane) (dN : Int) (h : Calms s t) : Calms s (bookDraw l dN t) :=
  trimTank_calms _ (setTank_calms (TankUnit.calms_of_same (deduct_pump _ _) (deduct_inlet _ _) (deduct_zone _ _))
    (countDrawn_calms _ _ h))

theorem testOverrun_calms (l : Lane) (h : Calms s t) : Calms s (testOverrun l t) := by
  unfold testOverrun
  dsimp only
  split
  · exact h
  · exact faultIf_calms _ _ _ h

/-! ## Inlets closed and lanes blocked (R84 to R86, R150, R151) -/

theorem endDischarge_calms (k : Tank) (b : Bool) (h : Calms s t) : Calms s (endDischarge k b t) :=
  setTank_calms ⟨⟨id, fun e => (nomatch e)⟩, id⟩ (mapDeliveries_calms _ _ h)

theorem blockAll_calms (ls : LaneSet) (ts : TankSet) (h : Calms s t) : Calms s (blockAll ls ts t) :=
  foldl_keeps_prop (Calms s) _ (fun u k hu => by split <;> [exact endDischarge_calms k true hu; exact hu]) _ _
    (endLanes_calms ls .spill h)

theorem blockAll_lane (ls : LaneSet) (ts : TankSet) (s : State) (l : Lane) :
    (blockAll ls ts s).lane l = if inSet ls l then (endLane l .spill s).lane l else s.lane l := by
  rw [← endLanes_lane]
  simp [blockAll, State.lane]

/-- No lane of a set that is blocked stays in a state that a trip ends (R151). -/
theorem blockAll_ended {ls : LaneSet} {l : Lane} (ts : TankSet) (s : State) (h : inSet ls l = true) :
    ((blockAll ls ts s).lane l).state.endedByTrip = false := by
  rw [blockAll_lane, if_pos h]; exact endLane_not_endedByTrip _ _ _

/-- The inlets of a set, over any list of tanks: those named are closed, the others as they were. -/
theorem blockFold_inlet (ts : TankSet) (as : List Tank) (s : State) (k : Tank) :
    ((as.foldl (fun s t => if inSet ts t then endDischarge t true s else s) s).tank k).inlet =
      ((s.tank k).inlet && !(inSet ts k && decide (k ∈ as))) := by
  induction as generalizing s with
  | nil => simp
  | cons a as ih =>
    rw [List.foldl_cons, ih]
    by_cases hk : k = a
    · subst hk
      cases inSet ts k <;> simp
    · have hm : ((if inSet ts a then endDischarge a true s else s).tank k) = s.tank k := by
        split
        · exact endDischarge_tank_ne _ _ _ _ hk
        · rfl
      simp [hm, hk]

theorem blockInlets_inlet (ts : TankSet) (s : State) (k : Tank) :
    ((blockInlets ts s).tank k).inlet = ((s.tank k).inlet && !inSet ts k) := by
  rw [blockInlets, blockFold_inlet]
  simp [mem_allEight]

theorem blockAll_closed {ts : TankSet} {k : Tank} (ls : LaneSet) (s : State) (h : inSet ts k = true) :
    ((blockAll ls ts s).tank k).inlet = false := by
  rw [blockAll, blockInlets_inlet, h]; simp

/-- Whatever becomes blocked is ended and closed, so the laws stay (R151). -/
theorem blockAll_keepsLaws {ls : LaneSet} {ts : TankSet} (h : Quiets s t)
    (hz : ∀ k, (t.tank k).zone = .lowLow → (s.tank k).zone = .lowLow)
    (hl : ∀ l, t.laneBlocked l = true → s.laneBlocked l = true ∨ inSet ls l = true)
    (hi : ∀ k, t.inletBlocked k = true → s.inletBlocked k = true ∨ inSet ts k = true) : KeepsLaws s (blockAll ls ts t) := by
  have hc := blockAll_calms ls ts (.refl t)
  have hq := h.trans hc.quiets
  refine hq.keepsLaws (fun l he hb => ?_) (fun l he hlow => ?_) (fun k hlow => Or.inr (hz k ((hc.tank k).zone hlow)))
    (fun k he hb => ?_)
  · exact (hl l (hc.laneBlocked hb)).resolve_right fun hin => by simp [blockAll_ended ts t hin] at he
  · exact ((hq.lane l).flow he).2 ▸ hz _ ((hc.tank _).zone hlow)
  · exact (hi k (hc.inletBlocked hb)).resolve_right fun hin => by simp [blockAll_closed ls t hin] at he

end

end Sys2Proof.Machine
end

section
/-! Every command keeps the laws of valves, flow, inlets, records and contexts (R28, R29, R34, R38, R46, R69, R72, R84, R126 to R130, R151,
R172): trips, pumps, gauges and start-ups, the commands of each block, and the step. -/

namespace Sys2Proof.Machine

section

variable {s t : State}

/-- Two states alike in all that the laws speak of, but for records removed. -/
theorem keepsLaws_of_same (hl : t.lanes = s.lanes) (hk : t.tanks = s.tanks) (hx : t.spill.sources = s.spill.sources)
    (hp : t.device.phase = s.device.phase) (hr : t.records.reserved = s.records.reserved)
    (hc : t.records.completed.length ≤ s.records.completed.length) : KeepsLaws s t :=
  (calms_of_same hl hk hx hp hr hc).keepsLaws

theorem setTank_laws {k : Tank} {u : TankUnit} (hp : u.pump = (s.tank k).pump) (hi : u.inlet = (s.tank k).inlet)
    (hz : u.zone = (s.tank k).zone) : KeepsLaws s (s.setTank k u) :=
  (setTank_calms (TankUnit.calms_of_same hp hi hz) (.refl s)).keepsLaws

/-- A device out of RUNNING has its inlets released (R84). -/
theorem device_keepsLaws (d : Device)
    (h : ∀ k, (t.tank k).inlet = true → t.device.phase = .running → d.phase = .running) : KeepsLaws t { t with device := d } where
  valve := id
  flow := id
  record := id
  context := id
  inlet := fun hi k hk => ⟨h k hk (hi k hk).1, (hi k hk).2⟩

/-! ## Sources (R143 to R153) -/

/-- A lane blocked after one source has been replaced was blocked before, or is blocked by that source. -/
theorem laneBlocked_of_replaced {i : SourceId} (hx : ∀ j, j ≠ i → t.source j = s.source j) {l : Lane}
    (hb : t.laneBlocked l = true) :
    s.laneBlocked l = true ∨ ((t.source i).isTripped = true ∧ inSet (t.source i).lanes l = true) := by
  obtain ⟨j, hj, hl⟩ := (laneBlocked_iff t l).1 hb
  by_cases hji : j = i
  · exact Or.inr (hji ▸ ⟨hj, hl⟩)
  · rw [hx j hji] at hj hl
    exact Or.inl ((laneBlocked_iff s l).2 ⟨j, hj, hl⟩)

theorem inletBlocked_of_replaced {i : SourceId} (hx : ∀ j, j ≠ i → t.source j = s.source j) {k : Tank}
    (hb : t.inletBlocked k = true) :
    s.inletBlocked k = true ∨ ((t.source i).isTripped = true ∧ inSet (t.source i).inlets k = true) := by
  obtain ⟨j, hj, hl⟩ := (inletBlocked_iff t k).1 hb
  by_cases hji : j = i
  · exact Or.inr (hji ▸ ⟨hj, hl⟩)
  · rw [hx j hji] at hj hl
    exact Or.inl ((inletBlocked_iff s k).2 ⟨j, hj, hl⟩)

/-- A state that differs in its spill unit alone begins nothing. -/
theorem spill_quiets (u : SpillUnit) (s : State) : Quiets s { s with spill := u } :=
  ⟨fun _ => .refl _, fun _ => ⟨id, id⟩, rfl, id⟩

/-- The source that trips is the one that begins to block, and what it names is ended and closed (R147, R151). -/
theorem tripSource_laws (i : SourceId) (s : State) : KeepsLaws s (tripSource i s) := by
  obtain ⟨s1, hs1⟩ : ∃ s1, s1 = { s with spill := (tripSource i s).spill } := ⟨_, rfl⟩
  have he : tripSource i s = post .trip (blockAll (s.source i).lanes (s.source i).inlets s1) := by
    rw [hs1, tripSource_spill]; rfl
  have hsource : ∀ j, s1.source j = if j = i then (s.source i).trip else s.source j := fun j =>
    source_of_sources (by rw [hs1, tripSource_spill]) j
  have hne : ∀ j, j ≠ i → s1.source j = s.source j := fun j hj => (hsource j).trans (if_neg hj)
  have hi : s1.source i = (s.source i).trip := (hsource i).trans (if_pos rfl)
  rw [he]
  refine (blockAll_keepsLaws (hs1 ▸ spill_quiets _ s) (fun _ h => by rwa [hs1] at h) (fun l hb => ?_) (fun k hb => ?_)).trans
    (post_calms _ (.refl _)).keepsLaws
  · exact (laneBlocked_of_replaced hne hb).imp_right fun h => by rw [hi] at h; exact h.2
  · exact (inletBlocked_of_replaced hne hb).imp_right fun h => by rw [hi] at h; exact h.2

/-- A source alike in what it blocks. -/
theorem setSource_laws {i : SourceId} {x : Source} (ht : x.isTripped = true → (s.source i).isTripped = true)
    (hl : x.lanes = (s.source i).lanes) (hi : x.inlets = (s.source i).inlets) : KeepsLaws s (s.setSource i x) :=
  (setSource_calms (fun h => ⟨ht h, hl, hi⟩) (.refl s)).keepsLaws

theorem riseSource_laws (i : SourceId) (s : State) : KeepsLaws s (riseSource i s) := by
  unfold riseSource
  dsimp only
  split
  · exact setSource_laws id rfl rfl
  · exact tripSource_laws i s

theorem Source.sample_calms (x : Source) (c : Bool) : x.Calms (x.sample c) := by
  unfold Source.sample
  split <;> exact fun h => ⟨h, rfl, rfl⟩

theorem sampleSource_laws (i : SourceId) (c : Bool) (s : State) : KeepsLaws s (sampleSource i c s) := by
  have h := (setSource_calms ((s.source i).sample_calms c) (.refl s)).keepsLaws
  unfold sampleSource
  dsimp only
  split
  · exact h.trans (riseSource_laws i _)
  · exact h

theorem creepTrigger_laws (l : Lane) (c : Bool) (s : State) : KeepsLaws s (creepTrigger l c s) := by
  have h : KeepsLaws s (s.setSource (.hose l) { s.source (.hose l) with creepTaken := c }) := setSource_laws id rfl rfl
  unfold creepTrigger
  dsimp only
  split
  · exact h.trans (riseSource_laws _ _)
  · exact h

theorem sampleHose_laws (l : Lane) (s : State) : KeepsLaws s (sampleHose l s) := by
  unfold sampleHose
  dsimp only
  split
  · exact (sampleSource_laws _ _ s).trans (creepTrigger_laws _ _ _)
  · exact sampleSource_laws _ _ s

theorem sourceTrip_laws (i : SourceId) (s : State) : KeepsLaws s (sourceTrip i s) := by
  unfold sourceTrip
  split
  · exact riseSource_laws _ s
  · dsimp only
    split
    · have h : KeepsLaws s (s.setSource i (s.source i).risen) := setSource_laws id rfl rfl
      exact h.trans (riseSource_laws _ _)
    · exact .refl s

theorem discreteSample_laws (low : BitVec 4) (c : Bool) (s : State) : KeepsLaws s (discreteSample low c s) :=
  ((((sampleSource_laws _ _ s).trans (sampleSource_laws _ _ _)).trans (sampleSource_laws _ _ _)).trans
    (sampleSource_laws _ _ _)).trans (sampleSource_laws _ _ _)

theorem blankIf_laws (c : Bool) (i : SourceId) (s : State) : KeepsLaws s (blankIf c i s) := by
  cases c
  · exact .refl s
  · exact setSource_laws id rfl rfl

/-- A set added to a map, without what is blocked already, is what the change newly blocks (R152). -/
theorem changeSource_laws (i : SourceId) (v : SourceSetting) (s : State) : KeepsLaws s (changeSource i v s) := by
  obtain ⟨y, hy⟩ : ∃ y, y =
      if (s.source i).blanksAgainst ((s.source i).configure i v) then ((s.source i).configure i v).blank
      else (s.source i).configure i v := ⟨_, rfl⟩
  have hfields : y.isTripped = (s.source i).isTripped ∧ y.lanes = v.lanes ∧ y.inlets = v.inlets := by
    rw [hy]; split <;> exact ⟨rfl, rfl, rfl⟩
  obtain ⟨ht, hl, hi⟩ := hfields
  have hq : Quiets s (s.setSource i y) := spill_quiets _ s
  have hself : (s.setSource i y).source i = y := State.source_setSource_same s i y
  have hne : ∀ j, j ≠ i → (s.setSource i y).source j = s.source j := fun j hj => State.source_setSource_ne s i j y hj
  unfold changeSource
  dsimp only
  rw [← hy]
  split
  · rename_i htrip
    refine blockAll_keepsLaws hq (fun _ h => h) (fun l hb => ?_) (fun k hb => ?_)
    · refine (laneBlocked_of_replaced hne hb).elim Or.inl fun ⟨_, hin⟩ => ?_
      rw [hself, hl] at hin
      cases hbl : s.laneBlocked l with
      | true => exact Or.inl rfl
      | false =>
        have hnot : inSet (s.source i).lanes l = false :=
          Bool.eq_false_iff.2 fun h => by simp [(laneBlocked_iff s l).2 ⟨i, htrip, h⟩] at hbl
        exact Or.inr (by simp [State.newlyBlocked, inSet_and, inSet_not, hin, hnot, hbl])
    · refine (inletBlocked_of_replaced hne hb).elim Or.inl fun ⟨_, hin⟩ => ?_
      rw [hself, hi] at hin
      cases hbl : s.inletBlocked k with
      | true => exact Or.inl rfl
      | false =>
        have hnot : inSet (s.source i).inlets k = false :=
          Bool.eq_false_iff.2 fun h => by simp [(inletBlocked_iff s k).2 ⟨i, htrip, h⟩] at hbl
        exact Or.inr (by simp [State.newlyBlockedInlets, inSet_and, inSet_not, hin, hnot, hbl])
  · rename_i htrip
    exact (setSource_calms (fun h => absurd (ht ▸ h) htrip) (.refl s)).keepsLaws

/-! ## Pumps and the start of a lane (R35, R36, R68, R69) -/

/-- A pump may run where its tank is not in LOW_LOW. -/
theorem setPump_laws (k : Tank) (p : PumpState) (timer : Timer)
    (hz : FlowLaw t → (t.tank k).zone = .lowLow → p = .stopped) : KeepsLaws t (t.setTank k ((t.tank k).setPump p timer)) := by
  have htank : ∀ j, ((t.setTank k ((t.tank k).setPump p timer)).tank j).zone = (t.tank j).zone ∧
      ((t.setTank k ((t.tank k).setPump p timer)).tank j).inlet = (t.tank j).inlet ∧
      (j ≠ k → ((t.setTank k ((t.tank k).setPump p timer)).tank j).pump = (t.tank j).pump) := fun j => by
    by_cases hj : j = k
    · rw [hj, State.tank_setTank_same]; exact ⟨rfl, rfl, fun h => absurd rfl h⟩
    · rw [State.tank_setTank_ne _ _ _ _ hj]; exact ⟨rfl, rfl, fun _ => rfl⟩
  refine ⟨id, fun hf => ⟨fun l hl => ⟨(hf.1 l hl).1, (htank _).1 ▸ (hf.1 l hl).2⟩, fun j hj => ?_⟩,
    fun hi j hj => hi j ((htank j).2.1 ▸ hj), id, id⟩
  rw [(htank j).1] at hj
  by_cases hjk : j = k
  · subst hjk; rw [State.tank_setTank_same]; exact hz hf hj
  · rw [(htank j).2.2 hjk]; exact hf.2 j hj

theorem deliver_ctx_isSome (u : LaneUnit) : u.deliver.ctx.isSome = u.ctx.isSome := inStage_ctx_isSome u _

theorem deliver_quiets {u : LaneUnit} (h : u.state.endedByTrip = true) : u.Quiets u.deliver where
  valve := fun _ => ⟨fun _ => rfl, fun h => (nomatch h)⟩
  context := (inStage_quiets .lowStart h).context
  flow := (inStage_quiets .lowStart h).flow

theorem hearRunning_quiets (k : Tank) (u : LaneUnit) :
    u.Quiets (u.hearRunning k) ∧ (u.hearRunning k).ctx.isSome = u.ctx.isSome := by
  unfold LaneUnit.hearRunning
  split
  · rename_i h
    exact ⟨deliver_quiets (by rw [h.2]; rfl), deliver_ctx_isSome u⟩
  · exact ⟨.refl u, rfl⟩

theorem pumpRunning_laws (k : Tank) (hz : FlowLaw t → (t.tank k).zone ≠ .lowLow) : KeepsLaws t (pumpRunning k t) := by
  refine (setPump_laws k .running none fun hf h => absurd h (hz hf)).trans (lanes_calms (fun l => ?_) (.refl _)).keepsLaws
  rw [Eight.get_map]
  exact hearRunning_quiets k _

/-- R35: the lane that starts has been AUTHORIZED, so its tank is not in LOW_LOW and the pump may start. -/
theorem startLane_laws (l : Lane) (h : (s.lane l).state = .authorized) : KeepsLaws s (startLane l s) := by
  have hauth : (s.lane l).state.endedByTrip = true := by rw [h]; rfl
  have hq : (s.lane l).Quiets (s.lane l).started := by
    refine ⟨fun hv => ?_, fun hc => hc.trans (by rw [h]; rfl), fun _ => ⟨hauth, rfl⟩⟩
    obtain ⟨h1, h2⟩ := hv.released (by simp [h])
    exact LaneUnit.meetsValveLaw_of_released h1 h2
  have hstarted : KeepsLaws s (s.setLane l (s.lane l).started) := (setLane_calms hq rfl (.refl s)).keepsLaws
  have hzone : FlowLaw (s.setLane l (s.lane l).started) →
      ((s.setLane l (s.lane l).started).tank (s.lane l).cfg.tank).zone ≠ .lowLow := fun hf => by
    have := (hf.1 l (by rw [State.lane_setLane_same]; rfl)).2
    rwa [State.lane_setLane_same] at this
  cases hp : (s.tank (s.lane l).cfg.tank).pump with
  | starting => rw [startLane_starting hp]; exact hstarted
  | running =>
    rw [startLane_running hp]
    exact (setLane_calms (hq.trans (deliver_quiets rfl)) (deliver_ctx_isSome _) (.refl s)).keepsLaws
  | stopped =>
    cases hr : (s.tank (s.lane l).cfg.tank).rdy.level with
    | false =>
      rw [startLane_demands hp hr]
      exact hstarted.trans (setPump_laws (t := s.setLane l (s.lane l).started) _ _ _ fun hf hz => absurd hz (hzone hf))
    | true =>
      rw [startLane_ready hp hr]
      exact hstarted.trans (pumpRunning_laws _ hzone)

/-- The debounced HOOK level is no part of the laws. -/
theorem hookSample_laws (l : Lane) (b : Bool) (s : State) : KeepsLaws s (hookSample l b s) := by
  have h : Calms s (s.setLane l { s.lane l with hook := (s.lane l).hook.sample b }) :=
    setLane_calms (LaneUnit.quiets_of_same rfl rfl rfl rfl rfl rfl) rfl (.refl s)
  unfold hookSample
  dsimp only
  split
  · unfold hookEvent
    split
    · rename_i hs
      exact h.keepsLaws.trans (startLane_laws l hs)
    · exact (endLane_calms _ _ h).keepsLaws
    · exact (endLane_calms _ _ h).keepsLaws
    · exact h.keepsLaws
  · exact h.keepsLaws

/-- A pump that is not STOPPED stands on a tank that is not in LOW_LOW (R69). -/
theorem zone_of_pump {k : Tank} (hf : FlowLaw t) (h : (t.tank k).pump ≠ .stopped) : (t.tank k).zone ≠ .lowLow :=
  fun hz => h (hf.2 k hz)

theorem pumpRdyEvent_laws (k : Tank) (b : Bool) (s : State) : KeepsLaws s (pumpRdyEvent k b s) := by
  unfold pumpRdyEvent
  split
  · rename_i hp
    exact pumpRunning_laws k fun hf => zone_of_pump hf (by simp [hp])
  · rename_i hp
    exact setPump_laws k _ _ fun hf hz => absurd hz (zone_of_pump hf (by simp [hp]))
  · exact .refl s

theorem pumpRdySample_laws (k : Tank) (b : Bool) (s : State) : KeepsLaws s (pumpRdySample k b s) := by
  have h : KeepsLaws s (s.setTank k { s.tank k with rdy := (s.tank k).rdy.sample b }) := setTank_laws rfl rfl rfl
  unfold pumpRdySample
  dsimp only
  split
  · exact h
  · exact h.trans (pumpRdyEvent_laws k _ _)

theorem losePump_laws (k : Tank) (s : State) : KeepsLaws s (losePump k s) :=
  (setTank_calms (TankUnit.setPump_stopped_calms _ _) (endLanes_calms _ _ (.refl s))).keepsLaws

theorem pumpExpiry_laws (k : Tank) (s : State) : KeepsLaws s (pumpExpiry k s) := by
  unfold pumpExpiry
  split
  · split
    · exact losePump_laws k s
    · exact .refl s
  · exact .refl s

end

end Sys2Proof.Machine
end

section
/-! Every command keeps the laws of valves, flow, inlets, records and contexts: gauge samples, the open of a lane, start-up, the requests,
and the step (R28, R29, R34, R46, R55 to R75, R82, R84, R126 to R130, R152, R172). -/

namespace Sys2Proof.Machine

section

variable {s t : State}

/-! ## Gauge samples (R57 to R75, R87) -/

/-- A tank alike in pump, inlet and debounced zone. -/
def TankUnit.sameFlow (u v : TankUnit) : Prop := v.pump = u.pump ∧ v.inlet = u.inlet ∧ v.zone = u.zone

theorem TankUnit.sameFlow.calms {u v : TankUnit} (h : u.sameFlow v) : u.Calms v := TankUnit.calms_of_same h.1 h.2.1 h.2.2

theorem TankUnit.takeReading_sameFlow (k : TankUnit) (r : Option GaugeReading) : k.sameFlow (k.takeReading r).computeNet := by
  have h1 : k.sameFlow (k.takeReading r) := by cases r <;> exact ⟨rfl, rfl, rfl⟩
  unfold TankUnit.computeNet
  split <;> exact h1

theorem TankUnit.restartWindow_sameFlow (k : TankUnit) (n : Nat) : k.sameFlow (k.restartWindow n) := by
  unfold TankUnit.restartWindow
  split <;> exact ⟨rfl, rfl, rfl⟩

theorem TankUnit.testLoss_sameFlow (k : TankUnit) (valid d : Bool) (n : Nat) : k.sameFlow (k.testLoss valid d n) := by
  unfold TankUnit.testLoss
  split
  · exact ⟨rfl, rfl, rfl⟩
  · split
    · exact ⟨rfl, rfl, rfl⟩
    · split
      · exact ⟨rfl, rfl, rfl⟩
      · exact k.restartWindow_sameFlow n
      · exact ⟨rfl, rfl, rfl⟩

theorem TankUnit.ageWindow_sameFlow (k : TankUnit) (valid : Bool) (n : Nat) : k.sameFlow (k.ageWindow valid n) := by
  unfold TankUnit.ageWindow
  split
  · exact ⟨rfl, rfl, rfl⟩
  · split
    · exact k.restartWindow_sameFlow n
    · exact ⟨rfl, rfl, rfl⟩

/-- A tank under a new zone: the pump and the inlet stay (R70, R71, R73). -/
theorem TankUnit.zoned_quiets (k : TankUnit) (level : Nat) : k.Quiets ((k.updateZone level).latch k.zone) := by
  unfold TankUnit.latch
  split <;> exact ⟨id, id⟩

/-- A sample's zone and alarms at a tank (R70, R71, R73), before the entry to LOW_LOW acts. -/
def State.zoned (s : State) (k : Tank) (level : Nat) : State :=
  zoneAlarm k (s.tank k).zone (s.setTank k ((s.tank k).updateZone level))

theorem zoneSample_eq (k : Tank) (level : Nat) (s : State) :
    zoneSample k level s =
      if ((s.zoned k level).tank k).zone = .lowLow ∧ (s.tank k).zone ≠ .lowLow then enterLowLow k (s.zoned k level)
      else s.zoned k level := by
  simp only [zoneSample, State.zoned, Bool.and_eq_true, decide_eq_true_eq]
  rfl

theorem zoned_tank (s : State) (k : Tank) (level : Nat) :
    (s.zoned k level).tank k = ((s.tank k).updateZone level).latch (s.tank k).zone := by
  simp [State.zoned, zoneAlarm]

theorem zoned_tank_ne (s : State) (k : Tank) (level : Nat) {j : Tank} (h : j ≠ k) : (s.zoned k level).tank j = s.tank j := by
  simp [State.zoned, zoneAlarm, State.tank_setTank_ne _ _ _ _ h]

/-- The zone and the alarms of one tank alone change, and TANK_ALARM may be posted. -/
theorem zoned_eq (s : State) (k : Tank) (level : Nat) :
    s.zoned k level = { s with tanks := (s.zoned k level).tanks, ports := (s.zoned k level).ports } := by
  unfold State.zoned zoneAlarm
  dsimp only
  rcases postIf_cases (decide ((((s.setTank k ((s.tank k).updateZone level)).tank k).latch (s.tank k).zone).alarms ≠
    ((s.setTank k ((s.tank k).updateZone level)).tank k).alarms)) .tankAlarm
    ((s.setTank k ((s.tank k).updateZone level)).setTank k
      (((s.setTank k ((s.tank k).updateZone level)).tank k).latch (s.tank k).zone)) with ⟨_, e⟩ | ⟨_, e⟩ <;> rw [e] <;> rfl

theorem zoned_quiets (s : State) (k : Tank) (level : Nat) : Quiets s (s.zoned k level) := by
  rw [zoned_eq]
  refine ⟨fun _ => .refl _, fun j => ?_, rfl, id⟩
  by_cases hj : j = k
  · subst hj; exact (zoned_tank s j level).symm ▸ (s.tank j).zoned_quiets level
  · exact (zoned_tank_ne s k level hj).symm ▸ ⟨id, id⟩

/-- The tank that enters LOW_LOW has its lanes ended and its pump STOPPED (R69, R72). -/
theorem enterLowLow_laws {k : Tank} (h : Quiets s t) (hother : ∀ j, j ≠ k → (t.tank j).zone = (s.tank j).zone)
    (hsource : ∀ i, t.source i = s.source i) : KeepsLaws s (enterLowLow k t) := by
  have hends := endLanes_calms (t.lanesOf k) .tankLow (.refl t)
  have hc : Calms t (enterLowLow k t) := setTank_calms (TankUnit.setPump_stopped_calms _ _) hends
  have hq := h.trans hc.quiets
  have hblock : ∀ i, (s.source i).Calms ((enterLowLow k t).source i) := fun i => hsource i ▸ hc.source i
  refine hq.keepsLaws (fun l _ hb => ?_) (fun l he hz => ?_) (fun j hz => ?_) (fun j _ hb => ?_)
  · obtain ⟨i, hi, hl⟩ := (laneBlocked_iff _ l).1 hb
    obtain ⟨hx, hs, _⟩ := hblock i hi
    exact (laneBlocked_iff s l).2 ⟨i, hx, hs ▸ hl⟩
  · have hcfg : ((enterLowLow k t).lane l).cfg.tank = (t.lane l).cfg.tank := ((hc.lane l).flow he).2
    rw [((hq.lane l).flow he).2] at hz
    have hzt := (hc.tank _).zone hz
    by_cases hk : (s.lane l).cfg.tank = k
    · have hin : inSet (t.lanesOf k) l = true := by
        rw [State.lanesOf, inSet_setOf, decide_eq_true_eq, ← hcfg, ((hq.lane l).flow he).2, hk]
      have hend : ((enterLowLow k t).lane l).state.endedByTrip = false := by
        show ((endLanes (t.lanesOf k) .tankLow t).lane l).state.endedByTrip = false
        rw [endLanes_lane, if_pos hin]
        exact endLane_not_endedByTrip _ _ _
      rw [hend] at he
      cases he
    · exact hother _ hk ▸ hzt
  · by_cases hj : j = k
    · exact Or.inl (by rw [hj, enterLowLow]; simp [TankUnit.setPump])
    · exact Or.inr (hother j hj ▸ (hc.tank j).zone hz)
  · obtain ⟨i, hi, hl⟩ := (inletBlocked_iff _ j).1 hb
    obtain ⟨hx, _, hs⟩ := hblock i hi
    exact (inletBlocked_iff s j).2 ⟨i, hx, hs ▸ hl⟩

theorem zoneSample_laws (k : Tank) (level : Nat) (s : State) : KeepsLaws s (zoneSample k level s) := by
  have hsource : ∀ i, (s.zoned k level).source i = s.source i := fun i => by rw [zoned_eq]; rfl
  have hother : ∀ j, j ≠ k → ((s.zoned k level).tank j).zone = (s.tank j).zone := fun j hj => by
    rw [zoned_tank_ne _ _ _ hj]
  rw [zoneSample_eq]
  split
  · exact enterLowLow_laws (zoned_quiets s k level) hother hsource
  · rename_i h
    have hq := zoned_quiets s k level
    refine Calms.keepsLaws ⟨hq.lane, fun j => ⟨hq.tank j, fun hz => ?_⟩, fun i => ?_, hq.phase, hq.record⟩
    · by_cases hj : j = k
      · subst hj
        by_contra hn
        exact h ⟨hz, hn⟩
      · rwa [hother j hj] at hz
    · rw [hsource i]; exact .refl _

theorem closingGauge_calms (k : Tank) (h : Calms s t) : Calms s (closingGauge k t) := by
  unfold closingGauge
  split
  · split
    · exact h
    · exact post_calms _ (setTank_calms (TankUnit.calms_of_same rfl rfl rfl) (mapDeliveries_calms _ _ h))
  · exact h

theorem missedGauge_calms (k : Tank) (h : Calms s t) : Calms s (missedGauge k t) := postIf_calms _ _ (mapDeliveries_calms _ _ h)

theorem gaugeTaken_laws (k : Tank) (r : Option GaugeReading) (s : State) : KeepsLaws s (gaugeTaken k r s) := by
  have h1 : Calms s { s.setTank k ((s.tank k).takeReading r).computeNet with bus := .polled k } :=
    (setTank_calms ((s.tank k).takeReading_sameFlow r).calms (.refl s)).trans (calms_of_bay rfl rfl rfl rfl rfl)
  cases r with
  | none => exact (missedGauge_calms k h1).keepsLaws
  | some g => exact (h1.keepsLaws.trans (zoneSample_laws k g.level _)).trans (closingGauge_calms k (.refl _)).keepsLaws

theorem testAndHand_calms (k : Tank) (valid : Bool) (s : State) : Calms s (testAndHand k valid s) :=
  setTank_calms ((TankUnit.testLoss_sameFlow _ _ _ _).calms.trans (TankUnit.calms_of_same rfl rfl rfl)) (.refl s)

theorem gaugeEvent_laws (k : Tank) (r : Option GaugeReading) (s : State) : KeepsLaws s (gaugeEvent k r s) := by
  rw [gaugeEvent_eq]
  refine (gaugeTaken_laws k r s).trans ?_
  exact ((testAndHand_calms k _ _).keepsLaws.trans ((sampleSource_laws _ _ _).trans (sampleSource_laws _ _ _))).trans
    (setTank_calms (TankUnit.ageWindow_sameFlow _ _ _).calms (.refl _)).keepsLaws

theorem gaugeSample_laws (k : Tank) (r : Option GaugeReading) (s : State) : KeepsLaws s (gaugeSample k r s) := by
  unfold gaugeSample
  split
  · exact gaugeEvent_laws k r s
  · exact .refl s

theorem gaugeStale_laws (k : Tank) (s : State) : KeepsLaws s (gaugeStale k s) := by
  have h : KeepsLaws s (s.setTank k { s.tank k with invalid := Config.staleCount - 1 }) := setTank_laws rfl rfl rfl
  unfold gaugeStale
  dsimp only
  split
  · exact h.trans (gaugeEvent_laws k none _)
  · exact .refl s

theorem staleEnd_laws (k : Tank) (s : State) : KeepsLaws s (staleEnd k s) := by
  unfold staleEnd
  split
  · exact (mapDeliveries_calms _ _ (.refl s)).keepsLaws.trans (gaugeEvent_laws k none _)
  · exact .refl s

theorem noGaugeSample_laws (k : Tank) (s : State) : KeepsLaws s (noGaugeSample k s) := by
  have h : KeepsLaws s (restartNoGauge k s) := setTank_laws rfl rfl rfl
  unfold noGaugeSample
  split
  · exact h.trans ((sampleSource_laws _ _ _).trans (sampleSource_laws _ _ _))
  · exact .refl s

/-! ## The meter (R2 to R22) -/

/-- A lane alike but for its meter unit and its timers. -/
theorem hearEdge_calms (l : Lane) (m : Meter) (h : Calms s t) : Calms s (t.setLane l { t.lane l with meter := m }.hearEdge) := by
  have hs : (t.lane l).Quiets ({ t.lane l with meter := m } : LaneUnit).hearEdge ∧
      ({ t.lane l with meter := m } : LaneUnit).hearEdge.ctx.isSome = (t.lane l).ctx.isSome := by
    unfold LaneUnit.hearEdge
    split <;> exact ⟨LaneUnit.quiets_of_same rfl rfl rfl rfl rfl rfl, rfl⟩
  exact setLane_calms hs.1 hs.2 h

theorem countedEdge_calms (l : Lane) (a b : Bool) (z : Int) (s : State) : Calms s (countedEdge l a b z s) := by
  have h := hearEdge_calms l ((s.lane l).meter.countEdge a b z) (.refl s)
  unfold countedEdge
  dsimp only
  split
  · exact miscountEvent_calms l (setMeter_calms _ h)
  · exact h

theorem illegalPair_calms (l : Lane) (a b : Bool) (s : State) : Calms s (illegalPair l a b s) :=
  miscountEvent_calms l (setMeter_calms _ (.refl s))

theorem decoderSample_calms (l : Lane) (a b : Bool) (s : State) : Calms s (decoderSample l a b s) := by
  unfold decoderSample
  split
  · exact .refl s
  · exact countedEdge_calms l a b _ s
  · exact illegalPair_calms l a b s

theorem meterFault_calms (l : Lane) (s : State) : Calms s (meterFault l s) := by
  unfold meterFault
  dsimp only
  split
  · exact miscountEvent_calms l (setMeter_calms _ (.refl s))
  · exact .refl s

theorem indexPulse_calms (l : Lane) (s : State) : Calms s (indexPulse l s) := by
  unfold indexPulse
  dsimp only
  split
  · exact .refl s
  · split
    · exact setMeter_calms _ (.refl s)
    · exact setMeter_calms _ (.refl s)
    · exact miscountEvent_calms l (setMeter_calms _ (.refl s))

theorem txnSample_calms (l : Lane) (s : State) : Calms s (txnSample l s) := by
  unfold txnSample
  dsimp only
  refine testOverrun_calms l (testPreset_calms l (faultIf_calms _ _ _ (faultIf_calms _ _ _ (bookDraw_calms l _ ?_))))
  have hc : ∀ (u : LaneUnit) (alpha : Nat) (held : Option Int), (u.takeTxnSample alpha held).ctx.isSome = u.ctx.isSome :=
    fun u alpha held => by simp [LaneUnit.takeTxnSample]
  exact setLane_calms (LaneUnit.quiets_of_same rfl rfl rfl rfl (hc _ _ _) rfl) (hc _ _ _) (.refl s)

theorem meterSample_laws (l : Lane) (s : State) : KeepsLaws s (meterSample l s) := by
  unfold meterSample
  dsimp only
  refine KeepsLaws.trans (Calms.keepsLaws ?_) (sampleHose_laws l _)
  split
  · exact txnSample_calms l s
  · exact setMeter_calms _ (.refl s)

end

end Sys2Proof.Machine
end

section
/-! Every command keeps the laws of valves, flow, inlets, records and contexts: the open of a lane, start-up, the requests, and the step
(R28, R29, R31, R34, R46, R50, R55, R82, R84, R126 to R130, R139, R153, R171 to R173). -/

namespace Sys2Proof.Machine

section

variable {s t : State}

/-! ## The open of a lane (R32, R34, R126, R128) -/

theorem firstRefusal_none {xs : List (Option Status)} (h : firstRefusal xs = none) : ∀ x ∈ xs, x = none := by
  induction xs with
  | nil => exact fun _ hx => absurd hx List.not_mem_nil
  | cons x xs ih =>
    cases x with
    | some st => cases h
    | none => exact List.forall_mem_cons.2 ⟨rfl, ih h⟩

/-- What the passed checks of OPEN_LANE say of the lane and its tank (R32). -/
theorem openChecks_granted {r : OpenRequest} {g : OpenGrant} (h : openChecks r s = .inr g) :
    (s.lane r.lane).state = .idle ∧ s.laneBlocked r.lane = false ∧ (s.tank (s.lane r.lane).cfg.tank).zone ≠ .lowLow := by
  have hr : openRefusal r s = none := by
    unfold openChecks at h
    cases hc : openRefusal r s with
    | none => rfl
    | some st => rw [hc] at h; cases h
  have hall := firstRefusal_none hr
  simp only [List.forall_mem_cons] at hall
  obtain ⟨hstate, hblocked, htank, _⟩ := hall
  refine ⟨?_, ?_, fun hz => ?_⟩
  · cases hs : (s.lane r.lane).state <;> simp [openStateCheck, hs] at hstate ⊢
  · simpa using hblocked
  · simp [openTankCheck, hz] at htank

/-- A set with a lane added names at most one more. -/
theorem setCount_add_le (q : LaneSet) (l : Lane) : setCount (q ||| bit8 l) ≤ setCount q + 1 := by
  cases h : inSet q l with
  | true => rw [set_add_mem q l h]; exact Nat.le_succ _
  | false => rw [setCount_add q l h]

/-- A reservation fits: a full queue has dropped its oldest record (R128, R129). -/
theorem reserve_fits (q : RecordQueue) (l : Lane) (h : q.completed.length + setCount q.reserved ≤ 64) :
    (q.reserve l).completed.length + setCount (q.reserve l).reserved ≤ 64 := by
  have hr : (q.reserve l).reserved = q.reserved ||| bit8 l := by unfold RecordQueue.reserve; dsimp only; split <;> rfl
  have hle := setCount_add_le q.reserved l
  have h8 := setCount_le q.reserved
  rw [hr]
  by_cases hf : q.completed.length + setCount q.reserved < 64
  · rw [(reserve_free l hf).1]; omega
  · rw [(reserve_full l (by omega)).1, List.length_tail]; omega

theorem grantOpen_source (r : OpenRequest) (g : OpenGrant) (s : State) (i : SourceId) : (grantOpen r g s).source i = s.source i := rfl

theorem grantOpen_flow (r : OpenRequest) (g : OpenGrant) (s : State) (k : Tank) : (s.tank k).sameFlow ((grantOpen r g s).tank k) := by
  by_cases hk : k = (s.lane r.lane).cfg.tank
  · subst hk; rw [grantOpen_tank]; exact ⟨rfl, rfl, rfl⟩
  · have he : (grantOpen r g s).tank k = s.tank k := State.tank_setTank_ne s _ _ _ hk
    rw [he]; exact ⟨rfl, rfl, rfl⟩

/-- The lane that is opened was IDLE, is not blocked, and drains a tank that is not in LOW_LOW (R32, R34). -/
theorem grantOpen_laws {r : OpenRequest} {g : OpenGrant} (h : openChecks r s = .inr g) : KeepsLaws s (grantOpen r g s) := by
  obtain ⟨hidle, hblocked, hzone⟩ := openChecks_granted h
  have hlane := grantOpen_lane r g s
  have hother : ∀ j, j ≠ r.lane → (grantOpen r g s).lane j = s.lane j := fun j hj => grantOpen_lane_ne r g s hj
  refine ⟨fun hv l => ?_, fun hf => ⟨fun l hl => ?_, fun k hk => ?_⟩, fun hi k hk => ?_, fun hr => ⟨?_, fun l => ?_⟩, fun hc l => ?_⟩
  · by_cases hl : l = r.lane
    · rw [hl, hlane]
      have hv' : (s.lane r.lane).meetsValveLaw := hv r.lane
      obtain ⟨h1, h2⟩ := hv'.released (by simp [hidle])
      exact LaneUnit.meetsValveLaw_of_released h1 h2
    · rw [hother l hl]; exact hv l
  · by_cases hlr : l = r.lane
    · refine ⟨hlr ▸ hblocked, ?_⟩
      rw [hlr, hlane]
      exact (grantOpen_flow r g s _).2.2 ▸ hzone
    · rw [hother l hlr] at hl ⊢
      exact ⟨(hf.1 l hl).1, (grantOpen_flow r g s _).2.2 ▸ (hf.1 l hl).2⟩
  · obtain ⟨hp, _, hz⟩ := grantOpen_flow r g s k
    rw [hz] at hk
    exact hp.trans (hf.2 k hk)
  · exact hi k ((grantOpen_flow r g s k).2.1 ▸ hk)
  · exact reserve_fits s.records r.lane hr.1
  · have hres : inSet (grantOpen r g s).records.reserved l = (inSet s.records.reserved l || decide (l = r.lane)) := by
      rw [← inSet_bit8, ← inSet_or]
      show inSet (s.records.reserve r.lane).reserved l = _
      unfold RecordQueue.reserve
      dsimp only
      split <;> rfl
    rw [hres]
    by_cases hl : l = r.lane
    · rw [hl, hlane]; simp [LaneUnit.authorize]
    · rw [hother l hl, ← hr.2 l]; simp [hl]
  · by_cases hl : l = r.lane
    · rw [hl, hlane]; rfl
    · rw [hother l hl]; exact hc l

theorem openLaneAnswer_laws (i : PortId) (lane : Nat) (tag : Tag) (order : Nat) (preset hours : Option Nat) (override : Nat)
    (s : State) : KeepsLaws s (openLaneAnswer i lane tag order preset hours override s).state := by
  unfold openLaneAnswer
  split
  · unfold openAnswer
    split
    · exact .refl s
    · rename_i g hg
      unfold acceptOpen
      dsimp only
      split
      · exact (grantOpen_laws hg).trans (startLane_laws _ (by rw [grantOpen_lane]; rfl))
      · exact grantOpen_laws hg
  · exact .refl s

/-! ## Supply, reset and start-up (R126, R130, R169 to R174, R197) -/

/-- The reservations of a queue are as many as the lanes they name. -/
theorem setCount_eq (q : LaneSet) : setCount q = (allEight.filter (fun l => inSet q l)).length := rfl

/-- A start-up turns every reservation into a record (R130, R172). -/
theorem startUp_recordLaw (cause : StartCause) (straps : BitVec 2) (h : RecordLaw s) : RecordLaw (startUp cause straps s) := by
  have hm : RecordLaw (checkMarker s) := by
    unfold checkMarker
    split
    · exact h
    · have hfree : factoryRecords.completed.length + setCount factoryRecords.reserved ≤ 64 := by decide
      exact ⟨hfree, fun l => by rw [writeFactory_lane]; exact inSet_zero l⟩
  obtain ⟨rs, hf⟩ := fileEach_filesLost allEight (resetVolatile cause straps (checkMarker s)) allEight_nodup
  rw [← fileContexts_eq] at hf
  have hlen : rs.length = setCount (checkMarker s).records.reserved := by
    rw [setCount_eq, ← List.length_map (f := fun r : Record => r.lane), hf.lanes]
    congr 1
    apply List.filter_congr
    intro l _
    rw [resetVolatile_lane, hm.2 l]
    rfl
  have hres : (startUp cause straps s).records.reserved = 0#8 := by rw [startUp_eq]; exact hf.reserved rfl
  refine ⟨?_, fun l => ?_⟩
  · have hc : (startUp cause straps s).records.completed = (checkMarker s).records.completed ++ rs := by
      rw [startUp_eq]; exact hf.completed
    rw [hres, setCount_zero, hc, List.length_append, hlen]
    exact hm.1
  · obtain ⟨_, _, _, _, hlane, _⟩ := startUp_started cause straps s
    obtain ⟨_, _, _, _, _, _, _, _, _, _, _, _, hctx, _⟩ := hlane l
    rw [hres, hctx]
    exact inSet_zero l

/-- Start-up leaves no lane open, no pump running and no inlet open, whatever it began from. -/
theorem startUp_laws (cause : StartCause) (straps : BitVec 2) (s : State) : KeepsLaws s (startUp cause straps s) := by
  obtain ⟨_, _, _, _, hlane, htank, _⟩ := startUp_started cause straps s
  have hl : ∀ l, ((startUp cause straps s).lane l).state = .disabled ∧ ((startUp cause straps s).lane l).vlo = false ∧
      ((startUp cause straps s).lane l).vhi = false ∧ ((startUp cause straps s).lane l).ctx = none := fun l => by
    obtain ⟨hstate, _, _, _, _, _, _, _, _, hlo, hhi, _, hctx, _⟩ := hlane l
    exact ⟨hstate, hlo, hhi, hctx⟩
  have hk : ∀ k, ((startUp cause straps s).tank k).zone = .normal ∧ ((startUp cause straps s).tank k).inlet = false := fun k => by
    obtain ⟨_, _, _, _, _, _, _, _, _, _, _, _, _, hz, _, _, _, _, _, _, _, hi⟩ := htank k
    exact ⟨hz, hi⟩
  refine ⟨fun _ l => LaneUnit.meetsValveLaw_of_released (hl l).2.1 (hl l).2.2.1, fun _ => ⟨fun l h => ?_, fun k h => ?_⟩,
    fun _ k h => ?_, startUp_recordLaw cause straps, fun _ l => ?_⟩
  · rw [(hl l).1] at h; cases h
  · rw [(hk k).1] at h; cases h
  · rw [(hk k).2] at h; cases h
  · rw [(hl l).1, (hl l).2.2.2]; rfl

theorem powerUp_laws (straps : BitVec 2) (s : State) : KeepsLaws s (powerUp straps s) := by
  unfold powerUp
  split
  · exact startUp_laws _ straps s
  · exact .refl s

/-- A supply or a pin that changes leaves the phase (R169). -/
theorem supply_laws (d : Device) (h : d.phase = s.device.phase) : KeepsLaws s { s with device := d } :=
  device_keepsLaws d fun _ _ hp => h.trans hp

theorem hold_laws (s : State) : KeepsLaws s (hold s) := by
  have h1 : Calms s { s with lanes := s.lanes.map LaneUnit.releaseOutputs } := lanes_calms (fun l => by
    rw [Eight.get_map]
    exact ⟨⟨fun _ => LaneUnit.meetsValveLaw_of_released rfl rfl, id, fun h => ⟨h, rfl⟩⟩, rfl⟩) (.refl s)
  have h2 : Calms s { s with lanes := s.lanes.map LaneUnit.releaseOutputs, tanks := s.tanks.map TankUnit.releaseOutputs } :=
    tanks_calms (fun k => by
      rw [Eight.get_map]
      exact ⟨⟨id, fun h => (nomatch h)⟩, id⟩) h1
  have h3 : KeepsLaws s { s with
      lanes := s.lanes.map LaneUnit.releaseOutputs, tanks := s.tanks.map TankUnit.releaseOutputs,
      ports := s.ports.map Port.release, bus := .released } := h2.keepsLaws.trans (keepsLaws_of_same rfl rfl rfl rfl rfl le_rfl)
  refine h3.trans (device_keepsLaws { s.device with phase := .held } fun k hk _ => ?_)
  simp [State.tank, TankUnit.releaseOutputs] at hk

theorem enterRunning_laws (a b : LaneSet) (s : State) : KeepsLaws s (enterRunning a b s) := by
  have h1 : Calms s { s with lanes := Eight.ofFn (fun l => (s.lane l).enterRunning (inSet a l) (inSet b l)) } :=
    lanes_calms (fun l => by
      rw [Eight.get_ofFn]
      exact ⟨LaneUnit.quiets_of_same rfl rfl rfl rfl rfl rfl, rfl⟩) (.refl s)
  have h2 : Calms s { s with
      lanes := Eight.ofFn (fun l => (s.lane l).enterRunning (inSet a l) (inSet b l)), tanks := s.tanks.map TankUnit.enterRunning } :=
    tanks_calms (fun k => by
      rw [Eight.get_map]
      exact TankUnit.calms_of_same rfl rfl rfl) h1
  exact ((h2.keepsLaws.trans (keepsLaws_of_same (t := { s with
      lanes := Eight.ofFn (fun l => (s.lane l).enterRunning (inSet a l) (inSet b l)), tanks := s.tanks.map TankUnit.enterRunning
      time := { s.time with uptime := 0 } }) rfl rfl rfl rfl rfl le_rfl)).trans
    (device_keepsLaws { s.device with phase := .running } fun _ _ _ => rfl)).trans
    (postIf_calms _ _ (post_calms _ (.refl _))).keepsLaws

theorem bayRestartAnswer_laws (i : PortId) (straps : BitVec 2) (s : State) : KeepsLaws s (bayRestartAnswer i straps s).state := by
  unfold bayRestartAnswer
  split
  · exact .refl s
  · exact (startUp_laws _ straps s).trans (keepsLaws_of_same rfl rfl rfl rfl rfl le_rfl)

/-! ## Time (R37, R42, R45, R190, R191) -/

theorem authorizationExpiry_calms (l : Lane) (s : State) : Calms s (authorizationExpiry l s) := by
  unfold authorizationExpiry
  split
  · split <;> [exact endLane_calms l _ (.refl s); exact .refl s]
  · split <;> [exact endLane_calms l _ (.refl s); exact .refl s]
  · exact .refl s

theorem noFlowExpiry_calms (l : Lane) (s : State) : Calms s (noFlowExpiry l s) := by
  unfold noFlowExpiry
  split
  · split <;> [exact endLane_calms l _ (.refl s); exact .refl s]
  · exact .refl s

theorem settleEnd_calms (l : Lane) (s : State) : Calms s (settleEnd l s) := by
  unfold settleEnd
  split
  · split <;> [exact closeLane_calms l (.refl s); exact .refl s]
  · exact .refl s

theorem orderDeadline_laws (n : Nat) (s : State) : KeepsLaws s (orderDeadline n s) := by
  unfold orderDeadline
  split
  · split
    · exact keepsLaws_of_same rfl rfl rfl rfl rfl le_rfl
    · exact .refl s
  · exact .refl s

theorem captureSample_laws (s : State) : KeepsLaws s (captureSample s) := by
  unfold captureSample
  split
  · exact keepsLaws_of_same rfl rfl rfl rfl rfl le_rfl
  · exact .refl s

theorem runningSecond_laws (s : State) : KeepsLaws s (runningSecond s) := by
  have h1 : Calms s { s with lanes := s.lanes.map LaneUnit.tick } := lanes_calms (fun l => by
    rw [Eight.get_map]
    exact ⟨LaneUnit.quiets_of_same rfl rfl rfl rfl rfl rfl, rfl⟩) (.refl s)
  have h2 : Calms s { s with
      lanes := s.lanes.map LaneUnit.tick
      tanks := s.tanks.map (fun k => { k with pumpTimer := tick k.pumpTimer, noGaugeTimer := tick k.noGaugeTimer }) } :=
    tanks_calms (fun k => by
      rw [Eight.get_map]
      exact TankUnit.calms_of_same rfl rfl rfl) h1
  exact h2.keepsLaws.trans (keepsLaws_of_same rfl rfl rfl rfl rfl le_rfl)

theorem wholeSecond_laws (s : State) : KeepsLaws s (wholeSecond s) := by
  unfold wholeSecond
  split
  · exact runningSecond_laws s
  · exact keepsLaws_of_same rfl rfl rfl rfl rfl le_rfl
  · exact .refl s

end

end Sys2Proof.Machine
end

section
/-! Every command keeps the laws of valves, flow, inlets, records and contexts: the requests of each block, every command, and the step
(R28, R29, R31, R34, R46, R50, R55, R82, R84, R126 to R130, R139, R151 to R154). -/

namespace Sys2Proof.Machine

section

variable {s t : State}

/-! ## Serving (R171, R176 to R178) -/

theorem reply_laws (f : Frame) (code : Byte) (st : Status) (p : Payload) (s : State) : KeepsLaws s (s.reply f code st p) :=
  keepsLaws_of_same rfl rfl rfl rfl rfl le_rfl

theorem setPort_laws (i : PortId) (p : Port) (s : State) : KeepsLaws s (s.setPort i p) :=
  keepsLaws_of_same rfl rfl rfl rfl rfl le_rfl

/-- A request keeps the laws where its owning block does, in a running device. -/
theorem serve_laws {f : Frame} {code : Byte} {a : Access} {act : State → Answer}
    (h : s.device.phase = .running → KeepsLaws s (act s).state) : KeepsLaws s (serve f code a act s) := by
  rcases serve_cases f code a act s with ⟨_, e⟩ | ⟨_, _, e⟩ | ⟨_, _, e⟩ | ⟨_, _, _, e⟩ | ⟨hp, _, _, e⟩ <;> rw [e]
  · exact .refl s
  · exact setPort_laws _ _ s
  · exact reply_laws _ _ _ _ s
  · exact reply_laws _ _ _ _ s
  · exact (h hp).trans (reply_laws _ _ _ _ _)

theorem serve_keepsLaws {f : Frame} {code : Byte} {a : Access} {act : State → Answer} (h : KeepsLaws s (act s).state) :
    KeepsLaws s (serve f code a act s) := serve_laws fun _ => h

theorem whenRunning_laws {f : State → State} (h : KeepsLaws s (f s)) : KeepsLaws s (s.whenRunning f) := by
  unfold State.whenRunning
  split
  · exact h
  · exact .refl s

theorem onLine_laws {f : State → State} (h : KeepsLaws s (f s)) : KeepsLaws s (s.onLine f) := by
  unfold State.onLine
  split
  · exact .refl s
  · exact h

theorem onLane_laws {n : Nat} {act : Lane → State → Answer} (h : ∀ l, KeepsLaws s (act l s).state) :
    KeepsLaws s (onLane n act s).state := by
  unfold onLane
  split
  · exact h _
  · exact .refl s

theorem onTank_laws {n : Nat} {act : Tank → State → Answer} (h : ∀ k, KeepsLaws s (act k s).state) :
    KeepsLaws s (onTank n act s).state := by
  unfold onTank
  split
  · exact h _
  · exact .refl s

theorem onSource_laws {n : Nat} {act : SourceId → State → Answer} (h : ∀ i, KeepsLaws s (act i s).state) :
    KeepsLaws s (onSource n act s).state := by
  unfold onSource
  split
  · exact h _
  · exact .refl s

theorem onDelivery_laws {n : Nat} {act : DeliveryEntry → State → Answer} (h : ∀ e, KeepsLaws s (act e s).state) :
    KeepsLaws s (onDelivery n act s).state := by
  unfold onDelivery
  split
  · exact h _
  · exact .refl s

/-! ## Answers that leave the bay alone: ports, clock, accounts, orders, lists, the calibration lock -/

/-- Two states alike in lanes, tanks, sources, device and records (R28, R54, R126, R143, R169). -/
def State.sameBay (s t : State) : Prop :=
  t.lanes = s.lanes ∧ t.tanks = s.tanks ∧ t.spill.sources = s.spill.sources ∧ t.device = s.device ∧ t.records = s.records

theorem State.sameBay.laws (h : s.sameBay t) : KeepsLaws s t := by
  obtain ⟨hl, hk, hx, hd, hr⟩ := h
  exact (calms_of_bay hl hk hx hd hr).keepsLaws

theorem State.sameBay_self (s : State) : s.sameBay s := ⟨rfl, rfl, rfl, rfl, rfl⟩

theorem clearEventsAnswer_bay (i : PortId) (kinds : BitVec 16) (s : State) : s.sameBay (clearEventsAnswer i kinds s).state := by
  unfold clearEventsAnswer
  split <;> exact ⟨rfl, rfl, rfl, rfl, rfl⟩

theorem setAttentionAnswer_bay (i : PortId) (mask : BitVec 16) (mode width : Nat) (s : State) :
    s.sameBay (setAttentionAnswer i mask mode width s).state := by
  unfold setAttentionAnswer
  split
  · split <;> exact ⟨rfl, rfl, rfl, rfl, rfl⟩
  · exact s.sameBay_self

theorem setAccessAnswer_bay (v : AccessSetting) (s : State) : s.sameBay (setAccessAnswer v s).state := by
  unfold setAccessAnswer
  split
  · split <;> exact ⟨rfl, rfl, rfl, rfl, rfl⟩
  · exact s.sameBay_self

theorem setClockAnswer_bay (value : Nat) (s : State) : s.sameBay (setClockAnswer value s).state := by
  unfold setClockAnswer
  split <;> exact ⟨rfl, rfl, rfl, rfl, rfl⟩

theorem enrolAnswer_bay (tag : Tag) (cls : Nat) (permits : TankSet) (capacity : Nat) (items : List ItemSetting) (s : State) :
    s.sameBay (enrolAnswer tag cls permits capacity items s).state := by
  unfold enrolAnswer
  split
  · exact s.sameBay_self
  · split <;> exact ⟨rfl, rfl, rfl, rfl, rfl⟩

theorem retireAnswer_bay (tag : Tag) (s : State) : s.sameBay (retireAnswer tag s).state := by
  unfold retireAnswer
  split
  · exact s.sameBay_self
  · split <;> exact ⟨rfl, rfl, rfl, rfl, rfl⟩

theorem setMachineAnswer_bay (tag : Tag) (cls state : Nat) (permits : TankSet) (capacity : Nat) (items : List ItemSetting)
    (s : State) : s.sameBay (setMachineAnswer tag cls state permits capacity items s).state := by
  unfold setMachineAnswer
  split
  · split <;> exact ⟨rfl, rfl, rfl, rfl, rfl⟩
  · exact s.sameBay_self

theorem setClassAnswer_bay (cls hours ceiling : Nat) (s : State) : s.sameBay (setClassAnswer cls hours ceiling s).state := by
  unfold setClassAnswer
  split
  · split <;> exact ⟨rfl, rfl, rfl, rfl, rfl⟩
  · exact s.sameBay_self

theorem readAccountAnswer_bay (tag : Tag) (s : State) : s.sameBay (readAccountAnswer tag s).state := by
  unfold readAccountAnswer
  split <;> exact s.sameBay_self

theorem readAccountsAnswer_bay (i : PortId) (direction count : Nat) (s : State) :
    s.sameBay (readAccountsAnswer i direction count s).state := by
  unfold readAccountsAnswer
  split
  · exact s.sameBay_self
  · split <;> exact ⟨rfl, rfl, rfl, rfl, rfl⟩

theorem setCursorAnswer_bay (i : PortId) (slot : Nat) (s : State) : s.sameBay (setCursorAnswer i slot s).state := by
  unfold setCursorAnswer
  split <;> exact ⟨rfl, rfl, rfl, rfl, rfl⟩

theorem placeChecked_bay (tag : Tag) (k : Tank) (volume : Nat) (priority : Bool) (expiry : Nat) (s : State) :
    s.sameBay (placeChecked tag k volume priority expiry s).state := by
  unfold placeChecked
  split
  · exact s.sameBay_self
  · split
    · exact s.sameBay_self
    · split <;> exact ⟨rfl, rfl, rfl, rfl, rfl⟩

theorem placeOrderAnswer_bay (tag : Tag) (tank volume priority expiry : Nat) (s : State) :
    s.sameBay (placeOrderAnswer tag tank volume priority expiry s).state := by
  unfold placeOrderAnswer
  split
  · split
    · exact placeChecked_bay _ _ _ _ _ s
    · exact s.sameBay_self
  · exact s.sameBay_self

theorem cancelOrderAnswer_bay (n : Nat) (s : State) : s.sameBay (cancelOrderAnswer n s).state := by
  unfold cancelOrderAnswer
  split
  · exact s.sameBay_self
  · split <;> exact ⟨rfl, rfl, rfl, rfl, rfl⟩

theorem announceAnswer_bay (tank : Nat) (identity : BitVec 64) (docket : Nat) (s : State) :
    s.sameBay (announceAnswer tank identity docket s).state := by
  unfold announceAnswer
  split
  · exact s.sameBay_self
  · split
    · exact s.sameBay_self
    · split
      · exact s.sameBay_self
      · split <;> exact ⟨rfl, rfl, rfl, rfl, rfl⟩

theorem withdrawAnswer_bay (e : DeliveryEntry) (s : State) : s.sameBay (withdrawAnswer e s).state := by
  unfold withdrawAnswer
  split <;> exact ⟨rfl, rfl, rfl, rfl, rfl⟩

theorem releaseDeliveryAnswer_bay (e : DeliveryEntry) (s : State) : s.sameBay (releaseDeliveryAnswer e s).state := by
  unfold releaseDeliveryAnswer
  split <;> exact ⟨rfl, rfl, rfl, rfl, rfl⟩

theorem collectAnswer_bay (n : Nat) (s : State) : s.sameBay (collectAnswer n s).state := by
  unfold collectAnswer
  split <;> exact s.sameBay_self

theorem readTripsAnswer_bay (n : Nat) (s : State) : s.sameBay (readTripsAnswer n s).state := by
  unfold readTripsAnswer
  split
  · exact s.sameBay_self
  · dsimp only [Answer.ok]
    split <;> exact ⟨rfl, rfl, rfl, rfl, rfl⟩

theorem readCaptureAnswer_bay (n : Nat) (s : State) : s.sameBay (readCaptureAnswer n s).state := by
  unfold readCaptureAnswer
  split <;> exact s.sameBay_self

theorem releaseTripsAnswer_bay (n : Nat) (s : State) : s.sameBay (releaseTripsAnswer n s).state := by
  unfold releaseTripsAnswer
  split <;> exact ⟨rfl, rfl, rfl, rfl, rfl⟩

theorem releaseCaptureAnswer_bay (s : State) : s.sameBay (releaseCaptureAnswer s).state := by
  unfold releaseCaptureAnswer
  split <;> exact ⟨rfl, rfl, rfl, rfl, rfl⟩

theorem setUnitAnswer_bay (n : Nat) (s : State) : s.sameBay (setUnitAnswer n s).state := by
  unfold setUnitAnswer
  split <;> exact ⟨rfl, rfl, rfl, rfl, rfl⟩

theorem lockAnswer_bay (code : Nat) (s : State) : s.sameBay (lockAnswer code s).state := by
  unfold lockAnswer
  split <;> exact ⟨rfl, rfl, rfl, rfl, rfl⟩

theorem unlockAnswer_bay (code : Nat) (s : State) : s.sameBay (unlockAnswer code s).state := by
  unfold unlockAnswer
  split
  · exact s.sameBay_self
  · exact s.sameBay_self
  · split
    · exact s.sameBay_self
    · split <;> exact ⟨rfl, rfl, rfl, rfl, rfl⟩

/-! ## The record queue (R129, R137 to R140) -/

theorem setPolicyAnswer_laws (policy threshold : Nat) (s : State) : KeepsLaws s (setPolicyAnswer policy threshold s).state := by
  unfold setPolicyAnswer
  split
  · split
    · refine KeepsLaws.trans ?_ (postIf_calms _ _ (.refl _)).keepsLaws
      exact keepsLaws_of_same rfl rfl rfl rfl rfl le_rfl
    · exact .refl s
  · exact .refl s

/-- A release leaves no more records than there were (R139). -/
theorem releaseThrough_length {n : Nat} {rs rest : List Record} (h : releaseThrough n rs = some rest) : rest.length ≤ rs.length := by
  induction rs with
  | nil => cases h
  | cons r rs ih =>
    unfold releaseThrough at h
    split at h
    · cases h; exact Nat.le_succ _
    · exact (ih h).trans (Nat.le_succ _)

theorem releaseAnswer_laws (n : Nat) (s : State) : KeepsLaws s (releaseAnswer n s).state := by
  unfold releaseAnswer
  split
  · exact .refl s
  · rename_i h
    exact keepsLaws_of_same rfl rfl rfl rfl rfl (releaseThrough_length h)

theorem recordStatusAnswer_laws (n : Nat) (s : State) : KeepsLaws s (recordStatusAnswer n s).state := by
  unfold recordStatusAnswer
  split
  · exact .refl s
  · dsimp only [Answer.ok]
    split
    · exact keepsLaws_of_same rfl rfl rfl rfl rfl le_rfl
    · exact .refl s

/-! ## Lanes and tanks (R31, R50, R55, R56, R63, R73) -/

/-- The event counters are no part of the laws (R51). -/
theorem readLaneAnswer_laws (l : Lane) (s : State) : KeepsLaws s (readLaneAnswer l s).state := by
  have hq : (s.lane l).Quiets { s.lane l with counters := ⟨0, 0, 0, 0⟩ } := LaneUnit.quiets_of_same rfl rfl rfl rfl rfl rfl
  exact (setLane_calms hq rfl (.refl s)).keepsLaws

theorem stopAnswer_laws (l : Lane) (s : State) : KeepsLaws s (stopAnswer l s).state := by
  unfold stopAnswer
  split
  · exact .refl s
  · exact .refl s
  · exact (endLane_calms l _ (.refl s)).keepsLaws

/-- A lane that leaves DISABLED for IDLE, or goes back, is closed before and after (R28, R50). -/
theorem LaneUnit.closed_quiets {u v : LaneUnit} (hu : u.state.isOpen = false) (hv : v.state.isOpen = false) (hlo : v.vlo = u.vlo)
    (hhi : v.vhi = u.vhi) (hc : v.ctx = u.ctx) : u.Quiets v where
  valve := fun h => by
    have hd : u.state ≠ .delivering := fun e => by rw [e] at hu; cases hu
    obtain ⟨h1, h2⟩ := h.released hd
    exact LaneUnit.meetsValveLaw_of_released (hlo.trans h1) (hhi.trans h2)
  context := fun h => by
    unfold LaneUnit.meetsContextLaw at h ⊢
    rw [hc, h, hu, hv]
  flow := fun h => by cases hs : v.state <;> rw [hs] at h hv <;> cases h <;> cases hv

theorem LaneUnit.enable_quiets (u : LaneUnit) : u.Quiets u.enable ∧ u.enable.ctx.isSome = u.ctx.isSome := by
  unfold LaneUnit.enable
  split
  · rename_i h
    exact ⟨LaneUnit.closed_quiets (by rw [h]; rfl) rfl rfl rfl rfl, rfl⟩
  · exact ⟨.refl u, rfl⟩
  · exact ⟨LaneUnit.quiets_of_same rfl rfl rfl rfl rfl rfl, rfl⟩

theorem LaneUnit.disable_quiets (u : LaneUnit) : u.Quiets u.disable ∧ u.disable.ctx.isSome = u.ctx.isSome := by
  unfold LaneUnit.disable
  split
  · exact ⟨.refl u, rfl⟩
  · rename_i h
    exact ⟨LaneUnit.closed_quiets (by rw [h]; rfl) rfl rfl rfl rfl, rfl⟩
  · exact ⟨LaneUnit.quiets_of_same rfl rfl rfl rfl rfl rfl, rfl⟩

/-- A binding changes only where the lane has no open transaction (R31). -/
theorem setLaneAnswer_laws (v : LaneSetting) (l : Lane) (s : State) : KeepsLaws s (setLaneAnswer v l s).state := by
  unfold setLaneAnswer
  dsimp only
  split
  · exact .refl s
  · rename_i c _
    split
    · exact .refl s
    · rename_i h
      simp only [Bool.or_eq_true, not_or, Bool.not_eq_true] at h
      have hq : (s.lane l).Quiets { s.lane l with cfg := c } := LaneUnit.closed_quiets h.1 h.1 rfl rfl rfl
      exact (setLane_calms hq rfl (.refl s)).keepsLaws.trans (blankIf_laws _ _ _)

/-- A change of configuration leaves the pump and the inlet, and a zone that it changes is NORMAL (R55). -/
theorem TankUnit.configure_calms (k : TankUnit) (c : TankConfig) : k.Calms (k.configure c) := by
  obtain ⟨k2, hk2⟩ : ∃ k2, k2 =
      if k.cfg.zonesDiffer c then { k with cfg := c, reserve := min k.reserve c.capacity, runs := ⟨0, 0, 0, 0⟩ }
      else { k with cfg := c, reserve := min k.reserve c.capacity } := ⟨_, rfl⟩
  have h2 : k.sameFlow k2 := by rw [hk2]; split <;> exact ⟨rfl, rfl, rfl⟩
  have h3 : k.sameFlow (if k.cfg.lossDiffers c then k2.discardWindow else k2) := by split <;> exact h2
  unfold TankUnit.configure
  dsimp only
  rw [← hk2]
  split
  · exact ⟨⟨h3.1.trans, h3.2.1.symm.trans⟩, fun h => (nomatch h)⟩
  · exact h3.calms.trans (TankUnit.calms_of_same rfl rfl rfl)
  · exact h3.calms

theorem setTankAnswer_laws (v : TankSetting) (k : Tank) (s : State) : KeepsLaws s (setTankAnswer v k s).state := by
  unfold setTankAnswer
  dsimp only
  split
  · exact .refl s
  · split
    · exact .refl s
    · exact ((setTank_calms (TankUnit.configure_calms _ _) (.refl s)).keepsLaws.trans (blankIf_laws _ _ _)).trans
        (blankIf_laws _ _ _)

theorem setReserveAnswer_laws (n : Nat) (k : Tank) (s : State) : KeepsLaws s (setReserveAnswer n k s).state := by
  unfold setReserveAnswer
  dsimp only
  split
  · exact .refl s
  · exact setTank_laws rfl rfl rfl

theorem TankUnit.adjust_sameFlow (k : TankUnit) (book : Nat) (clear d : Bool) (n : Nat) : k.sameFlow (k.adjust book clear d n) := by
  unfold TankUnit.adjust
  generalize (if clear = true then 0 else k.shortage) = shortage
  dsimp only
  split
  · exact TankUnit.restartWindow_sameFlow { k with book := book, shortage := shortage } n
  · exact ⟨rfl, rfl, rfl⟩

theorem adjustAnswer_laws (book clear : Nat) (k : Tank) (s : State) : KeepsLaws s (adjustAnswer book clear k s).state := by
  unfold adjustAnswer
  split
  · exact .refl s
  · split
    · exact .refl s
    · exact (trimTank_calms k (setTank_calms (TankUnit.adjust_sameFlow _ _ _ _ _).calms (.refl s))).keepsLaws

theorem ackAllAnswer_laws (s : State) : KeepsLaws s (ackAllAnswer s).state :=
  (tanks_calms (fun k => by
    rw [Eight.get_map]
    exact TankUnit.calms_of_same rfl rfl rfl) (.refl s)).keepsLaws

/-! ## Deliveries (R82, R84, R85) -/

theorem acceptConfirm_tank (e : DeliveryEntry) (c : Confirmation) (s : State) (k : Tank) :
    (acceptConfirm e c s).tank k = if k = e.tank then { s.tank k with inlet := true, window := none } else s.tank k := by
  unfold acceptConfirm
  dsimp only
  split
  · rename_i hk; rw [hk, State.tank_setTank_same]
  · rename_i hk; rw [State.tank_setTank_ne _ _ _ _ hk]; rfl

/-- An inlet opens in a running device, and not where it is blocked (R82, R84). -/
theorem acceptConfirm_laws {e : DeliveryEntry} (c : Confirmation) (hp : s.device.phase = .running)
    (hb : s.inletBlocked e.tank = false) : KeepsLaws s (acceptConfirm e c s) := by
  have hk : ∀ k, ((acceptConfirm e c s).tank k).zone = (s.tank k).zone ∧ ((acceptConfirm e c s).tank k).pump = (s.tank k).pump :=
    fun k => by rw [acceptConfirm_tank]; split <;> exact ⟨rfl, rfl⟩
  refine ⟨id, fun hf => ⟨fun l hl => ⟨(hf.1 l hl).1, (hk _).1 ▸ (hf.1 l hl).2⟩, fun k hz => ?_⟩, fun hi k hin => ?_, id, id⟩
  · rw [(hk k).1] at hz
    exact (hk k).2.trans (hf.2 k hz)
  · rw [acceptConfirm_tank] at hin
    split at hin
    · rename_i hke; exact ⟨hp, hke ▸ hb⟩
    · exact hi k hin

theorem confirmAnswer_laws (settle fixedTol propTol : Option Nat) (e : DeliveryEntry) (hp : s.device.phase = .running) :
    KeepsLaws s (confirmAnswer settle fixedTol propTol e s).state := by
  unfold confirmAnswer
  dsimp only
  split
  · exact .refl s
  · split
    · exact .refl s
    · split
      · exact .refl s
      · rename_i hb
        split
        · exact .refl s
        · exact acceptConfirm_laws _ hp (Bool.eq_false_iff.2 hb)

theorem endDeliveryAnswer_laws (e : DeliveryEntry) (s : State) : KeepsLaws s (endDeliveryAnswer e s).state := by
  unfold endDeliveryAnswer
  split
  · exact (endDischarge_calms _ _ (.refl s)).keepsLaws
  · exact .refl s
  · exact .refl s

theorem readDeliveryAnswer_laws (n : Nat) (s : State) : KeepsLaws s (readDeliveryAnswer n s).state := by
  unfold readDeliveryAnswer
  split
  · exact .refl s
  · exact onDelivery_laws fun _ => .refl s

/-! ## Sources and calibration (R152 to R154, R166) -/

theorem rearmAnswer_laws (i : SourceId) (s : State) : KeepsLaws s (rearmAnswer i s).state := by
  have h : KeepsLaws s (s.setSource i { s.source i with isTripped := false }) := setSource_laws (fun h => (nomatch h)) rfl rfl
  unfold rearmAnswer
  dsimp only
  split
  · exact .refl s
  · split
    · exact h
    · exact .refl s

theorem Source.judgeRearm_calms (x : Source) : x.Calms x.judgeRearm := by
  unfold Source.judgeRearm
  split
  · exact fun h => (nomatch h)
  · exact .refl x

theorem rearmAllAnswer_laws (s : State) : KeepsLaws s (rearmAllAnswer s).state := by
  have hx : ∀ i, ((rearmAllAnswer s).state).source i = (s.source i).judgeRearm := fun i => Sources.get_map _ _ _
  exact Calms.keepsLaws ⟨fun _ => .refl _, fun _ => .refl _, fun i => hx i ▸ (s.source i).judgeRearm_calms, rfl, id⟩

theorem setSourceAnswer_laws (v : SourceSetting) (i : SourceId) (s : State) : KeepsLaws s (setSourceAnswer v i s).state := by
  unfold setSourceAnswer
  split
  · exact changeSource_laws i v s
  · exact .refl s

theorem guarded_laws {busy : Bool} {act : State → State} (h : Calms s (act s)) : KeepsLaws s (guarded busy act s).state := by
  unfold guarded
  split
  · exact .refl s
  · split
    · exact .refl s
    · refine h.keepsLaws.trans ?_
      exact keepsLaws_of_same rfl rfl rfl rfl rfl le_rfl

theorem setMeterAnswer_laws (v : MeterSetting) (l : Lane) (s : State) : KeepsLaws s (setMeterAnswer v l s).state := by
  unfold setMeterAnswer
  split
  · exact guarded_laws (setMeter_calms _ (.refl s))
  · exact .refl s

theorem setProductAnswer_laws (alpha : Nat) (k : Tank) (s : State) : KeepsLaws s (setProductAnswer alpha k s).state := by
  unfold setProductAnswer
  split
  · exact guarded_laws (setTank_calms (TankUnit.calms_of_same rfl rfl rfl) (.refl s))
  · exact .refl s

theorem setStrappingAnswer_laws (points : List (Nat × Nat)) (k : Tank) (s : State) :
    KeepsLaws s (setStrappingAnswer points k s).state := by
  unfold setStrappingAnswer
  split
  · exact guarded_laws (setTank_calms (TankUnit.calms_of_same rfl rfl rfl) (.refl s))
  · exact .refl s

end

/-! ## Every command, and the step -/

theorem execUnknownRequest_laws (f : Frame) (code : Byte) (payload : List Byte) (s : State) :
    ∃ t, execUnknownRequest f code payload s = .next t ∧ KeepsLaws s t := by
  refine ⟨_, rfl, onLine_laws ?_⟩
  split
  · exact .refl s
  · split
    · exact reply_laws _ _ _ _ s
    · exact setPort_laws _ _ s

/-- Every command keeps the laws. -/
theorem exec_laws (c : Instr) (s : State) : ∃ t, exec c s = .next t ∧ KeepsLaws s t := by
  cases c with
  | powerOn straps => exact ⟨_, rfl, (supply_laws { s.device with powered := true } rfl).trans (powerUp_laws straps _)⟩
  | resetAsserted cause =>
    cases cause with
    | pin => exact ⟨_, rfl, (supply_laws { s.device with resetHeld := true } rfl).trans (hold_laws _)⟩
    | lowSupply => exact ⟨_, rfl, (supply_laws { s.device with powered := false } rfl).trans (hold_laws _)⟩
  | resetReleased straps => exact ⟨_, rfl, (supply_laws { s.device with resetHeld := false } rfl).trans (powerUp_laws straps _)⟩
  | powerLoss => exact ⟨_, rfl, (supply_laws { s.device with powered := false } rfl).trans (hold_laws _)⟩
  | restoreComplete a b =>
    refine ⟨_, rfl, ?_⟩
    split
    · exact enterRunning_laws a b s
    · exact .refl s
  | quadratureEdge l a b => exact ⟨_, rfl, whenRunning_laws (decoderSample_calms l a b s).keepsLaws⟩
  | illegalTransition l => exact ⟨_, rfl, whenRunning_laws (illegalPair_calms l _ _ s).keepsLaws⟩
  | meterFault l => exact ⟨_, rfl, whenRunning_laws (meterFault_calms l s).keepsLaws⟩
  | indexPulse l => exact ⟨_, rfl, whenRunning_laws (indexPulse_calms l s).keepsLaws⟩
  | meterSample l => exact ⟨_, rfl, whenRunning_laws (meterSample_laws l s)⟩
  | hookSample l level => exact ⟨_, rfl, whenRunning_laws (hookSample_laws l level s)⟩
  | pumpRdySample k level => exact ⟨_, rfl, whenRunning_laws (pumpRdySample_laws k level s)⟩
  | pumpTimerExpiry k => exact ⟨_, rfl, whenRunning_laws (pumpExpiry_laws k s)⟩
  | authorizationTimerExpiry l => exact ⟨_, rfl, whenRunning_laws (authorizationExpiry_calms l s).keepsLaws⟩
  | noFlowTimerExpiry l => exact ⟨_, rfl, whenRunning_laws (noFlowExpiry_calms l s).keepsLaws⟩
  | settlePeriodEnd l => exact ⟨_, rfl, whenRunning_laws (settleEnd_calms l s).keepsLaws⟩
  | attentionPulseExpiry p => exact ⟨_, rfl, whenRunning_laws (setPort_laws _ _ s)⟩
  | gaugeSample k reply => exact ⟨_, rfl, whenRunning_laws (gaugeSample_laws k _ s)⟩
  | gaugeStale k => exact ⟨_, rfl, whenRunning_laws (gaugeStale_laws k s)⟩
  | staleEnd k => exact ⟨_, rfl, whenRunning_laws (staleEnd_laws k s)⟩
  | noGaugeTankTimer k => exact ⟨_, rfl, whenRunning_laws (noGaugeSample_laws k s)⟩
  | discreteInputSample low c => exact ⟨_, rfl, whenRunning_laws (discreteSample_laws low c s)⟩
  | sourceTrip src => exact ⟨_, rfl, whenRunning_laws (sourceTrip_laws src s)⟩
  | captureSampleTimerExpiry => exact ⟨_, rfl, whenRunning_laws (captureSample_laws s)⟩
  | announcementTimerExpiry n =>
    exact ⟨_, rfl, whenRunning_laws (postIf_calms _ _ (mapDeliveries_calms _ _ (.refl s))).keepsLaws⟩
  | deliverySettleTimerExpiry n => exact ⟨_, rfl, whenRunning_laws (mapDeliveries_calms _ _ (.refl s)).keepsLaws⟩
  | orderDeadline n => exact ⟨_, rfl, whenRunning_laws (orderDeadline_laws n s)⟩
  | frameRejected p bytes stopLow => exact ⟨_, rfl, onLine_laws (setPort_laws _ _ s)⟩
  | frameGapTimeout p => exact ⟨_, rfl, onLine_laws (setPort_laws _ _ s)⟩
  | overlappingFrame p => exact ⟨_, rfl, onLine_laws (setPort_laws _ _ s)⟩
  | shunningIdleEnd p => exact ⟨_, rfl, onLine_laws (setPort_laws _ _ s)⟩
  | replyComplete p => exact ⟨_, rfl, onLine_laws (setPort_laws _ _ s)⟩
  | unknownRequest f code payload => exact execUnknownRequest_laws f code payload s
  | readEvents f => exact ⟨_, rfl, serve_keepsLaws (setPort_laws _ _ s)⟩
  | clearEvents f kinds => exact ⟨_, rfl, serve_keepsLaws (clearEventsAnswer_bay _ _ s).laws⟩
  | setAttention f mask mode width => exact ⟨_, rfl, serve_keepsLaws (setAttentionAnswer_bay _ _ _ _ s).laws⟩
  | readPort f => exact ⟨_, rfl, serve_keepsLaws (setPort_laws _ _ s)⟩
  | readLane f lane =>
    exact ⟨_, rfl, serve_keepsLaws (onLane_laws fun l => readLaneAnswer_laws l s)⟩
  | readStock f => exact ⟨_, rfl, serve_keepsLaws (.refl s)⟩
  | readTank f tank => exact ⟨_, rfl, serve_keepsLaws (onTank_laws fun _ => .refl s)⟩
  | readAccount f tag => exact ⟨_, rfl, serve_keepsLaws (readAccountAnswer_bay tag s).laws⟩
  | readAccounts f direction count => exact ⟨_, rfl, serve_keepsLaws (readAccountsAnswer_bay _ _ _ s).laws⟩
  | setCursor f slot => exact ⟨_, rfl, serve_keepsLaws (setCursorAnswer_bay _ _ s).laws⟩
  | listOrders f => exact ⟨_, rfl, serve_keepsLaws (.refl s)⟩
  | readDelivery f number => exact ⟨_, rfl, serve_keepsLaws (readDeliveryAnswer_laws _ s)⟩
  | readTrips f clear => exact ⟨_, rfl, serve_keepsLaws (readTripsAnswer_bay _ s).laws⟩
  | readTripsSource f index => exact ⟨_, rfl, serve_keepsLaws (onSource_laws fun _ => .refl s)⟩
  | readCapture f start => exact ⟨_, rfl, serve_keepsLaws (readCaptureAnswer_bay _ s).laws⟩
  | readCal f => exact ⟨_, rfl, serve_keepsLaws (.refl s)⟩
  | readRecordStatus f clear => exact ⟨_, rfl, serve_keepsLaws (recordStatusAnswer_laws _ s)⟩
  | placeOrder f tag tank volume priority expiry => exact ⟨_, rfl, serve_keepsLaws (placeOrderAnswer_bay _ _ _ _ _ s).laws⟩
  | cancelOrder f number => exact ⟨_, rfl, serve_keepsLaws (cancelOrderAnswer_bay _ s).laws⟩
  | openLane f lane tag order preset hours override => exact ⟨_, rfl, serve_keepsLaws (openLaneAnswer_laws _ _ _ _ _ _ _ s)⟩
  | stopLane f lane => exact ⟨_, rfl, serve_keepsLaws (onLane_laws fun l => stopAnswer_laws l s)⟩
  | enableLane f lane =>
    exact ⟨_, rfl, serve_keepsLaws (onLane_laws fun l =>
      (setLane_calms (s.lane l).enable_quiets.1 (s.lane l).enable_quiets.2 (.refl s)).keepsLaws)⟩
  | disableLane f lane =>
    exact ⟨_, rfl, serve_keepsLaws (onLane_laws fun l =>
      (setLane_calms (s.lane l).disable_quiets.1 (s.lane l).disable_quiets.2 (.refl s)).keepsLaws)⟩
  | setTankReserve f tank reserve => exact ⟨_, rfl, serve_keepsLaws (onTank_laws fun k => setReserveAnswer_laws _ k s)⟩
  | adjustStock f tank book clear => exact ⟨_, rfl, serve_keepsLaws (onTank_laws fun k => adjustAnswer_laws _ _ k s)⟩
  | ackAlarms f tank => exact ⟨_, rfl, serve_keepsLaws (onTank_laws fun _ => setTank_laws rfl rfl rfl)⟩
  | ackAlarmsAll f => exact ⟨_, rfl, serve_keepsLaws (ackAllAnswer_laws s)⟩
  | enrolMachine f tag cls permits capacity items => exact ⟨_, rfl, serve_keepsLaws (enrolAnswer_bay _ _ _ _ _ s).laws⟩
  | retireMachine f tag => exact ⟨_, rfl, serve_keepsLaws (retireAnswer_bay _ s).laws⟩
  | setMachine f tag cls state permits capacity items => exact ⟨_, rfl, serve_keepsLaws (setMachineAnswer_bay _ _ _ _ _ _ s).laws⟩
  | announceDelivery f tank identity docket => exact ⟨_, rfl, serve_keepsLaws (announceAnswer_bay _ _ _ s).laws⟩
  | confirmDelivery f number settle fixedTol propTol =>
    exact ⟨_, rfl, serve_laws fun hp => onDelivery_laws fun e => confirmAnswer_laws _ _ _ e hp⟩
  | endDelivery f number => exact ⟨_, rfl, serve_keepsLaws (onDelivery_laws fun e => endDeliveryAnswer_laws e s)⟩
  | withdrawDelivery f number => exact ⟨_, rfl, serve_keepsLaws (onDelivery_laws fun e => (withdrawAnswer_bay e s).laws)⟩
  | releaseDelivery f number => exact ⟨_, rfl, serve_keepsLaws (onDelivery_laws fun e => (releaseDeliveryAnswer_bay e s).laws)⟩
  | collectRecords f count => exact ⟨_, rfl, serve_keepsLaws (collectAnswer_bay _ s).laws⟩
  | releaseRecords f number => exact ⟨_, rfl, serve_keepsLaws (releaseAnswer_laws _ s)⟩
  | rearm f index => exact ⟨_, rfl, serve_keepsLaws (onSource_laws fun i => rearmAnswer_laws i s)⟩
  | rearmAll f => exact ⟨_, rfl, serve_keepsLaws (rearmAllAnswer_laws s)⟩
  | manualTrip f => exact ⟨_, rfl, serve_keepsLaws (riseSource_laws _ s)⟩
  | releaseTrips f number => exact ⟨_, rfl, serve_keepsLaws (releaseTripsAnswer_bay _ s).laws⟩
  | releaseCapture f => exact ⟨_, rfl, serve_keepsLaws (releaseCaptureAnswer_bay s).laws⟩
  | setLane f lane v => exact ⟨_, rfl, serve_keepsLaws (onLane_laws fun l => setLaneAnswer_laws v l s)⟩
  | setTank f tank v => exact ⟨_, rfl, serve_keepsLaws (onTank_laws fun k => setTankAnswer_laws v k s)⟩
  | setSource f index v => exact ⟨_, rfl, serve_keepsLaws (onSource_laws fun i => setSourceAnswer_laws v i s)⟩
  | setSourceUnit f count => exact ⟨_, rfl, serve_keepsLaws (setUnitAnswer_bay _ s).laws⟩
  | setClass f cls hours ceiling => exact ⟨_, rfl, serve_keepsLaws (setClassAnswer_bay _ _ _ s).laws⟩
  | setRecordPolicy f policy threshold => exact ⟨_, rfl, serve_keepsLaws (setPolicyAnswer_laws _ _ s)⟩
  | setClock f value => exact ⟨_, rfl, serve_keepsLaws (setClockAnswer_bay _ s).laws⟩
  | setAccess f v => exact ⟨_, rfl, serve_keepsLaws (setAccessAnswer_bay v s).laws⟩
  | bayRestart f straps => exact ⟨_, rfl, serve_keepsLaws (bayRestartAnswer_laws _ _ s)⟩
  | setMeter f lane v => exact ⟨_, rfl, serve_keepsLaws (onLane_laws fun l => setMeterAnswer_laws v l s)⟩
  | setProduct f tank alpha => exact ⟨_, rfl, serve_keepsLaws (onTank_laws fun k => setProductAnswer_laws alpha k s)⟩
  | setStrapping f tank points => exact ⟨_, rfl, serve_keepsLaws (onTank_laws fun k => setStrappingAnswer_laws points k s)⟩
  | lockCal f code => exact ⟨_, rfl, serve_keepsLaws (lockAnswer_bay _ s).laws⟩
  | unlockCal f code => exact ⟨_, rfl, serve_keepsLaws (unlockAnswer_bay _ s).laws⟩
  | wholeSecond => exact ⟨_, rfl, wholeSecond_laws s⟩

/-- A step keeps the laws: it idles, or runs the command at the front of the queue, which the laws do not speak of. -/
theorem step_laws {s t : State} (h : step s = .next t) : KeepsLaws s t := by
  unfold step at h
  split at h
  · cases h; exact .refl s
  · rename_i c rest _
    obtain ⟨u, hu, hk⟩ := exec_laws c { s with pending := rest }
    rw [hu] at h
    cases h
    exact (keepsLaws_of_same rfl rfl rfl rfl rfl le_rfl : KeepsLaws s { s with pending := rest }).trans hk

/-- Settles O55: each command extends the relation KeepsLaws, which a step therefore meets. -/
theorem everyStepKeepsSafetyLaws : Obligations.EveryStepKeepsSafetyLaws := by
  intro s t h
  have hk := step_laws h
  exact ⟨hk.valve, hk.flow, hk.inlet⟩

/-- Settles O57: the same relation carries the record queue and the contexts. -/
theorem everyStepKeepsRecordLaw : Obligations.EveryStepKeepsRecordLaw := by
  intro s t h
  have hk := step_laws h
  exact ⟨hk.record, hk.context⟩

end Sys2Proof.Machine
end

section
/-! The state after reset, the pump inputs and timer, the lane requests by state, and the reads that clear a counter (R38, R43, R49 to
R52, R68, R140, R160, R174, R179, R191). -/

namespace Sys2Proof.Machine

/-! ## The state after reset (R170) -/

theorem reset_lane (l : Lane) : State.reset.lane l = factoryLaneUnit l := Eight.get_ofFn _ _

theorem reset_tank (k : Tank) : State.reset.tank k = factoryTankUnit k := Eight.get_ofFn _ _

/-- Settles O60: the factory values, lane by lane, tank by tank and port by port. -/
theorem resetMeetsEveryLaw : Obligations.ResetMeetsEveryLaw := by
  refine ⟨fun l => ?_, ⟨fun l h => ?_, fun k h => ?_⟩, fun k h => ?_, fun k => ?_, ⟨by decide, fun l => ?_⟩, ⟨.console, rfl⟩,
    fun i => ?_, fun l => ?_, ⟨Nat.zero_le 8, Nat.zero_le 16, Nat.zero_le 16⟩, List.Pairwise.nil, fun i => ?_, fun l => ?_⟩
  · rw [reset_lane]; exact ⟨fun h => (nomatch h), fun h => (nomatch h)⟩
  · rw [reset_lane] at h; cases h
  · rw [reset_tank] at h; cases h
  · rw [reset_tank] at h; cases h
  · rw [reset_tank]; exact ⟨Nat.zero_le 0, Nat.zero_le _⟩
  · rw [reset_lane]; exact inSet_zero l
  · cases i <;> decide
  · rw [reset_lane]; exact Nat.zero_lt_succ _
  · cases i <;> exact portAtStartUp_meetsReceiveLaw _ _ _
  · rw [reset_lane]; rfl

/-! ## The pump's ready input (R36, R68) -/

section

variable {s : State} {k : Tank} {level : Bool}

theorem execPumpRdySample_running (k : Tank) (level : Bool) (h : s.device.phase = .running) :
    exec (.pumpRdySample k level) s = .next (pumpRdySample k level s) := by
  show Host.Outcome.next (s.whenRunning (pumpRdySample k level)) = _
  rw [State.whenRunning_running _ h]

/-- The tank with the ready input's sample taken. -/
def State.withRdy (s : State) (k : Tank) (level : Bool) : State :=
  s.setTank k { s.tank k with rdy := (s.tank k).rdy.sample level }

theorem withRdy_tank (s : State) (k : Tank) (level : Bool) :
    (s.withRdy k level).tank k = { s.tank k with rdy := (s.tank k).rdy.sample level } := State.tank_setTank_same _ _ _

theorem withRdy_tank_ne (s : State) (k : Tank) (level : Bool) {j : Tank} (h : j ≠ k) : (s.withRdy k level).tank j = s.tank j :=
  State.tank_setTank_ne _ _ _ _ h

/-- The second sample in a row at a new level moves the debounced input (R30, R68). -/
theorem pumpRdySample_event (hl : (s.tank k).rdy.level = !level) (hlast : (s.tank k).rdy.last = some level) :
    pumpRdySample k level s = pumpRdyEvent k level (s.withRdy k level) ∧ ((s.tank k).rdy.sample level).level = level := by
  have hr : ((s.tank k).rdy.sample level).level = level := by simp [Debounced.sample, hlast]
  refine ⟨?_, hr⟩
  simp only [pumpRdySample, hr, hl]
  rw [if_neg (by cases level <;> simp)]
  rfl

/-- A STOPPED pump hears no change of its ready input (R68). -/
theorem pumpRdySample_stopped (level : Bool) (h : (s.tank k).pump = .stopped) : pumpRdySample k level s = s.withRdy k level := by
  have he : ∀ b, pumpRdyEvent k b (s.withRdy k level) = s.withRdy k level := fun b => by
    have hp : ((s.withRdy k level).tank k).pump = .stopped := by rw [withRdy_tank]; exact h
    cases b <;> simp only [pumpRdyEvent, hp]
  show (if _ then s.withRdy k level else pumpRdyEvent k _ (s.withRdy k level)) = _
  rw [he]
  split <;> rfl

end

/-- Settles O19: the sample moves the debounced input, and the event acts by the pump's state. -/
theorem pumpReadyMovesPump : Obligations.PumpReadyMovesPump := by
  intro s k hp
  refine ⟨fun hs hl hlast => ?_, fun hs hl hlast => ?_, fun hs level => ?_⟩
  · obtain ⟨he, hr⟩ := pumpRdySample_event (level := true) hl hlast
    have hev : pumpRdyEvent k true (s.withRdy k true) = pumpRunning k (s.withRdy k true) := by
      have hst : ((s.withRdy k true).tank k).pump = .starting := by rw [withRdy_tank]; exact hs
      simp only [pumpRdyEvent, hst]
    have htank : (pumpRunning k (s.withRdy k true)).tank k = ((s.withRdy k true).tank k).setPump .running none :=
      State.tank_setTank_same (s.withRdy k true) _ _
    refine ⟨_, (execPumpRdySample_running k true hp).trans (by rw [he, hev]), fun j hj => ?_, ?_, ?_, ?_, ?_, fun l => ?_⟩
    · exact (State.tank_setTank_ne _ _ _ _ hj).trans (withRdy_tank_ne s k true hj)
    iterate 3 (rw [htank]; rfl)
    · rw [htank, withRdy_tank]; exact hr
    · have hlane : (pumpRunning k (s.withRdy k true)).lane l = (s.lane l).hearRunning k := pumpRunning_lane k _ l
      rw [hlane]
      exact ⟨fun h => by rw [LaneUnit.hearRunning, if_pos h]; exact ⟨rfl, rfl, rfl, rfl, rfl⟩, fun h => if_neg h⟩
  · obtain ⟨he, hr⟩ := pumpRdySample_event (level := false) hl hlast
    have hst : ((s.withRdy k false).tank k).pump = .running := by rw [withRdy_tank]; exact hs
    have hev : pumpRdyEvent k false (s.withRdy k false) =
        s.setTank k ({ s.tank k with rdy := (s.tank k).rdy.sample false }.setPump .starting (some 10)) := by
      simp only [pumpRdyEvent, hst]
      rw [withRdy_tank, State.withRdy, State.setTank_setTank]
      rfl
    refine ⟨_, (execPumpRdySample_running k false hp).trans (by rw [he, hev]), ?_, ?_, ?_, ?_, ?_⟩
    · rw [State.tank_setTank_same]
    iterate 3 (rw [State.tank_setTank_same]; rfl)
    · rw [State.tank_setTank_same]; exact hr
  · refine ⟨_, (execPumpRdySample_running k level hp).trans (by rw [pumpRdySample_stopped level hs]), ?_⟩
    rw [withRdy_tank]
    rfl

/-! ## The pump timer (R38, R43, R68, R191) -/

theorem execPumpTimerExpiry_running {s : State} (k : Tank) (h : s.device.phase = .running) :
    exec (.pumpTimerExpiry k) s = .next (pumpExpiry k s) := by
  show Host.Outcome.next (s.whenRunning (pumpExpiry k)) = _
  rw [State.whenRunning_running _ h]

theorem losePump_tank (k : Tank) (s : State) :
    (losePump k s).tank k = ((endLanes (s.pumpLanes k) .pumpLost s).tank k).setPump .stopped none := State.tank_setTank_same _ _ _

/-- A lost pump ends the lanes that demand it, and no other (R68). -/
theorem losePump_lane (k : Tank) (s : State) (l : Lane) :
    (losePump k s).lane l = if (s.lane l).demands k then (endLane l .pumpLost s).lane l else s.lane l := by
  show (endLanes (s.pumpLanes k) .pumpLost s).lane l = _
  rw [endLanes_lane, State.pumpLanes, inSet_setOf]

/-- Settles O20: the lanes that the lost pump ends are those that demand it. -/
theorem pumpTimeoutEndsItsLanes : Obligations.PumpTimeoutEndsItsLanes := by
  intro s k hp
  rw [execPumpTimerExpiry_running k hp]
  refine ⟨fun hs ht => ?_, fun h => ?_⟩
  · have he : pumpExpiry k s = losePump k s := by simp [pumpExpiry, hs, ended, ht]
    refine ⟨_, congrArg Host.Outcome.next he, ?_, ?_, ?_, fun l hl => ?_, fun l c hl hd hc => ?_, fun l hl => ?_⟩
    iterate 3 (rw [losePump_tank]; rfl)
    · rw [losePump_lane]
      split
      · have hend := endLane_not_endedByTrip l .pumpLost s
        constructor <;> intro e <;> rw [e] at hend <;> cases hend
      · rename_i hn
        simpa [LaneUnit.demands, hl] using hn
    · rw [losePump_lane, if_pos (by simp [LaneUnit.demands, hl, hd])]
      obtain ⟨h1, h2, _, _, h5⟩ := (endLane_lane l .pumpLost s hc).2 hd
      exact ⟨h1, h2, h5⟩
    · rw [losePump_lane, if_neg (by simp [LaneUnit.demands, hl])]
  · congr 1
    unfold pumpExpiry
    split
    · rename_i hs
      rw [if_neg]
      rcases h with h | h
      · exact absurd hs h
      · simpa [ended] using h
    · rfl

/-! ## Requests answered with their ports alone changed (R176 to R178) -/

section

variable {s t : State}

/-- The reply of a request that left the ports as they were. -/
theorem reply_ports (h : t.ports = s.ports) (f : Frame) (code : Byte) (st : Status) (p : Payload) :
    s.otherPorts (t.reply f code st p) f.port ∧ (s.port f.port).replying ((t.reply f code st p).port f.port) := by
  have hp : ∀ i, t.port i = s.port i := fun i => by rw [State.port, State.port, h]
  refine ⟨⟨fun j hj => (State.reply_port_ne _ _ _ _ _ _ hj).trans (hp j), (State.reply_openLevel _ _ _ _ _).trans (by rw [h])⟩, ?_⟩
  rw [State.reply_port_same, hp]
  rfl

/-! ## A number above 7 is no lane and no tank (R182) -/

theorem onLane_beyond {n : Nat} (h : 7 < n) (act : Lane → State → Answer) (s : State) : onLane n act s = .refuse s .range := by
  simp [onLane, eightOf_none h]

theorem onTank_beyond {n : Nat} (h : 7 < n) (act : Tank → State → Answer) (s : State) : onTank n act s = .refuse s .range := by
  simp [onTank, eightOf_none h]

section

variable {f : Frame} {cmd : Instr} {code : Byte} {a : Access}

/-- A request to a lane that its block takes. -/
theorem serve_onLane (h : s.takes f cmd = true) (ha : accessPasses s f.port a = s.permits f.port cmd) {l : Lane}
    {act : Lane → State → Answer} :
    serve f code a (onLane l.val act) s = (act l s).state.reply f code (act l s).status (act l s).payload := by
  rw [serve_of_takes h ha, onLane_val]

/-- A request to a tank that its block takes. -/
theorem serve_onTank (h : s.takes f cmd = true) (ha : accessPasses s f.port a = s.permits f.port cmd) {k : Tank}
    {act : Tank → State → Answer} :
    serve f code a (onTank k.val act) s = (act k s).state.reply f code (act k s).status (act k s).payload := by
  rw [serve_of_takes h ha, onTank_val]

/-- A request that is refused with its operands (R192). -/
theorem serve_refuses {st : Status} {act : State → Answer} (h : s.takes f cmd = true)
    (ha : accessPasses s f.port a = s.permits f.port cmd) (hx : act s = .refuse s st) :
    serve f code a act s = s.reply f code st .nothing := by
  rw [serve_of_takes h ha, hx]; rfl

end

/-! ## ENABLE_LANE, DISABLE_LANE, STOP_LANE (R38, R43, R49, R50) -/

variable {f : Frame} {l : Lane}

theorem enableLane_exec (h : s.takes f (.enableLane f l.val) = true) :
    exec (.enableLane f l.val) s = .next ((s.setLane l (s.lane l).enable).reply f 0x2A#8 .ok .nothing) :=
  congrArg Host.Outcome.next (serve_onLane h rfl)

theorem disableLane_exec (h : s.takes f (.disableLane f l.val) = true) :
    exec (.disableLane f l.val) s = .next ((s.setLane l (s.lane l).disable).reply f 0x2B#8 .ok .nothing) :=
  congrArg Host.Outcome.next (serve_onLane h rfl)

theorem stopLane_exec (h : s.takes f (.stopLane f l.val) = true) :
    exec (.stopLane f l.val) s =
      .next ((stopAnswer l s).state.reply f 0x29#8 (stopAnswer l s).status (stopAnswer l s).payload) :=
  congrArg Host.Outcome.next (serve_onLane h rfl)

theorem stopAnswer_closed (h : (s.lane l).state.isOpen = false) : stopAnswer l s = .refuse s .wrongState := by
  cases hs : (s.lane l).state <;> simp [hs, LaneState.isOpen] at h <;> simp [stopAnswer, hs]

theorem stopAnswer_open (h : (s.lane l).state.isOpen = true) : stopAnswer l s = .ok (endLane l .stopped s) .nothing := by
  cases hs : (s.lane l).state <;> simp [hs, LaneState.isOpen] at h <;> simp [stopAnswer, hs]

theorem endLane_settling (r : EndReason) (h : (s.lane l).state = .settling) : endLane l r s = s := by simp [endLane, h]

end

/-- Settles O41: each request acts by the lane's state. -/
theorem laneRequestsByState : Obligations.LaneRequestsByState := by
  intro s f l
  refine ⟨fun h => ?_, fun h => ?_, fun h => ⟨fun ho => ?_, fun c hc => ⟨fun hs => ?_, fun hs => ?_⟩, fun hs => ?_⟩,
    fun lane cmd code hb hc h => ?_⟩
  · have hl : ((s.setLane l (s.lane l).enable).reply f 0x2A#8 .ok .nothing).lane l = (s.lane l).enable :=
      State.lane_setLane_same _ _ _
    refine ⟨_, enableLane_exec h, reply_answers _ _ _ _ _, fun j hj => State.lane_setLane_ne _ _ _ _ hj,
      (reply_ports (by rfl) f _ _ _).1, rfl, fun hs => ?_, fun hs => ?_, fun hs => ?_⟩
    · rw [hl, LaneUnit.enable, hs]; rfl
    · rw [hl, LaneUnit.enable, hs]
    · rw [hl]; cases he : (s.lane l).state <;> simp [he, LaneState.isOpen] at hs <;> simp [LaneUnit.enable, he]
  · have hl : ((s.setLane l (s.lane l).disable).reply f 0x2B#8 .ok .nothing).lane l = (s.lane l).disable :=
      State.lane_setLane_same _ _ _
    refine ⟨_, disableLane_exec h, reply_answers _ _ _ _ _, fun j hj => State.lane_setLane_ne _ _ _ _ hj,
      (reply_ports (by rfl) f _ _ _).1, rfl, fun hs => ?_, fun hs => ?_, fun hs => ?_⟩
    · rw [hl, LaneUnit.disable, hs]
    · rw [hl, LaneUnit.disable, hs]
    · rw [hl]; cases he : (s.lane l).state <;> simp [he, LaneState.isOpen] at hs <;> simp [LaneUnit.disable, he]
  · refine ⟨_, stopLane_exec h, ?_⟩
    rw [stopAnswer_closed ho]
    exact reply_onlyAnswers _ _ _ _ _
  · have ho : (s.lane l).state.isOpen = true := by rcases hs with hs | hs <;> rw [hs] <;> rfl
    obtain ⟨xs, hx, hlanes, hall⟩ := endLane_completed l .stopped s
    have hone : xs.map (fun x => x.lane) = [l] := by rw [hlanes, hc]; rcases hs with hs | hs <;> simp [hs]
    obtain ⟨x, rfl, hxl⟩ := List.map_eq_singleton_iff.1 hone
    obtain ⟨hr, d, hd, htag, _⟩ := hall x (List.mem_singleton_self x)
    rw [hxl, hc] at hd
    cases hd
    obtain ⟨h1, h2⟩ := (endLane_lane l .stopped s hc).1 hs
    refine ⟨_, x, stopLane_exec h, ?_⟩
    rw [stopAnswer_open ho]
    exact ⟨reply_answers _ _ _ _ _, fun j hj => endLane_lane_ne l j .stopped s hj, hx, hr, htag, h1, h2⟩
  · obtain ⟨h1, h2, h3, _, h5⟩ := (endLane_lane l .stopped s hc).2 hs
    refine ⟨_, stopLane_exec h, ?_⟩
    rw [stopAnswer_open (by rw [hs]; rfl)]
    refine ⟨reply_answers _ _ _ _ _, fun j hj => endLane_lane_ne l j .stopped s hj, h1, h2, h3, h5, ?_⟩
    show (endLane l .stopped s).records = s.records
    simp [endLane, hs]
  · refine ⟨_, stopLane_exec h, ?_⟩
    rw [stopAnswer_open (by rw [hs]; rfl), endLane_settling _ hs]
    exact reply_onlyAnswers _ _ _ _ _
  · have key : ∀ (c : Byte) (a : Access) (act : Lane → State → Answer), accessPasses s f.port a = s.permits f.port cmd →
        serve f c a (onLane lane act) s = s.reply f c .range .nothing := fun c a act ha =>
      serve_refuses h ha (onLane_beyond hb act s)
    rcases hc with ⟨rfl, rfl⟩ | ⟨rfl, rfl⟩ | ⟨rfl, rfl⟩ <;>
      exact ⟨_, congrArg Host.Outcome.next (key _ _ _ rfl), reply_onlyAnswers _ _ _ _ _⟩

/-! ## The reads that clear a counter (R51, R52, R140, R160, R174, R179) -/

section

variable {s : State} {f : Frame}

theorem lineRateBaud_eq (b : BitVec 2) : lineRateBaud b = [9600, 19200, 57600, 115200].getD b.toNat 0 := by revert b; decide

/-- A flag byte is 0 or 1 (R192). -/
theorem flagOf_le {n : Nat} (h : n ≤ 1) : flagOf n = some (decide (n = 1)) := by
  rcases Nat.le_one_iff_eq_zero_or_eq_one.1 h with rfl | rfl <;> rfl

theorem flagOf_gt {n : Nat} (h : 1 < n) : flagOf n = none := by
  obtain ⟨m, rfl⟩ : ∃ m, n = m + 2 := ⟨n - 2, by omega⟩
  rfl

theorem readPort_exec (h : s.takes f (.readPort f) = true) :
    exec (.readPort f) s =
      .next ((s.setPort f.port (s.port f.port).clearCounters).reply f 0x04#8 .ok (.port (s.portReport f.port))) :=
  congrArg Host.Outcome.next (serve_of_takes h rfl)

theorem readLane_exec {l : Lane} (h : s.takes f (.readLane f l.val) = true) :
    exec (.readLane f l.val) s =
      .next ((s.setLane l (s.lane l).clearCounters).reply f 0x05#8 .ok (.lane ((s.lane l).report (s.laneBlocked l)))) :=
  congrArg Host.Outcome.next (serve_onLane h rfl)

/-- The list form of READ_TRIPS with a flag (R160). -/
theorem readTripsAnswer_flag {n : Nat} (h : n ≤ 1) :
    readTripsAnswer n s =
      .ok { s with spill := { s.spill with tripsDropped := if n = 1 then 0 else s.spill.tripsDropped } } (.trips s.tripsReport) := by
  rcases Nat.le_one_iff_eq_zero_or_eq_one.1 h with rfl | rfl <;> rfl

theorem recordStatusAnswer_flag {n : Nat} (h : n ≤ 1) :
    recordStatusAnswer n s =
      .ok { s with records := { s.records with dropped := if n = 1 then 0 else s.records.dropped } }
        (.recordStatus s.records.report) := by
  rcases Nat.le_one_iff_eq_zero_or_eq_one.1 h with rfl | rfl <;> rfl

end

/-- Settles O34: each read answers with the values before it clears them. -/
theorem countersAreReadAndCleared : Obligations.CountersAreReadAndCleared := by
  intro s f
  refine ⟨fun h => ?_, fun l h => ?_, fun flag => ⟨fun h hf => ?_, fun h hf => ?_, fun h hf => ?_, fun h hf => ?_⟩⟩
  · refine ⟨_, _, readPort_exec h, rfl, ⟨fun j hj => ?_, ?_⟩, reply_answers _ _ _ _ _, rfl, rfl, rfl, rfl, lineRateBaud_eq _, rfl, ?_⟩
    · rw [State.reply_port_ne _ _ _ _ _ _ hj, State.port_setPort_ne _ _ _ _ hj]
    · rw [State.reply_openLevel]; simp
    · rw [State.reply_port_same, State.port_setPort_same]; rfl
  · have hp := reply_ports (s := s) (t := s.setLane l (s.lane l).clearCounters) rfl f 0x05#8 .ok
      (.lane ((s.lane l).report (s.laneBlocked l)))
    exact ⟨_, _, readLane_exec h, reply_answers _ _ _ _ _, fun j hj => State.lane_setLane_ne _ _ _ _ hj, hp.1, hp.2, rfl,
      State.lane_setLane_same _ _ _, rfl, rfl, rfl, rfl, rfl, rfl, rfl⟩
  · have he : exec (.readTrips f flag) s = .next ((readTripsAnswer flag s).state.reply f 0x0D#8 (readTripsAnswer flag s).status
      (readTripsAnswer flag s).payload) := congrArg Host.Outcome.next (serve_of_takes h rfl)
    rw [readTripsAnswer_flag hf] at he
    obtain ⟨h1, h2⟩ := reply_ports (s := s) (t :=
      { s with spill := { s.spill with tripsDropped := if flag = 1 then 0 else s.spill.tripsDropped } }) rfl f 0x0D#8 .ok
      (.trips s.tripsReport)
    exact ⟨_, _, he, reply_answers _ _ _ _ _, h1, h2, rfl, rfl, rfl, fun l => inSet_setOf _ l, fun k => inSet_setOf _ k, rfl⟩
  · exact ⟨_, congrArg Host.Outcome.next (serve_refuses h rfl (by simp only [readTripsAnswer, flagOf_gt hf])),
      reply_onlyAnswers _ _ _ _ _⟩
  · have he : exec (.readRecordStatus f flag) s = .next ((recordStatusAnswer flag s).state.reply f 0x11#8
      (recordStatusAnswer flag s).status (recordStatusAnswer flag s).payload) := congrArg Host.Outcome.next (serve_of_takes h rfl)
    rw [recordStatusAnswer_flag hf] at he
    obtain ⟨h1, h2⟩ := reply_ports (s := s) (t :=
      { s with records := { s.records with dropped := if flag = 1 then 0 else s.records.dropped } }) rfl f 0x11#8 .ok
      (.recordStatus s.records.report)
    exact ⟨_, _, he, reply_answers _ _ _ _ _, h1, h2, rfl, rfl, decide_eq_true_iff, rfl, rfl, rfl, rfl⟩
  · exact ⟨_, congrArg Host.Outcome.next (serve_refuses h rfl (by simp only [recordStatusAnswer, flagOf_gt hf])),
      reply_onlyAnswers _ _ _ _ _⟩

end Sys2Proof.Machine
end

section
/-! A rise of a source (R38, R43, R86, R146 to R148, R150, R151, R155, R157). -/

namespace Sys2Proof.Machine

section

variable {s t : State} {i : SourceId}

/-! ## The trip, unit by unit -/

/-- The ends of lanes speak of the lanes alone. -/
theorem endsLanes_congr {s' t' : State} {ls : Lane → Bool} {r : EndReason} {xs : List Record} (hs : s'.lanes = s.lanes)
    (ht : t'.lanes = t.lanes) (h : s'.endsLanes t' ls r xs) : s.endsLanes t ls r xs := by
  unfold State.endsLanes State.lane at h ⊢
  rwa [hs, ht] at h

/-- The bay once the source is TRIPPED, its entry listed and the capture begun, before the lanes and inlets act. -/
def State.tripping (s : State) (i : SourceId) : State := { s with spill := (tripSource i s).spill }

theorem tripSource_eq (i : SourceId) (s : State) :
    tripSource i s = post .trip (blockAll (s.source i).lanes (s.source i).inlets (s.tripping i)) := by
  rw [State.tripping, tripSource_spill]; rfl

theorem tripSource_lane (i : SourceId) (s : State) (l : Lane) :
    (tripSource i s).lane l = if inSet (s.source i).lanes l then (endLane l .spill s).lane l else s.lane l := by
  rw [tripSource_eq, post_lane, blockAll_lane, endLane_lane_congr l .spill (show (s.tripping i).lane l = s.lane l from rfl)]
  rfl

theorem tripSource_inlet {k : Tank} (h : inSet (s.source i).inlets k = true) : ((tripSource i s).tank k).inlet = false := by
  rw [tripSource_eq]
  exact blockAll_closed _ _ h

theorem tripSource_records (i : SourceId) (s : State) :
    ∃ xs, (tripSource i s).records.completed = s.records.completed ++ xs ∧
      s.endsLanes (tripSource i s) (inSet (s.source i).lanes) .spill xs := by
  obtain ⟨xs, hx, he⟩ := endLanes_endsLanes (s.source i).lanes .spill (s.tripping i)
  rw [tripSource_eq]
  refine ⟨xs, ?_, endsLanes_congr rfl ?_ he⟩
  · rw [post_records, blockAll, blockInlets_records]; exact hx
  · rw [post_lanes, blockAll, blockInlets_lanes]

theorem tripSource_deliveries (i : SourceId) (s : State) :
    (tripSource i s).deliveries =
      { s.deliveries with
        entries := s.deliveries.entries.map (DeliveryEntry.interruptedAt (inSet (s.source i).inlets) s.stamp) } := by
  have hstamp : (endLanes (s.source i).lanes .spill (s.tripping i)).stamp = s.stamp := by
    simp only [State.stamp, endLanes_time]; rfl
  rw [tripSource_eq, post_deliveries, blockAll, blockInlets_deliveries, endLanes_deliveries, hstamp]
  rfl

theorem tripSource_source (i : SourceId) (s : State) (j : SourceId) :
    (tripSource i s).source j = if j = i then (s.source i).trip else s.source j :=
  source_of_sources (by rw [tripSource_spill]) j

/-- The lanes and inlets that the entry of a trip names (R155). -/
theorem tripEntry_ended (i : SourceId) (s : State) (l : Lane) :
    inSet (s.tripEntry i).lanesEnded l = (inSet (s.source i).lanes l && (s.lane l).state.endedByTrip) := by
  simp [State.tripEntry, inSet_and, State.lanesIn]

theorem tripEntry_closed (i : SourceId) (s : State) (k : Tank) :
    inSet (s.tripEntry i).inletsClosed k = (inSet (s.source i).inlets k && (s.tank k).inlet) := by
  simp [State.tripEntry, inSet_and]

/-- The capture after a trip (R157). -/
theorem tripSource_capture (i : SourceId) (s : State) :
    (s.spill.capture ≠ .empty →
      (tripSource i s).spill.capture = s.spill.capture ∧ (tripSource i s).spill.captureTimer = s.spill.captureTimer) ∧
    (s.spill.capture = .empty →
      (s.spill.captureCount = 0 → (tripSource i s).spill.capture = .full (s.snapshot s.spill.nextTrip)) ∧
      (s.spill.captureCount ≠ 0 →
        (tripSource i s).spill.capture = .filling (s.snapshot s.spill.nextTrip) ∧
          (tripSource i s).spill.captureTimer = some 1)) := by
  rw [tripSource_spill]
  refine ⟨fun h => ?_, fun h => ⟨fun hm => ?_, fun hm => ?_⟩⟩
  · cases hc : s.spill.capture with
    | empty => exact absurd hc h
    | filling c => exact ⟨rfl, rfl⟩
    | full c => exact ⟨rfl, rfl⟩
  · simp [startCapture, h, State.snapshot, hm]
  · simp [startCapture, captureTimerAfter, h, State.snapshot, hm, Config.samplePeriod]

/-! ## The rise -/

theorem setSource_self (s : State) (i : SourceId) : s.setSource i (s.source i) = s := by
  obtain ⟨_, _, _, _, _, _, _, _, _, _, ⟨⟨_, _, _, _, _, _, _, _, _⟩, _, _, _, _, _, _⟩, _, _⟩ := s
  cases i with
  | sump n => fin_cases n <;> rfl
  | hose l => simp [State.setSource, State.source, Sources.set, Sources.get]
  | overfill k => simp [State.setSource, State.source, Sources.set, Sources.get]
  | loss k => simp [State.setSource, State.source, Sources.set, Sources.get]
  | _ => rfl

/-- SOURCE_TRIP as a rise of the source, its run come to the debounce count where it takes samples (R145, R147). -/
theorem sourceTrip_rises (h : i = .manual ∨ ((s.source i).evaluates = true ∧ (s.source i).run < (s.source i).debounce)) :
    ∃ x : Source, x.isTripped = (s.source i).isTripped ∧ x.tripCount = (s.source i).tripCount ∧ x.lanes = (s.source i).lanes ∧
      x.inlets = (s.source i).inlets ∧ sourceTrip i s = riseSource i (s.setSource i x) := by
  by_cases hi : i = .manual
  · subst hi
    exact ⟨s.source .manual, rfl, rfl, rfl, rfl, by rw [setSource_self]; rfl⟩
  · obtain ⟨he, hr⟩ := h.resolve_left hi
    refine ⟨(s.source i).risen, rfl, rfl, rfl, rfl, ?_⟩
    unfold sourceTrip
    split
    · exact absurd rfl hi
    · rw [if_pos (by simp [he, hr])]

end

theorem execSourceTrip_running {s : State} (i : SourceId) (h : s.device.phase = .running) :
    exec (.sourceTrip i) s = .next (sourceTrip i s) := by
  show Host.Outcome.next (s.whenRunning (sourceTrip i)) = _
  rw [State.whenRunning_running _ h]

/-- Settles O27: the rise of a CLEAR source is its trip, and that of a TRIPPED one its count. -/
theorem riseTripsClearSource : Obligations.RiseTripsClearSource := by
  intro s i hp hi
  obtain ⟨x, htrip, hcount, hlanes, hinlets, he⟩ := sourceTrip_rises hi
  obtain ⟨s', hs'⟩ : ∃ s', s' = s.setSource i x := ⟨_, rfl⟩
  have hself : s'.source i = x := by rw [hs', State.source_setSource_same]
  have hother : ∀ j, j ≠ i → s'.source j = s.source j := fun j hj => by rw [hs', State.source_setSource_ne _ _ _ _ hj]
  rw [execSourceTrip_running i hp, he, ← hs']
  refine ⟨fun ht => ?_, fun ht => ?_⟩
  · have hrise : riseSource i s' = tripSource i s' := by
      rw [riseSource, hself, htrip, ht]; rfl
    have hsource := tripSource_source i s'
    have hcap := tripSource_capture i s'
    have hended := tripEntry_ended i s'
    have hclosed := tripEntry_closed i s'
    have hlane := tripSource_lane i s'
    have hrec := tripSource_records i s'
    have hdel := tripSource_deliveries i s'
    have hspill := tripSource_spill i s'
    rw [hself, hlanes] at hended hrec
    rw [hself, hinlets] at hclosed hdel
    rw [hself] at hsource
    simp only [hself, hlanes] at hlane
    refine ⟨_, s'.tripEntry i, congrArg Host.Outcome.next hrise, ?_, ?_, ?_, ?_, rfl, ?_, ?_, ?_, fun j hj => ?_, fun l => ?_,
      fun k => ?_, ?_, fun hc => ?_, fun hc => ⟨s'.snapshot s'.spill.nextTrip, ?_⟩, fun l hl => ?_, fun l hl => ?_, fun k hk => ?_,
      ?_, ?_, fun j => ?_⟩
    · rw [hsource, if_pos rfl]; rfl
    · rw [hsource, if_pos rfl, ← hcount]; rfl
    · rw [hspill, hs']; rfl
    · rw [hs']; rfl
    · rw [hs']; rfl
    · rw [hs']; rfl
    · rw [hspill, hs']; rfl
    · rw [hsource, if_neg hj, hother j hj]
    · rw [hended, hs']; rfl
    · rw [hclosed, hs']; rfl
    · rw [hs']; exact decide_eq_true_iff
    · rw [hs'] at hcap ⊢; exact hcap.1 hc
    · rw [hs'] at hcap ⊢
      exact ⟨rfl, rfl, rfl, fun l => ⟨Eight.get_map _ _ _, Eight.get_map _ _ _⟩, fun k => Eight.get_map _ _ _, (hcap.2 hc).1,
        (hcap.2 hc).2⟩
    · rw [hlane, if_pos hl]; exact endLane_not_endedByTrip _ _ _
    · rw [hlane, if_neg (by simp [hl]), hs']; rfl
    · exact tripSource_inlet (by rw [hself, hinlets]; exact hk)
    · obtain ⟨xs, hx, hends⟩ := hrec
      exact ⟨xs, by rw [hx, hs']; rfl, endsLanes_congr (by rw [hs']; rfl) rfl hends⟩
    · rw [hdel, hs']; rfl
    · rw [tripSource_eq, holdsKind_post]; simp
  · have hrise : riseSource i s' = s'.setSource i x.trip := by
      rw [riseSource_tripped (by rw [hself, htrip, ht]), hself]
    have hself' : (s'.setSource i x.trip).source i = x.trip := State.source_setSource_same _ _ _
    refine ⟨_, congrArg Host.Outcome.next hrise, by rw [hs']; rfl, fun j hj => ?_, ?_, ?_, ?_, ?_⟩
    · rw [State.source_setSource_ne _ _ _ _ hj, hother j hj]
    · rw [hself']; rfl
    · rw [hself', ← hlanes]; rfl
    · rw [hself', ← hinlets]; rfl
    · rw [hself', ← hcount]; rfl

end Sys2Proof.Machine
end

section
/-! SET_LANE and SET_TANK, and the requests that name a lane or tank above 7 (R31, R55, R74, R149, R181, R182). -/

namespace Sys2Proof.Machine

/-! ## Values in range (R31, R55, R192) -/

/-- SET_LANE's values in range, and the configuration they give (R31). -/
theorem laneConfigOf_some {v : LaneSetting} (h1 : v.tank < 8) (h2 : v.slowStart ≤ 100000) (h3 : v.slowdown ≤ 100000)
    (h4 : 10 ≤ v.authTime) (h5 : v.authTime ≤ 600) (h6 : 1 ≤ v.noFlowTime) (h7 : v.noFlowTime ≤ 30) (h8 : 1 ≤ v.settleTime)
    (h9 : v.settleTime ≤ 10) (h10 : v.overrunLimit ≤ 10000) (h11 : 1 ≤ v.miscountLimit) (h12 : v.miscountLimit ≤ 15)
    (h13 : v.reverseLimit ≤ 10000) (h14 : 1 ≤ v.creepLimit) (h15 : v.creepLimit ≤ 100000) :
    laneConfigOf v =
      some ⟨⟨v.tank, h1⟩, v.slowStart, v.slowdown, v.authTime, v.noFlowTime, v.settleTime, v.overrunLimit, v.miscountLimit,
        v.reverseLimit, v.creepLimit⟩ := by
  have ht : eightOf v.tank = some ⟨v.tank, h1⟩ := dif_pos h1
  simp [laneConfigOf, within, *]

/-- A value of SET_LANE out of its range (R31). -/
theorem laneConfigOf_none {v : LaneSetting}
    (h : 7 < v.tank ∨ 100000 < v.slowStart ∨ 100000 < v.slowdown ∨ v.authTime < 10 ∨ 600 < v.authTime ∨ v.noFlowTime = 0 ∨
      30 < v.noFlowTime ∨ v.settleTime = 0 ∨ 10 < v.settleTime ∨ 10000 < v.overrunLimit ∨ v.miscountLimit = 0 ∨
      15 < v.miscountLimit ∨ 10000 < v.reverseLimit ∨ v.creepLimit = 0 ∨ 100000 < v.creepLimit) : laneConfigOf v = none := by
  by_cases ht : 7 < v.tank
  · simp [laneConfigOf, eightOf_none ht]
  · have he : eightOf v.tank = some ⟨v.tank, by omega⟩ := dif_pos (by omega)
    simp only [laneConfigOf, he]
    rw [if_neg]
    simp only [within, Bool.and_eq_true, decide_eq_true_eq]
    omega

theorem tankConfigOf_some {v : TankSetting} {cls : ProductClass} (hcls : productClassOf v.cls = some cls) (hg : v.gaugeFitted ≤ 1)
    (h1 : 1 ≤ v.capacity) (h2 : v.capacity ≤ 2000000000) (h3 : v.lowLow < v.low) (h4 : v.low < v.high) (h5 : v.high < v.highHigh)
    (h6 : v.highHigh ≤ 200000) (h7 : v.zoneDebounce ≤ 255) (h8 : v.minFill ≤ 2000000) (h9 : v.lossLimit ≤ 10000000)
    (h10 : 60 ≤ v.lossWindow) (h11 : v.lossWindow ≤ 3600) :
    tankConfigOf v =
      some ⟨cls, v.capacity, decide (v.gaugeFitted = 1), v.lowLow, v.low, v.high, v.highHigh, v.zoneDebounce, v.minFill, v.lossLimit,
        v.lossWindow⟩ := by
  simp [tankConfigOf, flagOf_le hg, within, Config.maxVolume, Config.maxPreset, *]

theorem productClassOf_none {n : Nat} (h : 2 < n) : productClassOf n = none := by
  obtain ⟨m, rfl⟩ : ∃ m, n = m + 3 := ⟨n - 3, by omega⟩
  rfl

theorem tankConfigOf_none {v : TankSetting}
    (h : 2 < v.cls ∨ 1 < v.gaugeFitted ∨ v.capacity = 0 ∨ 2000000000 < v.capacity ∨ v.low ≤ v.lowLow ∨ v.high ≤ v.low ∨
      v.highHigh ≤ v.high ∨ 200000 < v.highHigh ∨ 255 < v.zoneDebounce ∨ 2000000 < v.minFill ∨ 10000000 < v.lossLimit ∨
      v.lossWindow < 60 ∨ 3600 < v.lossWindow) : tankConfigOf v = none := by
  unfold tankConfigOf
  split
  · rename_i c g hc hg
    have hcls : ¬2 < v.cls := fun hn => by rw [productClassOf_none hn] at hc; cases hc
    have hfit : ¬1 < v.gaugeFitted := fun hn => by rw [flagOf_gt hn] at hg; cases hg
    rw [if_neg]
    simp only [within, Bool.and_eq_true, decide_eq_true_eq]
    unfold Config.maxVolume Config.maxPreset
    omega
  · rfl

/-! ## Blanking (R149) -/

theorem blankIf_source (c : Bool) (i : SourceId) (s : State) (j : SourceId) :
    (blankIf c i s).source j = if c = true ∧ j = i then { s.source j with run := 0, blanking := 4 } else s.source j := by
  cases c
  · simp [blankIf]
  · simp only [blankIf, if_true, State.source_setSource, true_and]
    split
    · rename_i h; rw [h]; rfl
    · rfl

/-- Blanking reaches a source alone. -/
theorem blankIf_eq (c : Bool) (i : SourceId) (s : State) :
    blankIf c i s = { s with spill := { s.spill with sources := (blankIf c i s).spill.sources } } := by
  cases c <;> rfl

/-! ## A tank under a new configuration (R55, R74) -/

section

variable {k : TankUnit} {c : TankConfig}

/-- The gauge removed takes its readings and the window with it (R55, R74). -/
theorem configure_removed (hk : k.cfg.gaugeFitted = true) (hc : c.gaugeFitted = false) :
    k.configure c =
      { k with
        cfg := c, reserve := min k.reserve c.capacity, level := none, t10 := none, gaugedNet := none, gaugeValid := false
        invalid := 0, runs := ⟨0, 0, 0, 0⟩, rawZone := .normal, zone := .normal, window := none
        lossCond := (k.configure c).lossCond, noGaugeTimer := some 1 } ∧
      (k.window.isSome = true → (k.configure c).lossCond = false) := by
  unfold TankUnit.configure
  simp only [hk, hc]
  cases k.cfg.zonesDiffer c <;> cases k.cfg.lossDiffers c <;> refine ⟨rfl, fun h => ?_⟩ <;>
    simp [TankUnit.removeGauge, TankUnit.discardWindow, Option.isNone_eq_false_iff.2, h]

/-- A tank whose gauge is not removed keeps its readings (R55). -/
theorem configure_kept (h : k.cfg.gaugeFitted = false ∨ c.gaugeFitted = true) :
    k.configure c =
      { k with
        cfg := c, reserve := min k.reserve c.capacity, runs := if k.cfg.zonesDiffer c then ⟨0, 0, 0, 0⟩ else k.runs
        window := if k.cfg.lossDiffers c then none else k.window
        lossCond := if k.cfg.lossDiffers c then false else k.lossCond
        noGaugeTimer := if k.cfg.gaugeFitted = false ∧ c.gaugeFitted = true then none else k.noGaugeTimer } := by
  unfold TankUnit.configure
  cases hk : k.cfg.gaugeFitted <;> cases hc : c.gaugeFitted <;> simp only [hk, hc] at h ⊢ <;>
    cases k.cfg.zonesDiffer c <;> cases k.cfg.lossDiffers c <;> simp_all [TankUnit.discardWindow]

end

theorem configure_store (k : TankUnit) (c : TankConfig) :
    (k.configure c).cfg = c ∧ (k.configure c).reserve = min k.reserve c.capacity ∧ (k.configure c).book = k.book ∧
      (k.configure c).alpha = k.alpha ∧ (k.configure c).points = k.points := by
  cases hk : k.cfg.gaugeFitted with
  | false => rw [configure_kept (Or.inl hk)]; exact ⟨rfl, rfl, rfl, rfl, rfl⟩
  | true =>
    cases hc : c.gaugeFitted with
    | false => rw [(configure_removed hk hc).1]; exact ⟨rfl, rfl, rfl, rfl, rfl⟩
    | true => rw [configure_kept (Or.inr hc)]; exact ⟨rfl, rfl, rfl, rfl, rfl⟩

theorem zonesDiffer_iff (c d : TankConfig) :
    c.zonesDiffer d = true ↔ d.lowLow ≠ c.lowLow ∨ d.low ≠ c.low ∨ d.high ≠ c.high ∨ d.highHigh ≠ c.highHigh ∨
      d.zoneDebounce ≠ c.zoneDebounce := by
  simp only [TankConfig.zonesDiffer, Bool.or_eq_true, decide_eq_true_eq]
  omega

theorem lossDiffers_iff (c d : TankConfig) :
    c.lossDiffers d = true ↔ d.lossLimit ≠ c.lossLimit ∨ d.lossWindow ≠ c.lossWindow := by
  simp only [TankConfig.lossDiffers, Bool.or_eq_true, decide_eq_true_eq]
  omega

/-! ## SET_LANE and SET_TANK (R31, R55) -/

section

variable {s : State} {f : Frame} {l : Lane} {k : Tank}

theorem setLane_exec {v : LaneSetting} (h : s.takes f (.setLane f l.val v) = true) :
    exec (.setLane f l.val v) s =
      .next ((setLaneAnswer v l s).state.reply f 0x58#8 (setLaneAnswer v l s).status (setLaneAnswer v l s).payload) :=
  congrArg Host.Outcome.next (serve_onLane h rfl)

theorem setTank_exec {v : TankSetting} (h : s.takes f (.setTank f k.val v) = true) :
    exec (.setTank f k.val v) s =
      .next ((setTankAnswer v k s).state.reply f 0x59#8 (setTankAnswer v k s).status (setTankAnswer v k s).payload) :=
  congrArg Host.Outcome.next (serve_onTank h rfl)

theorem setLaneAnswer_range {v : LaneSetting} (h : laneConfigOf v = none) : setLaneAnswer v l s = .refuse s .range := by
  simp only [setLaneAnswer, h]

theorem setTankAnswer_range {v : TankSetting} (h : tankConfigOf v = none) : setTankAnswer v k s = .refuse s .range := by
  simp only [setTankAnswer, h]

/-- A configuration is taken in DISABLED, and in IDLE under the same binding (R31). -/
theorem setLaneAnswer_some {v : LaneSetting} {c : LaneConfig} (h : laneConfigOf v = some c) :
    setLaneAnswer v l s =
      if (s.lane l).state.isOpen = true ∨ ((s.lane l).state = .idle ∧ c.tank ≠ (s.lane l).cfg.tank) then .refuse s .wrongState
      else .ok (blankIf (decide (c.creepLimit ≠ (s.lane l).cfg.creepLimit)) (.hose l)
        (s.setLane l { s.lane l with cfg := c })) .nothing := by
  simp only [setLaneAnswer, h, Bool.or_eq_true, Bool.and_eq_true, decide_eq_true_eq]

/-- A configuration is taken while the tank has no allocation and no discharge (R55). -/
theorem setTankAnswer_some {v : TankSetting} {c : TankConfig} (h : tankConfigOf v = some c) :
    setTankAnswer v k s =
      if (s.tank k).draws ≠ [] ∨ s.discharging k = true then .refuse s .wrongState
      else .ok (blankIf (decide (c.lossLimit ≠ (s.tank k).cfg.lossLimit)) (.loss k)
        (blankIf (decide (c.highHigh ≠ (s.tank k).cfg.highHigh)) (.overfill k)
          (s.setTank k ((s.tank k).configure c)))) .nothing := by
  have hd : (!(s.tank k).draws.isEmpty) = true ↔ (s.tank k).draws ≠ [] := by cases (s.tank k).draws <;> simp
  simp only [setTankAnswer, h, Bool.or_eq_true, hd]

end

/-! ## Requests that name no lane or tank there is (R181, R182) -/

/-- R182: a request that names a lane or a tank above 7 addresses nothing, and its block answers RANGE. -/
theorem namesBeyond_serve {cmd : Instr} {f : Frame} {code : Byte} {k : RequestClass} (s : State) (hf : cmd.requestFrame = some f)
    (hc : requestCode cmd = some code) (hb : cmd.namesBeyond = true) (hk : cmd.requestClass = some k) :
    ∃ a act, exec cmd s = .next (serve f code (.classed k a) act s) ∧ a = .none ∧ act s = .refuse s .range := by
  cases cmd with
  | readLane f lane =>
    have h := of_decide_eq_true hb
    cases hf; cases hc; cases hk
    exact ⟨_, _, rfl, addressLane_beyond s h, onLane_beyond h _ s⟩
  | readTank f tank =>
    have h := of_decide_eq_true hb
    cases hf; cases hc; cases hk
    exact ⟨_, _, rfl, addressTank_beyond h, onTank_beyond h _ s⟩
  | placeOrder f tag tank volume priority expiry =>
    have h := of_decide_eq_true hb
    cases hf; cases hc; cases hk
    exact ⟨_, _, rfl, addressTank_beyond h, by simp [placeOrderAnswer, eightOf_none h]⟩
  | openLane f lane tag order preset hours override =>
    have h := of_decide_eq_true hb
    cases hf; cases hc; cases hk
    exact ⟨_, _, rfl, addressLane_beyond s h, by simp [openLaneAnswer, eightOf_none h]⟩
  | stopLane f lane =>
    have h := of_decide_eq_true hb
    cases hf; cases hc; cases hk
    exact ⟨_, _, rfl, addressLane_beyond s h, onLane_beyond h _ s⟩
  | enableLane f lane =>
    have h := of_decide_eq_true hb
    cases hf; cases hc; cases hk
    exact ⟨_, _, rfl, addressLane_beyond s h, onLane_beyond h _ s⟩
  | disableLane f lane =>
    have h := of_decide_eq_true hb
    cases hf; cases hc; cases hk
    exact ⟨_, _, rfl, addressLane_beyond s h, onLane_beyond h _ s⟩
  | setTankReserve f tank reserve =>
    have h := of_decide_eq_true hb
    cases hf; cases hc; cases hk
    exact ⟨_, _, rfl, addressTank_beyond h, onTank_beyond h _ s⟩
  | adjustStock f tank book clear =>
    have h := of_decide_eq_true hb
    cases hf; cases hc; cases hk
    exact ⟨_, _, rfl, addressTank_beyond h, onTank_beyond h _ s⟩
  | ackAlarms f tank =>
    have h := of_decide_eq_true hb
    cases hf; cases hc; cases hk
    exact ⟨_, _, rfl, addressTank_beyond h, onTank_beyond h _ s⟩
  | announceDelivery f tank identity docket =>
    have h := of_decide_eq_true hb
    cases hf; cases hc; cases hk
    exact ⟨_, _, rfl, addressTank_beyond h, by simp [announceAnswer, eightOf_none h]⟩
  | setLane f lane v =>
    have h : 7 < lane ∨ 7 < v.tank := by simpa [Instr.namesBeyond] using hb
    cases hf; cases hc; cases hk
    refine ⟨_, _, rfl, addressSetLane_beyond s h, ?_⟩
    by_cases hl : 7 < lane
    · exact onLane_beyond hl _ s
    · unfold onLane
      split
      · exact setLaneAnswer_range (laneConfigOf_none (Or.inl (h.resolve_left hl)))
      · rfl
  | setTank f tank v =>
    have h := of_decide_eq_true hb
    cases hf; cases hc; cases hk
    exact ⟨_, _, rfl, addressTank_beyond h, onTank_beyond h _ s⟩
  | setMeter f lane v =>
    have h := of_decide_eq_true hb
    cases hf; cases hc; cases hk
    exact ⟨_, _, rfl, addressLane_beyond s h, onLane_beyond h _ s⟩
  | setProduct f tank alpha =>
    have h := of_decide_eq_true hb
    cases hf; cases hc; cases hk
    exact ⟨_, _, rfl, addressTank_beyond h, onTank_beyond h _ s⟩
  | setStrapping f tank points =>
    have h := of_decide_eq_true hb
    cases hf; cases hc; cases hk
    exact ⟨_, _, rfl, addressTank_beyond h, onTank_beyond h _ s⟩
  | _ => cases hb

/-- A request that addresses nothing passes or fails on its class (R181). -/
theorem accessPasses_none (s : State) (i : PortId) (k : RequestClass) :
    accessPasses s i (.classed k .none) =
      (decide ((s.port i).level ≤ s.ports.openLevel) || !(s.port i).denial.classes.getLsbD k.index) := by
  simp [accessPasses, DenialMap.denies, Addressed.none]

/-- R182: a request beyond the lanes and tanks is judged on its class alone, and then RANGE. -/
theorem namesBeyond_answered {s : State} {f : Frame} {cmd : Instr} {code : Byte} {k : RequestClass}
    (hf : cmd.requestFrame = some f) (hc : requestCode cmd = some code) (hb : cmd.namesBeyond = true)
    (hk : cmd.requestClass = some k) (hp : s.device.phase = .running) (hr : (s.port f.port).ready = true) :
    ((s.port f.port).level ≤ s.ports.openLevel ∨ (s.port f.port).denial.classes.getLsbD k.index = false →
      ∃ t, exec cmd s = .next t ∧ s.onlyAnswers t f code .range .nothing) ∧
    (s.ports.openLevel < (s.port f.port).level → (s.port f.port).denial.classes.getLsbD k.index = true →
      ∃ t, exec cmd s = .next t ∧ s.onlyAnswers t f code .denied .nothing) := by
  obtain ⟨a, act, he, rfl, hact⟩ := namesBeyond_serve s hf hc hb hk
  rw [he]
  refine ⟨fun h => ⟨_, rfl, ?_⟩, fun hl hd => ⟨_, rfl, ?_⟩⟩
  · have ha : accessPasses s f.port (.classed k .none) = true := by rw [accessPasses_none]; simpa using h
    rw [serve_taken hp hr ha, hact]
    exact reply_onlyAnswers _ _ _ _ _
  · have ha : accessPasses s f.port (.classed k .none) = false := by
      rw [accessPasses_none, hd, decide_eq_false (by omega)]; rfl
    have hs : serve f code (.classed k .none) act s = s.reply f code .denied .nothing := by
      simp [serve, hp, hr, ha]
    rw [hs]
    exact reply_onlyAnswers _ _ _ _ _

/-! ## The configuration set -/

section

variable {s : State} {f : Frame}

/-- SET_LANE accepted: the configuration, and the HOSE source blanked where the creep limit changes (R31, R149). -/
theorem setLane_accepted {l : Lane} {v : LaneSetting} {c : LaneConfig} (h : s.takes f (.setLane f l.val v) = true)
    (hc : laneConfigOf v = some c)
    (hs : (s.lane l).state = .disabled ∨ ((s.lane l).state = .idle ∧ c.tank = (s.lane l).cfg.tank)) :
    ∃ t, exec (.setLane f l.val v) s = .next t ∧ t.answers f 0x58#8 .ok .nothing ∧ s.otherPorts t f.port ∧ s.otherLanes t l ∧
      t.lane l = { s.lane l with cfg := c } ∧
      t = { s with lanes := t.lanes, ports := t.ports, spill := { s.spill with sources := t.spill.sources } } ∧
      (∀ j, j ≠ .hose l → t.source j = s.source j) ∧
      t.source (.hose l) =
        (if c.creepLimit = (s.lane l).cfg.creepLimit then s.source (.hose l)
        else { s.source (.hose l) with run := 0, blanking := 4 }) := by
  have hn : ¬((s.lane l).state.isOpen = true ∨ ((s.lane l).state = .idle ∧ c.tank ≠ (s.lane l).cfg.tank)) := by
    rcases hs with hs | ⟨hs, ht⟩ <;> simp [LaneState.isOpen, *]
  obtain ⟨u, hu⟩ : ∃ u, u = blankIf (decide (c.creepLimit ≠ (s.lane l).cfg.creepLimit)) (.hose l)
    (s.setLane l { s.lane l with cfg := c }) := ⟨_, rfl⟩
  have hb : u = { s.setLane l { s.lane l with cfg := c } with spill := { s.spill with sources := u.spill.sources } } := by
    rw [hu]; exact blankIf_eq _ _ _
  have hx : ∀ j, u.source j =
      if c.creepLimit ≠ (s.lane l).cfg.creepLimit ∧ j = .hose l then { s.source j with run := 0, blanking := 4 } else s.source j :=
    fun j => by rw [hu, blankIf_source]; simp only [decide_eq_true_eq]; rfl
  have he := setLane_exec h
  rw [setLaneAnswer_some hc, if_neg hn, ← hu] at he
  have hl : ∀ j, (u.reply f 0x58#8 .ok .nothing).lane j = (s.setLane l { s.lane l with cfg := c }).lane j := fun j => by
    rw [reply_lane, hb]; rfl
  refine ⟨_, he, reply_answers _ _ _ _ _, (reply_ports (by rw [hb]; rfl) f _ _ _).1, fun j hj => ?_, ?_, ?_, fun j hj => ?_, ?_⟩
  · exact (hl j).trans (State.lane_setLane_ne _ _ _ _ hj)
  · exact (hl l).trans (State.lane_setLane_same _ _ _)
  · show State.reply _ _ _ _ _ = _
    rw [hb]; rfl
  · show u.source j = _
    rw [hx, if_neg (fun h => hj h.2)]
  · show u.source (.hose l) = _
    rw [hx]
    by_cases hcr : c.creepLimit = (s.lane l).cfg.creepLimit <;> simp [hcr]

/-- SET_TANK accepted: the tank configured, and the sources blanked that a changed limit feeds (R55, R149). -/
theorem setTank_accepted {k : Tank} {v : TankSetting} {c : TankConfig} (h : s.takes f (.setTank f k.val v) = true)
    (hc : tankConfigOf v = some c) (hd : (s.tank k).draws = []) (hg : s.discharging k = false) :
    ∃ t, exec (.setTank f k.val v) s = .next t ∧ t.answers f 0x59#8 .ok .nothing ∧ s.otherPorts t f.port ∧ s.otherTanks t k ∧
      t = { s with tanks := t.tanks, ports := t.ports, spill := { s.spill with sources := t.spill.sources } } ∧
      t.tank k = (s.tank k).configure c ∧
      t.source (.overfill k) =
        (if c.highHigh = (s.tank k).cfg.highHigh then s.source (.overfill k)
        else { s.source (.overfill k) with run := 0, blanking := 4 }) ∧
      t.source (.loss k) =
        (if c.lossLimit = (s.tank k).cfg.lossLimit then s.source (.loss k)
        else { s.source (.loss k) with run := 0, blanking := 4 }) ∧
      ∀ i, i ≠ .overfill k → i ≠ .loss k → t.source i = s.source i := by
  have hn : ¬((s.tank k).draws ≠ [] ∨ s.discharging k = true) := by simp [hd, hg]
  obtain ⟨w, hw⟩ : ∃ w, w = blankIf (decide (c.highHigh ≠ (s.tank k).cfg.highHigh)) (.overfill k)
    (s.setTank k ((s.tank k).configure c)) := ⟨_, rfl⟩
  obtain ⟨u, hu⟩ : ∃ u, u = blankIf (decide (c.lossLimit ≠ (s.tank k).cfg.lossLimit)) (.loss k) w := ⟨_, rfl⟩
  have hb : u = { s.setTank k ((s.tank k).configure c) with spill := { s.spill with sources := u.spill.sources } } := by
    have h1 : u = { w with spill := { w.spill with sources := u.spill.sources } } := by rw [hu]; exact blankIf_eq _ _ _
    have h2 : w = { s.setTank k ((s.tank k).configure c) with spill := { s.spill with sources := w.spill.sources } } := by
      rw [hw]; exact blankIf_eq _ _ _
    rw [h1, h2]
  have hx : ∀ j, u.source j =
      if c.lossLimit ≠ (s.tank k).cfg.lossLimit ∧ j = .loss k ∨ c.highHigh ≠ (s.tank k).cfg.highHigh ∧ j = .overfill k then
        { s.source j with run := 0, blanking := 4 }
      else s.source j := fun j => by
    rw [hu, blankIf_source, hw, blankIf_source]
    simp only [decide_eq_true_eq]
    by_cases h1 : j = .loss k
    · subst h1; simp
    · simp [h1]
  have he := setTank_exec h
  rw [setTankAnswer_some hc, if_neg hn, ← hw, ← hu] at he
  have ht : ∀ j, (u.reply f 0x59#8 .ok .nothing).tank j = (s.setTank k ((s.tank k).configure c)).tank j := fun j => by
    show u.tank j = _
    rw [hb]; rfl
  refine ⟨_, he, reply_answers _ _ _ _ _, (reply_ports (by rw [hb]; rfl) f _ _ _).1, fun j hj => ?_, ?_, ?_, ?_, ?_,
    fun i h1 h2 => ?_⟩
  · exact (ht j).trans (State.tank_setTank_ne _ _ _ _ hj)
  · show State.reply _ _ _ _ _ = _
    rw [hb]; rfl
  · exact (ht k).trans (State.tank_setTank_same _ _ _)
  · show u.source _ = _
    rw [hx]
    by_cases hh : c.highHigh = (s.tank k).cfg.highHigh <;> simp [hh]
  · show u.source _ = _
    rw [hx]
    by_cases hh : c.lossLimit = (s.tank k).cfg.lossLimit <;> simp [hh]
  · show u.source i = _
    rw [hx, if_neg (by simp [h1, h2])]

end

/-- Settles O52: the ranges read off the configuration, the states by the two answers, the numbers beyond by the access check. -/
theorem laneAndTankConfiguration : Obligations.LaneAndTankConfiguration := by
  intro s f
  refine ⟨fun l v h => ⟨fun h1 h2 h3 h4 h5 h6 h7 h8 h9 h10 h11 h12 h13 h14 h15 => ?_, fun hr => ⟨_, setLane_exec h, ?_⟩⟩,
    fun cmd code k hf hc hb hk hp hr => namesBeyond_answered hf hc hb hk hp hr,
    fun k v h => ⟨fun cls hcls hg h1 h2 h3 h4 h5 h6 h7 h8 h9 h10 h11 => ?_, fun hr => ⟨_, setTank_exec h, ?_⟩⟩⟩
  · have hc := laneConfigOf_some h1 h2 h3 h4 h5 h6 h7 h8 h9 h10 h11 h12 h13 h14 h15
    have htank : (⟨v.tank, h1⟩ : Tank) = (s.lane l).cfg.tank ↔ v.tank = (s.lane l).cfg.tank.val := Fin.ext_iff
    refine ⟨fun hs => ?_, fun hs => ⟨_, setLane_exec h, ?_⟩⟩
    · obtain ⟨t, he, ha, hp, ho, hl, ht, hx, hh⟩ :=
        setLane_accepted h hc (hs.imp_right fun hs => ⟨hs.1, htank.2 hs.2⟩)
      exact ⟨t, _, he, ha, hp, ho, hl, rfl, rfl, rfl, rfl, rfl, rfl, rfl, rfl, rfl, rfl, ht, hx, hh⟩
    · rw [setLaneAnswer_some hc, if_pos (hs.imp_right fun hs => ⟨hs.1, fun e => hs.2 (htank.1 e)⟩)]
      exact reply_onlyAnswers _ _ _ _ _
  · rw [setLaneAnswer_range (laneConfigOf_none hr)]
    exact reply_onlyAnswers _ _ _ _ _
  · obtain ⟨c, hc⟩ : ∃ c, c = (⟨cls, v.capacity, decide (v.gaugeFitted = 1), v.lowLow, v.low, v.high, v.highHigh, v.zoneDebounce,
      v.minFill, v.lossLimit, v.lossWindow⟩ : TankConfig) := ⟨_, rfl⟩
    have hcfg := (tankConfigOf_some hcls hg h1 h2 h3 h4 h5 h6 h7 h8 h9 h10 h11).trans (congrArg some hc.symm)
    refine ⟨fun hd hdis => ?_, fun hs => ⟨_, setTank_exec h, ?_⟩⟩
    · obtain ⟨t, he, ha, hp, ho, ht, hk, hover, hloss, hx⟩ := setTank_accepted h hcfg hd hdis
      rw [hc] at hover hloss
      have hcapacity : c.capacity = v.capacity := by rw [hc]
      have hfitted : c.gaugeFitted = decide (v.gaugeFitted = 1) := by rw [hc]
      obtain ⟨b1, b2, b3, b4, b5⟩ := configure_store (s.tank k) c
      rw [hcapacity] at b2
      refine ⟨t, c, he, ha, hp, ho, ht, by rw [hk, b1], by rw [hc], hcapacity, hfitted, by rw [hc], by rw [hc], by rw [hc],
        by rw [hc], by rw [hc], by rw [hc], by rw [hc], by rw [hc], by rw [hk, b2], by rw [hk, b3], by rw [hk, b4], by rw [hk, b5],
        fun hfit hv => ?_, fun hfit => ?_, hover, hloss, hx⟩
      · have hrem := configure_removed (k := s.tank k) (c := c) hfit (by rw [hfitted, hv]; rfl)
        rw [hcapacity] at hrem
        rw [hk]
        exact hrem
      · have hkept := configure_kept (k := s.tank k) (c := c) (hfit.imp_right fun e => by rw [hfitted, e]; rfl)
        rw [hcapacity] at hkept
        have hzones := zonesDiffer_iff (s.tank k).cfg c
        have hlosses := lossDiffers_iff (s.tank k).cfg c
        have ez : c.lowLow = v.lowLow ∧ c.low = v.low ∧ c.high = v.high ∧ c.highHigh = v.highHigh ∧
            c.zoneDebounce = v.zoneDebounce ∧ c.lossLimit = v.lossLimit ∧ c.lossWindow = v.lossWindow := by
          rw [hc]; exact ⟨rfl, rfl, rfl, rfl, rfl, rfl, rfl⟩
        obtain ⟨ll, lo, hi, hh, db, lm, lw⟩ := ez
        rw [ll, lo, hi, hh, db] at hzones
        rw [lm, lw] at hlosses
        rw [hk]
        refine ⟨?_, ?_, fun hz => ?_, fun e1 e2 e3 e4 e5 => ?_, fun hl => ?_, fun e1 e2 => ?_⟩
        · rw [hkept]
        · rw [hkept]; simp only [hfitted, decide_eq_true_eq]
        · rw [hkept]; exact if_pos (hzones.2 hz)
        · have hz : ¬(s.tank k).cfg.zonesDiffer c = true := fun hz => by simp [e1, e2, e3, e4, e5, hz] at hzones
          rw [hkept]; exact if_neg hz
        · rw [hkept]; exact ⟨if_pos (hlosses.2 hl), if_pos (hlosses.2 hl)⟩
        · have hz : ¬(s.tank k).cfg.lossDiffers c = true := fun hz => by simp [e1, e2, hz] at hlosses
          rw [hkept]; exact ⟨if_neg hz, if_neg hz⟩
    · rw [setTankAnswer_some hcfg, if_pos hs]
      exact reply_onlyAnswers _ _ _ _ _
  · rw [setTankAnswer_range (tankConfigOf_none hr)]
    exact reply_onlyAnswers _ _ _ _ _

end Sys2Proof.Machine
end

section
/-! OPEN_LANE refused: each check of the model is judged by its clauses of R32's table, and the first that fails gives the status
(R32, R33, R65, R101, R102, R116, R119, R128). -/

namespace Sys2Proof.Machine

/-! ## A check judged by its clauses -/

/-- A check that answers the first of its clauses that fails, and nothing where none fails. -/
def judgedBy (x : Option Status) (cs : List (Prop × Status)) : Prop :=
  (∀ st, firstFailed st cs → x = some st) ∧ ((∀ c ∈ cs, ¬c.1) → x = none)

theorem judgedBy_one {x : Option Status} {p : Prop} {st : Status} (hp : p → x = some st) (hn : ¬p → x = none) :
    judgedBy x [(p, st)] := by
  refine ⟨?_, fun h => hn (h _ List.mem_cons_self)⟩
  rintro st' (⟨hc, rfl⟩ | ⟨-, ⟨⟩⟩)
  exact hp hc

/-- The first clause decides, or the others judge what remains. -/
theorem judgedBy_cons {x : Option Status} {p : Prop} {st : Status} {cs : List (Prop × Status)} (hp : p → x = some st)
    (hn : ¬p → judgedBy x cs) : judgedBy x ((p, st) :: cs) := by
  refine ⟨?_, fun h => (hn (h _ List.mem_cons_self)).2 fun c hc => h c (List.mem_cons_of_mem _ hc)⟩
  rintro st' (⟨hc, rfl⟩ | ⟨hc, hf⟩)
  · exact hp hc
  · exact (hn hc).1 _ hf

theorem firstFailed_append {st : Status} (xs ys : List (Prop × Status)) (h : firstFailed st (xs ++ ys)) :
    firstFailed st xs ∨ ((∀ c ∈ xs, ¬c.1) ∧ firstFailed st ys) := by
  induction xs with
  | nil => exact Or.inr ⟨fun _ hc => absurd hc List.not_mem_nil, h⟩
  | cons c xs ih =>
    rcases h with h | ⟨hc, h⟩
    · exact Or.inl (Or.inl h)
    · rcases ih h with h | ⟨hxs, h⟩
      · exact Or.inl (Or.inr ⟨hc, h⟩)
      · exact Or.inr ⟨List.forall_mem_cons.2 ⟨hc, hxs⟩, h⟩

/-- Checks in order are judged by their clauses in order. -/
theorem judgedBy_checks {x : Option Status} {xs : List (Option Status)} {cs ds : List (Prop × Status)} (hx : judgedBy x cs)
    (hxs : judgedBy (firstRefusal xs) ds) : judgedBy (firstRefusal (x :: xs)) (cs ++ ds) := by
  refine ⟨fun st h => ?_, fun h => ?_⟩
  · rcases firstFailed_append cs ds h with h | ⟨hcs, h⟩
    · rw [hx.1 st h]; rfl
    · rw [hx.2 hcs]; exact hxs.1 st h
  · rw [hx.2 fun c hc => h c (List.mem_append_left _ hc)]
    exact hxs.2 fun c hc => h c (List.mem_append_right _ hc)

theorem judgedBy_if {p : Prop} [Decidable p] (st : Status) : judgedBy (if p then some st else none) [(p, st)] :=
  judgedBy_one (fun h => if_pos h) fun h => if_neg h

theorem judgedBy_none : judgedBy (firstRefusal []) [] := ⟨fun _ h => (nomatch h), fun _ => rfl⟩

theorem firstFailed_congr {st : Status} {cs ds : List (Prop × Status)}
    (h : List.Forall₂ (fun c d => (c.1 ↔ d.1) ∧ c.2 = d.2) cs ds) (hf : firstFailed st cs) : firstFailed st ds := by
  induction h with
  | nil => exact hf
  | cons hcd _ ih =>
    rcases hf with ⟨hc, rfl⟩ | ⟨hc, hf⟩
    · exact Or.inl ⟨hcd.1.1 hc, hcd.2⟩
    · exact Or.inr ⟨fun hd => hc (hcd.1.2 hd), ih hf⟩

/-! ## Steps 1 to 6 (R32, R116, R119) -/

theorem openStateCheck_judged (x : LaneState) :
    judgedBy (openStateCheck x) [(x = .disabled, .disabled), (x.isOpen = true, .wrongState)] :=
  judgedBy_cons (fun h => by rw [h]; rfl) fun h =>
    judgedBy_one (fun ho => by cases x <;> simp [LaneState.isOpen, openStateCheck] at ho ⊢)
      (fun ho => by cases x <;> simp [LaneState.isOpen, openStateCheck] at h ho ⊢)

theorem openTankCheck_judged (k : TankUnit) :
    judgedBy (openTankCheck k) [(k.zone = .lowLow, .tankLow), (k.cfg.gaugeFitted = true ∧ k.gaugeValid = false, .gauge)] :=
  judgedBy_cons (fun h => if_pos h) fun h =>
    judgedBy_one (fun hg => by simp [openTankCheck, h, hg]) fun hg => by
      simp only [openTankCheck, if_neg h]
      exact if_neg (by simpa using hg)

theorem accountCheck_judged (fa : Option (Nat × Account)) (t : Tank) :
    judgedBy (accountCheck fa t)
      [(fa = none, .notFound), (∃ i a, fa = some (i, a) ∧ a.suspended = true, .accountHeld),
       (∃ i a, fa = some (i, a) ∧ inSet a.permits t = false, .notPermitted)] :=
  match fa with
  | none => judgedBy_cons (fun _ => rfl) fun h => absurd rfl h
  | some (i, a) =>
    judgedBy_cons (fun h => (nomatch h)) fun _ =>
      judgedBy_cons (by rintro ⟨_, _, ⟨⟩, h⟩; exact if_pos h) fun hs =>
        have hs : ¬a.suspended = true := fun h => hs ⟨i, a, rfl, h⟩
        judgedBy_one (by rintro ⟨_, _, ⟨⟩, h⟩; simp [accountCheck, hs, h]) fun hp => by
          have hp : inSet a.permits t = true := by simpa using fun h => hp ⟨i, a, rfl, h⟩
          simp [accountCheck, hs, hp]

theorem secondOpen_judged (s : State) (l : Lane) (t : Tank) (tag : Tag) :
    judgedBy (if s.secondOpen l t tag then some .wrongState else none)
      [(∃ j c, j ≠ l ∧ (s.lane j).cfg.tank = t ∧ (s.lane j).ctx = some c ∧ c.tag = tag, .wrongState)] := by
  refine judgedBy_one (fun ⟨j, c, hj, ht, hc, htag⟩ => if_pos ?_) fun h => if_neg ?_
  · simp only [State.secondOpen, List.any_eq_true, Bool.and_eq_true, decide_eq_true_eq, Option.any_eq_true]
    exact ⟨j, mem_allEight j, ⟨hj, ht⟩, c, hc, htag⟩
  · rw [secondOpen_false fun j c hj ht hc htag => h ⟨j, c, hj, ht, hc, htag⟩]
    exact Bool.false_ne_true

theorem openOrderCheck_judged (n : Nat) (os : List Order) (tag : Tag) (t : Tank) :
    judgedBy (openOrderCheck n (namedOrder os n) tag t)
      [(n ≠ 0 ∧ findOrder os n = none, .notFound), (∃ o, n ≠ 0 ∧ findOrder os n = some o ∧ o.claimedBy.isSome = true, .wrongState),
       (∃ o, n ≠ 0 ∧ findOrder os n = some o ∧ ¬(o.tag = tag ∧ o.tank = t), .range)] := by
  by_cases hn : n = 0
  · exact judgedBy_cons (fun h => absurd hn h.1) fun _ =>
      judgedBy_cons (fun ⟨_, h, _⟩ => absurd hn h) fun _ => judgedBy_one (fun ⟨_, h, _⟩ => absurd hn h) fun _ => if_pos hn
  · rw [namedOrder, if_neg hn]
    cases findOrder os n with
    | none => exact judgedBy_cons (fun _ => if_neg hn) fun h => absurd ⟨hn, rfl⟩ h
    | some o =>
      refine judgedBy_cons (fun h => (nomatch h.2)) fun _ => judgedBy_cons ?_ fun hc => judgedBy_one ?_ fun ht => ?_
      · rintro ⟨_, _, ⟨⟩, h⟩; simp [openOrderCheck, hn, h]
      · rintro ⟨_, _, ⟨⟩, h⟩
        have hc : ¬o.claimedBy.isSome = true := fun hc' => hc ⟨o, hn, rfl, hc'⟩
        simp only [openOrderCheck, if_neg hn, if_neg hc, if_neg h]
      · have hc : ¬o.claimedBy.isSome = true := fun hc' => hc ⟨o, hn, rfl, hc'⟩
        have ht : o.tag = tag ∧ o.tank = t := by_contra fun h => ht ⟨o, hn, rfl, h⟩
        simp only [openOrderCheck, if_neg hn, if_neg hc, if_pos ht]

/-- The clauses of steps 1 to 6 of R32. -/
def openRefusalClauses (s : State) (l : Lane) (tag : Tag) (n : Nat) : List (Prop × Status) :=
  let k := s.tank (s.lane l).cfg.tank
  [((s.lane l).state = .disabled, .disabled),
   ((s.lane l).state.isOpen = true, .wrongState),
   (s.laneBlocked l = true, .tripped),
   (k.zone = .lowLow, .tankLow),
   (k.cfg.gaugeFitted = true ∧ k.gaugeValid = false, .gauge),
   (findAccount s.accounts.slots tag = none, .notFound),
   (∃ i a, findAccount s.accounts.slots tag = some (i, a) ∧ a.suspended = true, .accountHeld),
   (∃ i a, findAccount s.accounts.slots tag = some (i, a) ∧ inSet a.permits (s.lane l).cfg.tank = false, .notPermitted),
   (∃ j c, j ≠ l ∧ (s.lane j).cfg.tank = (s.lane l).cfg.tank ∧ (s.lane j).ctx = some c ∧ c.tag = tag, .wrongState),
   (n ≠ 0 ∧ findOrder s.orders.orders n = none, .notFound),
   (∃ o, n ≠ 0 ∧ findOrder s.orders.orders n = some o ∧ o.claimedBy.isSome = true, .wrongState),
   (∃ o, n ≠ 0 ∧ findOrder s.orders.orders n = some o ∧ ¬(o.tag = tag ∧ o.tank = (s.lane l).cfg.tank), .range)]

theorem openRefusal_judged (r : OpenRequest) (s : State) :
    judgedBy (openRefusal r s) (openRefusalClauses s r.lane r.tag r.order) :=
  judgedBy_checks (openStateCheck_judged _) <| judgedBy_checks (judgedBy_if _) <| judgedBy_checks (openTankCheck_judged _) <|
    judgedBy_checks (accountCheck_judged _ _) <| judgedBy_checks (secondOpen_judged _ _ _ _) <|
      judgedBy_checks (openOrderCheck_judged _ _ _ _) judgedBy_none

/-! ## Steps 7 to 10 (R33, R65, R101, R102, R128) -/

theorem hoursCheck_refused_iff (a : Account) (required : Bool) (reading : Option Nat) (isSet : Bool) (now : Nat) (override : Bool) :
    hoursCheck a required reading (if isSet then some now else none) override = .refused ↔
      (reading = none ∧ required = true) ∨
        ∃ h, reading = some h ∧
          (9999999 < h ∨
            ∃ last, a.hoursLast = some last ∧
              (h < last ∨ (¬override = true ∧ isSet = true ∧ ∃ fill, a.lastFill = some fill ∧ gapAllowed now fill < h - last))) := by
  cases reading with
  | none => cases required <;> simp [hoursCheck]
  | some h =>
    simp only [hoursCheck, Config.maxHours, reduceCtorEq, false_and, false_or, Option.some.injEq, exists_eq_left']
    by_cases hm : 9999999 < h
    · simp [hm]
    · cases a.hoursLast with
      | none => simp [hm]
      | some last =>
        by_cases hl : h < last
        · simp [hl]
        · cases isSet with
          | false => simp [hm, hl]
          | true =>
            cases a.lastFill with
            | none => simp [hm, hl]
            | some fill =>
              by_cases hg : h ≤ gapAllowed now fill + last
              · simp [hm, hl, hg, Nat.lt_sub_iff_add_lt]
              · cases override <;> simp [hm, hl, hg, Nat.lt_sub_iff_add_lt, Nat.not_le.1 hg]

/-- The volume that R33 takes as the preset, before its range and its clamp. -/
def presetIs (asked : Option Nat) (ord : Option Order) (capacity p : Nat) : Prop :=
  asked = some p ∨ (asked = none ∧ ord = none ∧ p = capacity) ∨ (asked = none ∧ ∃ o, ord = some o ∧ p = o.volume)

theorem choosePreset_none_iff (asked : Option Nat) (ord : Option Order) (cls : ProductClass) (capacity : Nat) :
    choosePreset asked ord cls capacity = none ↔
      (∃ p, asked = some p ∧ (p = 0 ∨ 2000000 < p)) ∨ (asked = none ∧ ord = none ∧ cls ≠ .fuel) := by
  cases asked with
  | none =>
    cases ord with
    | none => simp [choosePreset]
    | some o => simp [choosePreset]
  | some p =>
    have hw : within 1 Config.maxPreset p = true ↔ ¬(p = 0 ∨ 2000000 < p) := by
      rw [within_iff, Config.maxPreset]; omega
    by_cases h : p = 0 ∨ 2000000 < p
    · have hn : ¬within 1 Config.maxPreset p = true := fun hc => hw.1 hc h
      simp [choosePreset, hn, h]
    · simp [choosePreset, hw.2 h, h]

theorem choosePreset_presetIs {asked : Option Nat} {ord : Option Order} {cls : ProductClass} {capacity p : Nat}
    (h : choosePreset asked ord cls capacity = some p) (q : Nat) : presetIs asked ord capacity q ↔ q = p := by
  cases asked with
  | none =>
    cases ord with
    | none =>
      simp only [choosePreset, Option.ite_none_right_eq_some, Option.some.injEq] at h
      simp [presetIs, h.2]
    | some o =>
      simp only [choosePreset, Option.some.injEq] at h
      simp [presetIs, h]
  | some m =>
    simp only [choosePreset, Option.ite_none_right_eq_some, Option.some.injEq] at h
    simp [presetIs, h.2, eq_comm]

theorem grant_none_iff (k : TankUnit) (priority : Bool) (p : Nat) :
    k.grant priority p = none ↔
      k.available priority < p ∧ (k.available priority < k.cfg.minFill ∨ k.available priority = 0) := by
  simp only [TankUnit.grant]
  by_cases h1 : p ≤ k.available priority
  · simp [h1]
  · by_cases h2 : k.cfg.minFill ≤ k.available priority ∧ 0 < k.available priority
    · rw [if_neg h1, if_pos h2]; simp; omega
    · rw [if_neg h1, if_neg h2]; simp; omega

theorem refusesOpen_iff (q : RecordQueue) :
    q.refusesOpen = true ↔ 64 ≤ q.completed.length + setCount q.reserved ∧ q.policy = .hold := by
  have hf : q.free = 0 ↔ 64 ≤ q.completed.length + setCount q.reserved := by
    show 64 - (q.completed.length + setCount q.reserved) = 0 ↔ _
    omega
  simp [RecordQueue.refusesOpen, hf]

/-- The refusal of a judged request, if it is one. -/
def refusalOf : Status ⊕ OpenGrant → Option Status
  | .inl st => some st
  | .inr _ => none

/-- Steps 8 to 10, for the machine's entry (R33, R65, R128). -/
theorem openGrant_judged (r : OpenRequest) (a : Account) (h : HoursResult) (s : State) :
    judgedBy (refusalOf (openGrant r a h s))
      [(choosePreset r.preset (namedOrder s.orders.orders r.order) (s.tank (s.lane r.lane).cfg.tank).cfg.cls a.capacity = none,
          .range),
       (∃ p, presetIs r.preset (namedOrder s.orders.orders r.order) a.capacity p ∧
          (s.tank (s.lane r.lane).cfg.tank).grant ((namedOrder s.orders.orders r.order).any (fun o => o.priority))
            (clampToCapacity (s.tank (s.lane r.lane).cfg.tank).cfg.cls a.capacity p) = none, .noStock),
       (s.records.refusesOpen = true, .full)] := by
  refine judgedBy_cons (fun hp => by simp only [openGrant, hp, refusalOf]) fun hp => ?_
  obtain ⟨p, hp⟩ := Option.ne_none_iff_exists'.1 hp
  refine judgedBy_cons ?_ fun hg => ?_
  · rintro ⟨q, hq, hg⟩
    rw [choosePreset_presetIs hp] at hq
    subst hq
    simp only [openGrant, hp, hg, refusalOf]
  · obtain ⟨q, hq⟩ := Option.ne_none_iff_exists'.1 fun hn => hg ⟨p, (choosePreset_presetIs hp p).2 rfl, hn⟩
    exact judgedBy_one (fun hf => by simp only [openGrant, hp, hq, hf, if_true, refusalOf]) fun hf => by
      simp only [openGrant, hp, hq, if_neg hf, refusalOf]

section

variable {n : Nat} {os : List Order}

theorem namedOrder_some_iff (o : Order) : namedOrder os n = some o ↔ n ≠ 0 ∧ findOrder os n = some o := by
  unfold namedOrder
  split <;> simp_all

theorem namedOrder_none_iff (h : ¬(n ≠ 0 ∧ findOrder os n = none)) : namedOrder os n = none ↔ n = 0 := by
  unfold namedOrder
  split <;> simp_all

theorem namedOrder_priority :
    (namedOrder os n).any (fun o => o.priority) = true ↔ n ≠ 0 ∧ (findOrder os n).any (fun o => o.priority) = true := by
  unfold namedOrder
  split <;> simp_all

/-- Step 9 in the statement's terms. -/
theorem grant_none_iff_named (k : TankUnit) (capacity p : Nat) :
    k.grant ((namedOrder os n).any (fun o => o.priority)) (clampToCapacity k.cfg.cls capacity p) = none ↔
      ∃ avail,
        avail = (if n ≠ 0 ∧ (findOrder os n).any (fun o => o.priority) = true then k.book - allocated k.draws
          else k.book - allocated k.draws - k.reserve) ∧
        avail < (if k.cfg.cls = .fuel then min p capacity else p) ∧ (avail < k.cfg.minFill ∨ avail = 0) := by
  rw [grant_none_iff, exists_eq_left, TankUnit.available]
  simp only [namedOrder_priority, clampToCapacity]

end

/-- The requests that pass steps 1 to 6 have an account, and are judged by steps 7 to 10. -/
theorem openChecks_judged {r : OpenRequest} {s : State} {i : Nat} {a : Account} {hours : Prop} {cs : List (Prop × Status)}
    (hr : openRefusal r s = none) (ha : findAccount s.accounts.slots r.tag = some (i, a))
    (hh : hoursCheck a (s.accounts.classes.get a.cls).hoursRequired r.hours (if s.time.isSet then some s.time.clock else none)
      r.override = .refused ↔ hours)
    (hg : ∀ h, judgedBy (refusalOf (openGrant r a h s)) cs) : judgedBy (refusalOf (openChecks r s)) ((hours, .hours) :: cs) := by
  refine judgedBy_cons (fun h => ?_) fun h => ?_
  · simp only [openChecks, hr, ha, hh.2 h, refusalOf]
  · rw [openChecks_passed hr ha rfl fun hc => h (hh.1 hc)]
    exact hg _

theorem openLaneAnswer_beyond {lane override : Nat} (h : 7 < lane ∨ 1 < override) (i : PortId) (tag : Tag) (n : Nat)
    (preset hours : Option Nat) (s : State) : openLaneAnswer i lane tag n preset hours override s = .refuse s .range := by
  unfold openLaneAnswer
  rcases h with h | h
  · rw [eightOf_none h]
  · rw [flagOf_gt h]
    cases eightOf lane <;> rfl

/-- A refused OPEN_LANE answers its status and changes nothing else. -/
theorem openAnswer_refused {r : OpenRequest} {s : State} {st : Status} (h : refusalOf (openChecks r s) = some st) :
    openAnswer r s = .refuse s st := by
  unfold openAnswer
  cases hc : openChecks r s with
  | inl st' => rw [hc] at h; exact congrArg (Answer.refuse s) (Option.some.inj h)
  | inr g => rw [hc] at h; cases h

/-- Settles O40: the checks are judged by the clauses of R32's table in their order, and a refused OPEN_LANE only answers. -/
theorem openLaneFirstFailedCheck : Obligations.OpenLaneFirstFailedCheck := by
  refine ⟨fun s f l tag n preset hours override st k htakes hk hf => ?_, fun s f lane tag n preset hours override htakes h =>
    ⟨_, congrArg Host.Outcome.next (serve_refuses htakes rfl (openLaneAnswer_beyond h _ _ _ _ _ s)), reply_onlyAnswers _ _ _ _ _⟩⟩
  subst hk
  obtain ⟨y, hy, rfl⟩ := openLane_exec htakes
  suffices hr : refusalOf (openChecks (s.openRequest f l tag n preset hours override) s) = some st by
    rw [openAnswer_refused hr] at hy
    exact ⟨_, hy, reply_onlyAnswers _ _ _ _ _⟩
  have hjudged := openRefusal_judged (s.openRequest f l tag n preset hours override) s
  rcases firstFailed_append (openRefusalClauses s l tag n) _ hf with hf | ⟨hpass, hf⟩
  · simp only [openChecks, hjudged.1 st hf, refusalOf]
  · have hnone := hjudged.2 hpass
    simp only [openRefusalClauses, List.forall_mem_cons] at hpass
    obtain ⟨-, -, -, -, -, hacc, -, -, -, hord, -⟩ := hpass
    obtain ⟨⟨i, a⟩, ha⟩ := Option.ne_none_iff_exists'.1 hacc
    refine (openChecks_judged hnone ha Iff.rfl fun h => openGrant_judged _ a h s).1 st (firstFailed_congr ?_ hf)
    refine .cons ⟨?_, rfl⟩ (.cons ⟨?_, rfl⟩ (.cons ⟨?_, rfl⟩ (.cons ⟨(refusesOpen_iff _).symm, rfl⟩ .nil)))
    · simp only [ha, Option.some.injEq, Prod.mk.injEq, and_assoc, exists_and_left, exists_eq_left', hoursCheck_refused_iff,
        State.openRequest, Bool.and_eq_true, decide_eq_true_eq]
      rfl
    · simp only [State.openRequest, choosePreset_none_iff, namedOrder_none_iff hord]
    · simp only [ha, Option.some.injEq, Prod.mk.injEq, and_assoc, exists_and_left, exists_eq_left', State.openRequest, presetIs,
        namedOrder_none_iff hord, namedOrder_some_iff, grant_none_iff_named]

end Sys2Proof.Machine
end

section
/-! ADJUST_STOCK and ACK_ALARMS: what ends and cuts do to the draw lists, the trim that one cut covers, and the flags acknowledged
(R44, R63, R66, R67, R73). -/

namespace Sys2Proof.Machine

section

variable {s : State} {l : Lane} {c : Context}

/-! ## The draw lists after an end (R38, R46, R64) -/

theorem closeLane_tank_ne (l : Lane) (s : State) {j : Tank} (h : j ≠ (s.lane l).cfg.tank) : (closeLane l s).tank j = s.tank j := by
  unfold closeLane
  dsimp only
  split
  · rfl
  · rw [dropDemand_tank_ne _ _ _ h, post_tank, State.tank_setLane, postIf_tank]
    simp [State.tank, State.setTank, Eight.get_set_ne _ _ _ _ h]

theorem endLane_tank_ne (l : Lane) (r : EndReason) (s : State) {j : Tank} (h : j ≠ (s.lane l).cfg.tank) :
    (endLane l r s).tank j = s.tank j := by
  rcases endLane_cases l r s with ⟨_, e⟩ | ⟨_, e⟩ | ⟨_, e⟩ <;> rw [e]
  · rw [closeLane_tank_ne _ _ (by rw [State.lane_setLane_same]; simpa [LaneUnit.setReason] using h)]; rfl
  · rw [dropDemand_tank_ne _ _ _ h]; rfl

theorem endLane_allocated (l : Lane) (r : EndReason) (s : State) (j : Tank) :
    allocated ((endLane l r s).tank j).draws ≤ allocated (s.tank j).draws := by
  rcases endLane_cases l r s with ⟨_, e⟩ | ⟨_, e⟩ | ⟨_, e⟩ <;> rw [e]
  · rw [closeLane_tank_draws]
    split
    · exact allocated_removeDraw l _
    · exact Nat.le_refl _
  · rw [dropDemand_tank_draws]; exact Nat.le_refl _

/-- The end of a lane AUTHORIZED or STARTING with a context closes its transaction (R38). -/
theorem endLane_closes (r : EndReason) (h : (s.lane l).state = .authorized ∨ (s.lane l).state = .starting)
    (hc : (s.lane l).ctx = some c) : ∃ x, s.filesRecord (endLane l r s) l c x ∧ x.tells s l c r := by
  have he : endLane l r s = closeLane l (s.setLane l { (s.lane l).setReason r with state := .settling }) := by
    rcases h with h | h <;> simp [endLane, h]
  have hd : ((s.setLane l { (s.lane l).setReason r with state := .settling }).lane l).ctx = some { c with endReason := some r } := by
    rw [State.lane_setLane_same]
    simp [LaneUnit.setReason, hc]
  obtain ⟨x, hf, ht⟩ := closeLane_filesRecord hd rfl
  rw [he]
  exact ⟨x, filesRecord_setLane (by rfl) (by rfl) hf, tells_setLane (by rfl) (by rfl) ht⟩

/-! ## An allocation cut (R44) -/

/-- A cut below what the lane has metered ends it; any other leaves it going on. -/
theorem allocationCut_some (a : Int) (hc : (s.lane l).ctx = some c) :
    allocationCut l a s =
      if min (c.preset : Int) a ≤ (s.lane l).meter.net then endLane l .preset (s.setLane l { s.lane l with ctx := some (c.trim a) })
      else evaluateStage l (s.setLane l { s.lane l with ctx := some (c.trim a) }) := by
  simp only [allocationCut, hc]
  rfl

theorem allocationCut_none (a : Int) (hc : (s.lane l).ctx = none) : allocationCut l a s = s := by
  simp [allocationCut, hc]

theorem evaluateStage_lane_ne (l : Lane) (s : State) {j : Lane} (h : j ≠ l) : (evaluateStage l s).lane j = s.lane j := by
  unfold evaluateStage
  dsimp only
  split
  · exact State.lane_setLane_ne _ _ _ _ h
  · rfl

/-- A stage evaluation moves the stage alone: the state and what the context holds but for the stage at its end stay. -/
theorem evaluateStage_lane (hc : (s.lane l).ctx = some c) :
    ((evaluateStage l s).lane l).state = (s.lane l).state ∧
      ∃ x, ((evaluateStage l s).lane l).ctx = some { c with stageAtEnd := x } := by
  unfold evaluateStage
  dsimp only
  split
  · rename_i hs _ _
    rw [State.lane_setLane_same]
    exact ⟨hs.symm, _, congrArg (Option.map _) hc⟩
  · exact ⟨rfl, _, hc⟩

theorem allocationCut_lane_ne (l : Lane) (a : Int) (s : State) {j : Lane} (h : j ≠ l) : (allocationCut l a s).lane j = s.lane j := by
  cases hc : (s.lane l).ctx with
  | none => rw [allocationCut_none a hc]
  | some c =>
    rw [allocationCut_some a hc]
    split
    · rw [endLane_lane_ne _ _ _ _ h, State.lane_setLane_ne _ _ _ _ h]
    · rw [evaluateStage_lane_ne _ _ h, State.lane_setLane_ne _ _ _ _ h]

theorem allocationCut_tank_ne (l : Lane) (a : Int) (s : State) {j : Tank} (h : j ≠ (s.lane l).cfg.tank) :
    (allocationCut l a s).tank j = s.tank j := by
  cases hc : (s.lane l).ctx with
  | none => rw [allocationCut_none a hc]
  | some c =>
    rw [allocationCut_some a hc]
    split
    · rw [endLane_tank_ne _ _ _ (by rw [State.lane_setLane_same]; exact h)]; rfl
    · rw [evaluateStage_tank]; rfl

theorem allocationCut_allocated (l : Lane) (a : Int) (s : State) (j : Tank) :
    allocated ((allocationCut l a s).tank j).draws ≤ allocated (s.tank j).draws := by
  cases hc : (s.lane l).ctx with
  | none => rw [allocationCut_none a hc]
  | some c =>
    rw [allocationCut_some a hc]
    split
    · exact endLane_allocated _ _ _ _
    · rw [evaluateStage_tank]; exact Nat.le_refl _

/-- A cut above what the lane has metered lowers its effective preset (R39, R44). -/
theorem allocationCut_goesOn {a : Int} (hc : (s.lane l).ctx = some c) (h : (s.lane l).meter.net < min (c.preset : Int) a) :
    (allocationCut l a s).tanks = s.tanks ∧ ((allocationCut l a s).lane l).state = (s.lane l).state ∧
      ∃ x, ((allocationCut l a s).lane l).ctx = some { c.trim a with stageAtEnd := x } := by
  have hl := State.lane_setLane_same s l { s.lane l with ctx := some (c.trim a) }
  obtain ⟨hs, x, hx⟩ := evaluateStage_lane (c := c.trim a) (congrArg LaneUnit.ctx hl)
  rw [allocationCut_some a hc, if_neg (by omega)]
  exact ⟨evaluateStage_tanks _ _, hs.trans (by rw [hl]), x, hx⟩

/-- A cut that reaches what the lane has metered ends it with PRESET (R44). -/
theorem allocationCut_ends {a : Int} (hc : (s.lane l).ctx = some c) (h : min (c.preset : Int) a ≤ (s.lane l).meter.net) :
    allocationCut l a s = endLane l .preset (s.setLane l { s.lane l with ctx := some (c.trim a) }) := by
  rw [allocationCut_some a hc, if_pos h]

/-! ## The trim of a tank (R66) -/

theorem cutYoungest_zero (ds : List Draw) : cutYoungest ds 0 = (ds, []) := by
  induction ds with
  | nil => rfl
  | cons d ds ih => simp [cutYoungest, ih]

/-- The entries cut are of the list. -/
theorem cutYoungest_lanes (ds : List Draw) (e : Nat) : ∀ x ∈ (cutYoungest ds e).2, ∃ d ∈ ds, d.lane = x.1 := by
  induction ds generalizing e with
  | nil => exact fun _ h => absurd h List.not_mem_nil
  | cons d ds ih =>
    have htail : ∀ x ∈ (cutYoungest ds (e - min d.remaining e)).2, ∃ d' ∈ d :: ds, d'.lane = x.1 := fun x hx =>
      (ih _ x hx).imp fun _ h => ⟨List.mem_cons_of_mem _ h.1, h.2⟩
    unfold cutYoungest
    dsimp only
    split
    · exact htail
    · exact List.forall_mem_cons.2 ⟨⟨d, List.mem_cons_self, rfl⟩, htail⟩

theorem trimDraws_lanes (book : Nat) (ds : List Draw) : ∀ x ∈ (trimDraws book ds).2, ∃ d ∈ ds, d.lane = x.1 := by
  unfold trimDraws
  split
  · exact fun _ h => absurd h List.not_mem_nil
  · exact fun x hx => (cutYoungest_lanes _ _ x hx).imp fun _ h => ⟨List.mem_reverse.1 h.1, h.2⟩

/-- The youngest entry covers the excess, and is cut alone (R66). -/
theorem trimDraws_youngest {book excess : Nat} {older : List Draw} {d : Draw}
    (h : allocated (older ++ [d]) = book + excess) (hpos : 0 < excess) (hd : excess ≤ d.remaining) :
    trimDraws book (older ++ [d]) =
      (older ++ [{ d with alloc := d.alloc - excess, remaining := d.remaining - excess }], [(d.lane, d.alloc - excess)]) := by
  have hn : ¬ book + excess ≤ book := by omega
  have hcut : min d.remaining excess = excess := Nat.min_eq_right hd
  have hne : excess ≠ 0 := by omega
  simp [trimDraws, h, hn, cutYoungest, hcut, hne, cutYoungest_zero]

theorem trimTank_allocated (k : Tank) (s : State) : allocated ((trimTank k s).tank k).draws ≤ (s.tank k).book := by
  refine foldl_keeps_prop (fun t => allocated (t.tank k).draws ≤ (s.tank k).book) _
    (fun t x h => (allocationCut_allocated x.1 x.2 t k).trans h) _ _ ?_
  rw [State.tank_setTank_same]
  exact allocated_trimDraws _ _

/-- Where every entry's lane is bound to the tank, its trim reaches no other tank. -/
theorem trimTank_tank_ne {k : Tank} (h : ∀ d ∈ (s.tank k).draws, (s.lane d.lane).cfg.tank = k) : s.otherTanks (trimTank k s) k := by
  intro j hj
  have key : KeepsFigures s (trimTank k s) ∧ (trimTank k s).tank j = s.tank j := by
    refine List.foldlRecOn (motive := fun t => KeepsFigures s t ∧ t.tank j = s.tank j) _ _
      ⟨setTank_figures (by rfl) (.refl s), State.tank_setTank_ne _ _ _ _ hj⟩ fun t ⟨hf, ht⟩ x hx => ?_
    obtain ⟨d, hd, hdl⟩ := trimDraws_lanes _ _ x hx
    have hb : j ≠ (t.lane x.1).cfg.tank := by rw [hf.cfg, ← hdl, h d hd]; exact hj
    exact ⟨allocationCut_figures _ _ hf, (allocationCut_tank_ne _ _ _ hb).trans ht⟩
  exact key.2

theorem trimTank_youngest {k : Tank} {excess : Nat} {older : List Draw} {d : Draw} (hd : (s.tank k).draws = older ++ [d])
    (h : allocated (s.tank k).draws = (s.tank k).book + excess) (hpos : 0 < excess) (hx : excess ≤ d.remaining) :
    trimTank k s =
      allocationCut d.lane (d.alloc - excess) (s.setTank k { s.tank k with
        draws := older ++ [{ d with alloc := d.alloc - excess, remaining := d.remaining - excess }] }) := by
  rw [hd] at h
  simp only [trimTank, hd, trimDraws_youngest h hpos hx]
  rfl

end

section

variable {s : State} {f : Frame} {k : Tank}

/-! ## ADJUST_STOCK (R63, R66) -/

theorem TankUnit.restartWindow_store (k : TankUnit) (n : Nat) :
    (k.restartWindow n).book = k.book ∧ (k.restartWindow n).shortage = k.shortage ∧ (k.restartWindow n).draws = k.draws := by
  unfold TankUnit.restartWindow
  split <;> exact ⟨rfl, rfl, rfl⟩

theorem TankUnit.adjust_store (k : TankUnit) (book : Nat) (clear d : Bool) (n : Nat) :
    (k.adjust book clear d n).book = book ∧ (k.adjust book clear d n).shortage = (if clear then 0 else k.shortage) ∧
      (k.adjust book clear d n).draws = k.draws := by
  unfold TankUnit.adjust
  generalize (if clear = true then 0 else k.shortage) = shortage
  dsimp only
  split
  · exact TankUnit.restartWindow_store { k with book := book, shortage := shortage } n
  · exact ⟨rfl, rfl, rfl⟩

/-- The state at the trim check of an ADJUST_STOCK: the book set, nothing cut yet. -/
def State.adjusted (s : State) (k : Tank) (book : Nat) (clear : Bool) : State :=
  s.setTank k ((s.tank k).adjust book clear (s.discharging k) s.time.uptime)

theorem adjusted_tank (s : State) (k : Tank) (book : Nat) (clear : Bool) :
    (s.adjusted k book clear).tank k = (s.tank k).adjust book clear (s.discharging k) s.time.uptime :=
  State.tank_setTank_same _ _ _

theorem adjustStock_exec {book : Nat} {clear : Bool} (h : s.takes f (.adjustStock f k.val book (if clear then 1 else 0)) = true)
    (hb : book ≤ 2000000000) :
    exec (.adjustStock f k.val book (if clear then 1 else 0)) s =
      .next ((trimTank k (s.adjusted k book clear)).reply f 0x31#8 .ok
        (.stockSet ((trimTank k (s.adjusted k book clear)).tank k).book ((trimTank k (s.adjusted k book clear)).tank k).shortage
          (allocated ((trimTank k (s.adjusted k book clear)).tank k).draws))) := by
  have hn : ¬ Config.maxVolume < book := Nat.not_lt.2 hb
  have hx : adjustAnswer book (if clear then 1 else 0) k s = .ok (trimTank k (s.adjusted k book clear))
      (.stockSet ((trimTank k (s.adjusted k book clear)).tank k).book ((trimTank k (s.adjusted k book clear)).tank k).shortage
        (allocated ((trimTank k (s.adjusted k book clear)).tank k).draws)) := by
    cases clear <;> simp only [adjustAnswer, flagOf, if_neg hn, State.adjusted, if_true, Bool.false_eq_true, if_false]
  exact (congrArg Host.Outcome.next (serve_onTank h rfl)).trans (by rw [hx]; rfl)

/-- The youngest allocation covers the excess: it alone is cut, and its lane goes on or ends (R44, R66, R67). -/
theorem adjusted_youngest {book excess : Nat} {clear : Bool} {older : List Draw} {d : Draw} {c : Context}
    (hd : (s.tank k).draws = older ++ [d]) (h : allocated (s.tank k).draws = book + excess) (hpos : 0 < excess)
    (hx : excess ≤ d.remaining) (hc : (s.lane d.lane).ctx = some c) {t : State} (ht : t = trimTank k (s.adjusted k book clear)) :
    s.otherLanes t d.lane ∧
      ((s.lane d.lane).meter.net < min (c.preset : Int) (d.alloc - excess) →
        (t.tank k).draws = older ++ [{ d with alloc := d.alloc - excess, remaining := d.remaining - excess }] ∧
        (t.lane d.lane).state = (s.lane d.lane).state ∧
        ∃ c', (t.lane d.lane).ctx = some c' ∧ c'.effPreset = min (c.preset : Int) (d.alloc - excess) ∧
          c'.flags.trimmed = true ∧ c'.endReason = c.endReason) ∧
      (min (c.preset : Int) (d.alloc - excess) ≤ (s.lane d.lane).meter.net →
        ((s.lane d.lane).state = .delivering →
          (t.lane d.lane).state = .settling ∧ (t.lane d.lane).vlo = false ∧ (t.lane d.lane).vhi = false ∧
          ∃ c', (t.lane d.lane).ctx = some c' ∧ c'.effPreset = min (c.preset : Int) (d.alloc - excess) ∧
            c'.flags.trimmed = true ∧ c'.endReason = some .preset) ∧
        ((s.lane d.lane).state = .authorized ∨ (s.lane d.lane).state = .starting →
          (t.lane d.lane).ctx = none ∧ (t.lane d.lane).state.isOpen = false ∧
          ∃ rec, t.records.completed = s.records.completed ++ [rec] ∧ rec.lane = d.lane ∧ rec.endReason = .preset ∧
            rec.flags.trimmed = true)) := by
  obtain ⟨hbook, -, hdraws⟩ := (s.tank k).adjust_store book clear (s.discharging k) s.time.uptime
  rw [← adjusted_tank] at hbook hdraws
  rw [trimTank_youngest (hdraws.trans hd) (by rw [hdraws, hbook]; exact h) hpos hx] at ht
  generalize hu : (s.adjusted k book clear).setTank k _ = u at ht
  have hlanes : ∀ j, u.lane j = s.lane j := fun j => by rw [← hu]; rfl
  have hc' : (u.lane d.lane).ctx = some c := by rw [hlanes, hc]
  have hnet : (u.lane d.lane).meter.net = (s.lane d.lane).meter.net := by rw [hlanes]
  refine ⟨fun j hj => by rw [ht, allocationCut_lane_ne _ _ _ hj, hlanes], fun hgo => ?_, fun hend => ?_⟩
  · obtain ⟨htanks, hstate, x, hctx⟩ := allocationCut_goesOn hc' (hnet.trans_lt hgo)
    rw [← ht] at htanks hstate hctx
    refine ⟨?_, by rw [hstate, hlanes], _, hctx, rfl, rfl, rfl⟩
    rw [State.tank, htanks, ← hu]
    exact congrArg TankUnit.draws (State.tank_setTank_same _ _ _)
  · rw [allocationCut_ends hc' (hend.trans hnet.symm.le)] at ht
    generalize hv : u.setLane d.lane _ = v at ht
    have hvl : v.lane d.lane = { s.lane d.lane with ctx := some (c.trim (d.alloc - excess)) } := by
      rw [← hv, State.lane_setLane_same, hlanes]
    have hvs : (v.lane d.lane).state = (s.lane d.lane).state := by rw [hvl]
    have hvc : (v.lane d.lane).ctx = some (c.trim (d.alloc - excess)) := by rw [hvl]
    obtain ⟨hclosed, hsettled⟩ := endLane_lane d.lane .preset v hvc
    rw [hvs, ← ht] at hclosed hsettled
    refine ⟨fun hs => ?_, fun hs => ?_⟩
    · obtain ⟨h1, h2, h3, -, h5⟩ := hsettled hs
      exact ⟨h1, h2, h3, _, h5, rfl, rfl, rfl⟩
    · obtain ⟨h1, h2⟩ := hclosed hs
      obtain ⟨x, hf, htells⟩ := endLane_closes .preset (hvs ▸ hs) hvc
      rw [← ht] at hf
      have hr : v.records = s.records := by rw [← hv, ← hu]; rfl
      exact ⟨h1, h2, x, (congrArg RecordQueue.completed hf.1).trans (by rw [hr]), by rw [htells], by rw [htells],
        by rw [htells]; rfl⟩

/-! ## ACK_ALARMS (R73) -/

theorem ackAlarms_exec (h : s.takes f (.ackAlarms f k.val) = true) :
    exec (.ackAlarms f k.val) s =
      .next ((s.setTank k (s.tank k).acknowledge).reply f 0x32#8 .ok (.alarms [(k, (s.tank k).acknowledge.alarms)])) :=
  congrArg Host.Outcome.next (serve_onTank h rfl)

theorem ackAlarmsAll_exec (h : s.takes f (.ackAlarmsAll f) = true) :
    exec (.ackAlarmsAll f) s =
      .next (({ s with tanks := s.tanks.map TankUnit.acknowledge } : State).reply f 0x33#8 .ok
        (.alarms (allEight.map (fun t => (t, ((s.tanks.map TankUnit.acknowledge).get t).alarms))))) :=
  congrArg Host.Outcome.next (serve_of_takes h rfl)

/-- The flags that stay are those of the zones still reached. -/
theorem acknowledge_alarms (k : TankUnit) :
    k.acknowledge.alarms.lowLow = (k.alarms.lowLow && decide (k.zone = .lowLow)) ∧
      k.acknowledge.alarms.low = (k.alarms.low && (decide (k.zone = .lowLow) || decide (k.zone = .low))) ∧
      k.acknowledge.alarms.high = (k.alarms.high && (decide (k.zone = .high) || decide (k.zone = .highHigh))) ∧
      k.acknowledge.alarms.highHigh = (k.alarms.highHigh && decide (k.zone = .highHigh)) := by
  cases hz : k.zone <;> simp [TankUnit.acknowledge, Alarms.inter, Zone.reached, hz]

end

/-- Settles O43: a trim on the adjusted tank, its single cut, and the flags that an acknowledgement leaves. -/
theorem adjustAndAcknowledge : Obligations.AdjustAndAcknowledge := by
  refine fun s f => ⟨fun k book clear h hb => ?_, fun k h => ?_, fun h => ?_⟩
  · obtain ⟨hbook, hshort, hdraws⟩ := (s.tank k).adjust_store book clear (s.discharging k) s.time.uptime
    rw [← adjusted_tank] at hbook hshort hdraws
    have hfig := trimTank_figures k (.refl (s.adjusted k book clear))
    have hb' := (hfig.book k).trans hbook
    have hs' := (hfig.shortage k).trans hshort
    have hexec := adjustStock_exec h hb
    rw [hb'] at hexec
    refine ⟨_, hexec, hb', hs', (trimTank_allocated k _).trans hbook.le, fun hfit => ?_,
      fun older d c excess hd ha hpos hx hc =>
        adjusted_youngest (t := trimTank k (s.adjusted k book clear)) hd ha hpos hx hc rfl, fun hbound j hj => ?_,
      reply_answers _ _ _ _ _⟩
    · have he : trimTank k (s.adjusted k book clear) = s.adjusted k book clear :=
        trimTank_of_fits (by rw [hdraws, hbook]; exact hfit)
      rw [he]
      exact ⟨hdraws, rfl⟩
    · exact (trimTank_tank_ne (by rw [hdraws]; exact hbound) j hj).trans (State.tank_setTank_ne _ _ _ _ hj)
  · have htank : ((s.setTank k (s.tank k).acknowledge).reply f 0x32#8 .ok (.alarms [(k, (s.tank k).acknowledge.alarms)])).tank k =
        (s.tank k).acknowledge := State.tank_setTank_same _ _ _
    obtain ⟨h1, h2, h3, h4⟩ := acknowledge_alarms (s.tank k)
    refine ⟨_, ackAlarms_exec h, fun j hj => State.tank_setTank_ne _ _ _ _ hj, (reply_ports (by rfl) f _ _ _).1, rfl, ?_, ?_⟩
    · rw [htank]; exact reply_answers _ _ _ _ _
    · rw [htank]; exact ⟨rfl, h1, h2, h3, h4⟩
  · exact ⟨_, ackAlarmsAll_exec h, (reply_ports (by rfl) f _ _ _).1, rfl, reply_answers _ _ _ _ _,
      fun k => Eight.get_map _ _ _⟩

end Sys2Proof.Machine
end

section
/-! A valid gauge sample and the zones: what the sample gives the tank's zones and alarms, the entry to LOW_LOW, and what the rest of the
sample leaves of both (R38, R43, R69 to R73, R144, R151). -/

namespace Sys2Proof.Machine

/-! ## What ends and trips leave -/

/-- A pump at rest, its output released (R68). -/
def TankUnit.halted (k : TankUnit) : Prop := k.pump = .stopped ∧ k.pumpRun = false

/-- From s to t no TANK_ALARM is posted, no halted pump starts, and every completed record stays in its place. -/
structure Subsides (s t : State) : Prop where
  alarm : ∀ i, holdsKind (t.port i).pendingSet .tankAlarm = holdsKind (s.port i).pendingSet .tankAlarm
  pump : ∀ k, (s.tank k).halted → (t.tank k).halted
  records : s.records.completed <+: t.records.completed

section

variable {s t : State}

theorem Subsides.refl (s : State) : Subsides s s := ⟨fun _ => rfl, fun _ => id, List.prefix_refl _⟩

theorem Subsides.trans {u : State} (h : Subsides s t) (g : Subsides t u) : Subsides s u :=
  ⟨fun i => (g.alarm i).trans (h.alarm i), fun k => g.pump k ∘ h.pump k, h.records.trans g.records⟩

theorem subsides_of_bay (hp : t.ports = s.ports) (hk : t.tanks = s.tanks) (hr : t.records = s.records) : Subsides s t :=
  ⟨fun i => by rw [State.port, hp, State.port], fun k => by rw [State.tank, State.tank, hk]; exact id, by rw [hr]⟩

theorem setTank_subsides {k : Tank} {u : TankUnit} (hu : (t.tank k).halted → u.halted) (h : Subsides s t) :
    Subsides s (t.setTank k u) := by
  refine h.trans ⟨fun _ => rfl, fun j => ?_, List.prefix_refl _⟩
  by_cases hj : j = k
  · subst hj; rw [State.tank_setTank_same]; exact hu
  · rw [State.tank_setTank_ne _ _ _ _ hj]; exact id

theorem post_subsides {k : EventKind} (hk : k ≠ .tankAlarm) (h : Subsides s t) : Subsides s (post k t) :=
  h.trans ⟨fun i => by rw [holdsKind_post, decide_eq_false hk, Bool.or_false], fun _ => id, List.prefix_refl _⟩

theorem dropDemand_subsides (k : Tank) (h : Subsides s t) : Subsides s (dropDemand k t) := by
  rcases dropDemand_cases k t with ⟨_, e⟩ | ⟨_, e⟩ <;> rw [e]
  · exact h
  · exact setTank_subsides (fun _ => ⟨rfl, rfl⟩) h

/-- A close takes an entry off a draw list and may stop the pump. -/
theorem closeLane_halted (l : Lane) (s : State) (k : Tank) (h : (s.tank k).halted) : ((closeLane l s).tank k).halted := by
  unfold closeLane
  dsimp only
  split
  · exact h
  · refine (dropDemand_subsides (s.lane l).cfg.tank (.refl _)).pump k ?_
    simp only [post_tank, State.tank_setLane, postIf_tank]
    by_cases hk : k = (s.lane l).cfg.tank
    · subst hk
      simpa [State.tank, State.setTank, TankUnit.halted] using h
    · simpa [State.tank, State.setTank, Eight.get_set_ne _ _ _ _ hk] using h

/-- The kinds that a close posts beside those of its booking and its order: RECORDS, COUNTER and LANE_END (R46, R51, R136). -/
theorem closeLane_holdsKind {l : Lane} {c : Context} (h : (s.lane l).ctx = some c) (i : PortId) (k : EventKind) :
    holdsKind ((closeLane l s).port i).pendingSet k =
      (holdsKind ((closeOrder c.order (s.lane l).meter.net
          (closeBooking c (s.lane l).cfg.tank (s.lane l).meter.net s).1).port i).pendingSet k ||
        (decide (s.records.completed.length + 1 = s.records.threshold) && decide (EventKind.records = k)) ||
        ((s.lane l).counters.posts c (s.lane l).meter.flags && decide (EventKind.counter = k)) ||
        decide (EventKind.laneEnd = k)) := by
  have hd : ∀ k s', (dropDemand k s').port i = s'.port i := fun k s' => by simp [State.port]
  have hl : ∀ (s' : State) l' u', (s'.setLane l' u').port i = s'.port i := fun _ _ _ => rfl
  have ht : ∀ (s' : State) k' u', (s'.setTank k' u').port i = s'.port i := fun _ _ _ => rfl
  simp only [closeLane, h, hd, holdsKind_post, hl, holdsKind_postIf, fileRecord_holdsKind, ht]
  simp

/-- No TANK_ALARM is among them. -/
theorem closeLane_tankAlarm (l : Lane) (s : State) (i : PortId) :
    holdsKind ((closeLane l s).port i).pendingSet .tankAlarm = holdsKind (s.port i).pendingSet .tankAlarm := by
  cases hc : (s.lane l).ctx with
  | none => rw [closeLane_none hc]
  | some c =>
    rw [closeLane_holdsKind hc, closeOrder_holdsKind _ _ _ _ (by decide), closeBooking_holdsKind _ _ _ _ _ (by decide)]
    simp

theorem endLane_subsides (l : Lane) (r : EndReason) (h : Subsides s t) : Subsides s (endLane l r t) := by
  refine h.trans ⟨fun i => ?_, fun k hk => ?_, ?_⟩
  · rcases endLane_cases l r t with ⟨_, e⟩ | ⟨_, e⟩ | ⟨_, e⟩ <;> rw [e]
    · rw [closeLane_tankAlarm]; rfl
    · rw [State.port, dropDemand_ports]; rfl
  · rcases endLane_cases l r t with ⟨_, e⟩ | ⟨_, e⟩ | ⟨_, e⟩ <;> rw [e]
    · exact closeLane_halted _ _ _ hk
    · exact (dropDemand_subsides _ (.refl _)).pump k hk
    · exact hk
  · obtain ⟨xs, hx, -⟩ := endLane_completed l r t
    rw [hx]
    exact List.prefix_append _ _

theorem endLanes_subsides (ls : LaneSet) (r : EndReason) (h : Subsides s t) : Subsides s (endLanes ls r t) :=
  foldl_keeps_prop (Subsides s) _ (fun u l hu => by split <;> [exact endLane_subsides l r hu; exact hu]) _ t h

theorem mapDeliveries_subsides (p : DeliveryEntry → Bool) (f : DeliveryEntry → DeliveryEntry) (h : Subsides s t) :
    Subsides s (mapDeliveries p f t) := h.trans (subsides_of_bay rfl rfl rfl)

theorem endDischarge_subsides (k : Tank) (b : Bool) (h : Subsides s t) : Subsides s (endDischarge k b t) :=
  setTank_subsides id (mapDeliveries_subsides _ _ h)

theorem blockAll_subsides (ls : LaneSet) (ts : TankSet) (h : Subsides s t) : Subsides s (blockAll ls ts t) :=
  foldl_keeps_prop (Subsides s) _ (fun u k hu => by split <;> [exact endDischarge_subsides k true hu; exact hu]) _ _
    (endLanes_subsides ls .spill h)

theorem setSource_subsides (i : SourceId) (x : Source) (h : Subsides s t) : Subsides s (t.setSource i x) :=
  h.trans (subsides_of_bay rfl rfl rfl)

theorem tripSource_subsides (i : SourceId) (h : Subsides s t) : Subsides s (tripSource i t) := by
  rw [tripSource_eq]
  exact post_subsides (by decide) (blockAll_subsides _ _ (h.trans (subsides_of_bay rfl rfl rfl)))

theorem riseSource_subsides (i : SourceId) (h : Subsides s t) : Subsides s (riseSource i t) := by
  unfold riseSource
  dsimp only
  split
  · exact setSource_subsides _ _ h
  · exact tripSource_subsides i h

theorem sampleSource_subsides (i : SourceId) (c : Bool) (h : Subsides s t) : Subsides s (sampleSource i c t) := by
  unfold sampleSource
  dsimp only
  split
  · exact riseSource_subsides i (setSource_subsides _ _ h)
  · exact setSource_subsides _ _ h

theorem closingGauge_subsides (k : Tank) (h : Subsides s t) : Subsides s (closingGauge k t) := by
  unfold closingGauge
  split
  · split
    · exact h
    · exact post_subsides (by decide) (setTank_subsides id (mapDeliveries_subsides _ _ h))
  · exact h

/-! ## The zones of a tank (R70, R71, R73) -/

/-- What the zone part of a gauge sample decides of a tank. -/
def TankUnit.zoneView (k : TankUnit) : ZoneRuns × Zone × Zone × Alarms := (k.runs, k.rawZone, k.zone, k.alarms)

/-- A tank alike in its zones, its pump and its inlet. -/
def TankUnit.sameZones (u v : TankUnit) : Prop := v.zoneView = u.zoneView ∧ v.pump = u.pump ∧ v.pumpRun = u.pumpRun

theorem TankUnit.sameZones.halts {u v : TankUnit} (h : u.sameZones v) (hu : u.halted) : v.halted :=
  ⟨h.2.1.trans hu.1, h.2.2.trans hu.2⟩

theorem zoneView_of_still {u v : TankUnit} (h : v.still = u.still) : v.zoneView = u.zoneView :=
  show v.still.zoneView = u.still.zoneView from congrArg TankUnit.zoneView h

theorem TankUnit.restartWindow_sameZones (k : TankUnit) (n : Nat) : k.sameZones (k.restartWindow n) := by
  unfold TankUnit.restartWindow
  split <;> exact ⟨rfl, rfl, rfl⟩

theorem TankUnit.testLoss_sameZones (k : TankUnit) (valid d : Bool) (n : Nat) : k.sameZones (k.testLoss valid d n) := by
  unfold TankUnit.testLoss
  split
  · exact ⟨rfl, rfl, rfl⟩
  · split
    · exact ⟨rfl, rfl, rfl⟩
    · split
      · exact ⟨rfl, rfl, rfl⟩
      · exact k.restartWindow_sameZones n
      · exact ⟨rfl, rfl, rfl⟩

theorem TankUnit.ageWindow_sameZones (k : TankUnit) (valid : Bool) (n : Nat) : k.sameZones (k.ageWindow valid n) := by
  unfold TankUnit.ageWindow
  split
  · exact ⟨rfl, rfl, rfl⟩
  · split
    · exact k.restartWindow_sameZones n
    · exact ⟨rfl, rfl, rfl⟩

/-- A reading and the gauged net leave the tank's zones, alarms and configuration. -/
theorem TankUnit.takeReading_zones (k : TankUnit) (r : Option GaugeReading) :
    (k.takeReading r).computeNet.zoneView = k.zoneView ∧ (k.takeReading r).computeNet.cfg = k.cfg := by
  have h : (k.takeReading r).zoneView = k.zoneView ∧ (k.takeReading r).cfg = k.cfg := by cases r <;> exact ⟨rfl, rfl⟩
  unfold TankUnit.computeNet
  split <;> exact h

theorem closingGauge_tank (k : Tank) (s : State) : (s.tank k).sameZones ((closingGauge k s).tank k) := by
  unfold closingGauge
  split
  · split
    · exact ⟨rfl, rfl, rfl⟩
    · rw [post_tank, State.tank_setTank_same]; exact ⟨rfl, rfl, rfl⟩
  · exact ⟨rfl, rfl, rfl⟩

theorem closingGauge_lane (k : Tank) (s : State) (l : Lane) : (closingGauge k s).lane l = s.lane l := by
  unfold closingGauge
  split
  · split <;> rfl
  · rfl

/-! ## The end of a gauge sample -/

/-- The end of a gauge sample leaves the tank's zones, posts no TANK_ALARM, and starts no pump (R72, R74, R75, R144). -/
theorem gaugeHanded_subsides (k : Tank) (valid : Bool) (s : State) : Subsides s (gaugeHanded k valid s) := by
  have h1 : Subsides s (testAndHand k valid s) :=
    setTank_subsides (fun h => (TankUnit.testLoss_sameZones (s.tank k) valid (s.discharging k) s.time.uptime).halts h) (.refl s)
  exact setTank_subsides (TankUnit.ageWindow_sameZones _ _ _).halts (sampleSource_subsides _ _ (sampleSource_subsides _ _ h1))

theorem gaugeHanded_zoneView (k : Tank) (valid : Bool) (s : State) :
    ((gaugeHanded k valid s).tank k).zoneView = (s.tank k).zoneView := by
  have h1 : ((testAndHand k valid s).tank k).zoneView = (s.tank k).zoneView := by
    rw [testAndHand, State.tank_setTank_same]
    exact (TankUnit.testLoss_sameZones (s.tank k) valid (s.discharging k) s.time.uptime).1
  have h2 : ((tankSources k (testAndHand k valid s)).tank k).zoneView = ((testAndHand k valid s).tank k).zoneView :=
    zoneView_of_still ((sampleSource_figures _ _ (sampleSource_figures _ _ (.refl _))).tank k)
  rw [gaugeHanded, State.tank_setTank_same]
  exact (TankUnit.ageWindow_sameZones _ _ _).1.trans (h2.trans h1)

/-- A lane that no trip would end is left as it is. -/
theorem gaugeHanded_lane (k : Tank) (valid : Bool) {l : Lane} (h : (s.lane l).state.endedByTrip = false) :
    (gaugeHanded k valid s).lane l = s.lane l := by
  have h0 : (testAndHand k valid s).lane l = s.lane l := rfl
  have h1 : ∀ c, (sampleSource (.overfill k) c (testAndHand k valid s)).lane l = s.lane l := fun c => by
    rw [sampleSource_spares (Or.inl (by rw [h0]; exact h)), h0]
  rw [gaugeHanded, State.lane_setTank, tankSources, sampleSource_spares (Or.inl (by rw [h1]; exact h)), h1]

end

section

variable {s : State} {k : Tank}

/-! ## The sample by its parts -/

/-- The tank polled, its reading taken and its gauged net computed (R57 to R60). -/
def State.gauged (s : State) (k : Tank) (g : GaugeReading) : State :=
  { s.setTank k ((s.tank k).takeReading (some g)).computeNet with bus := .polled k }

theorem gaugeEvent_valid (k : Tank) (g : GaugeReading) (s : State) :
    gaugeEvent k (some g) s = gaugeHanded k true (closingGauge k (zoneSample k g.level (s.gauged k g))) := gaugeEvent_eq _ _ _

theorem gauged_tank (k : Tank) (g : GaugeReading) (s : State) :
    ((s.gauged k g).tank k).zoneView = (s.tank k).zoneView ∧ ((s.gauged k g).tank k).cfg = (s.tank k).cfg := by
  have h : (s.gauged k g).tank k = ((s.tank k).takeReading (some g)).computeNet := State.tank_setTank_same s _ _
  rw [h]
  exact (s.tank k).takeReading_zones _

/-- The debounced zone after a level (R71). -/
def zoneAfter (c : TankConfig) (r : ZoneRuns) (z : Zone) (level : Nat) : Zone :=
  confirmZone c.zoneDebounce (r.update c level) (zoneOf c level) (relaxZone (zoneOf c level) z)

/-- What a level makes of runs, a debounced zone and alarms (R70, R71, R73). -/
def zoneOutcome (c : TankConfig) (r : ZoneRuns) (z : Zone) (a : Alarms) (level : Nat) : ZoneRuns × Zone × Zone × Alarms :=
  (r.update c level, zoneOf c level, zoneAfter c r z level,
    if zoneAfter c r z level = z then a else a.union (zoneAfter c r z level).reached)

theorem latched_zoneView (u : TankUnit) (level : Nat) :
    ((u.updateZone level).latch u.zone).zoneView = zoneOutcome u.cfg u.runs u.zone u.alarms level := by
  have hz : (u.updateZone level).zone = zoneAfter u.cfg u.runs u.zone level := rfl
  unfold TankUnit.latch zoneOutcome
  rw [hz]
  split <;> rfl

theorem enterLowLow_zoneView (k : Tank) (s : State) : ((enterLowLow k s).tank k).zoneView = (s.tank k).zoneView := by
  rw [enterLowLow, State.tank_setTank_same]
  exact zoneView_of_still ((endLanes_figures (s.lanesOf k) .tankLow (.refl s)).tank k)

theorem zoneSample_zoneView (k : Tank) (level : Nat) (s : State) :
    ((zoneSample k level s).tank k).zoneView = ((s.zoned k level).tank k).zoneView := by
  rw [zoneSample_eq]
  split
  · exact enterLowLow_zoneView _ _
  · rfl

/-- What follows the zones in a sample leaves them as they are. -/
theorem gaugeEvent_zoned (k : Tank) (g : GaugeReading) (s : State) :
    ((gaugeEvent k (some g) s).tank k).zoneView = (((s.gauged k g).zoned k g.level).tank k).zoneView := by
  rw [gaugeEvent_valid, gaugeHanded_zoneView, (closingGauge_tank _ _).1, zoneSample_zoneView]

theorem gauged_alarms (k : Tank) (g : GaugeReading) (s : State) : ((s.gauged k g).tank k).alarms = (s.tank k).alarms :=
  congrArg (fun v => v.2.2.2) (gauged_tank k g s).1

theorem gaugeEvent_alarms (k : Tank) (g : GaugeReading) (s : State) :
    (((s.gauged k g).zoned k g.level).tank k).alarms = ((gaugeEvent k (some g) s).tank k).alarms :=
  (congrArg (fun v => v.2.2.2) (gaugeEvent_zoned k g s)).symm

/-- A gauge sample decides the runs, the raw zone, the debounced zone and the alarms of its tank from what they were. -/
theorem gaugeEvent_zoneView (k : Tank) (g : GaugeReading) (s : State) :
    ((gaugeEvent k (some g) s).tank k).zoneView =
      (((s.tank k).updateZone g.level).latch (s.tank k).zone).zoneView := by
  obtain ⟨hview, hcfg⟩ := gauged_tank k g s
  simp only [TankUnit.zoneView, Prod.mk.injEq] at hview
  obtain ⟨hruns, -, hzone, halarms⟩ := hview
  rw [gaugeEvent_zoned, zoned_tank, latched_zoneView, latched_zoneView]
  rw [hruns, hzone, halarms, hcfg]

/-- The parts of a sample that follow the zones: no TANK_ALARM, no pump started, no record lost. -/
theorem gaugeEvent_subsides (k : Tank) (g : GaugeReading) (s : State) :
    Subsides ((s.gauged k g).zoned k g.level) (gaugeEvent k (some g) s) := by
  have hz : Subsides ((s.gauged k g).zoned k g.level) (zoneSample k g.level (s.gauged k g)) := by
    rw [zoneSample_eq]
    split
    · exact setTank_subsides (fun _ => ⟨rfl, rfl⟩) (endLanes_subsides _ _ (.refl _))
    · exact .refl _
  rw [gaugeEvent_valid]
  exact (closingGauge_subsides k hz).trans (gaugeHanded_subsides _ _ _)

theorem zoned_tankAlarm (s : State) (k : Tank) (level : Nat) (i : PortId) :
    holdsKind ((s.zoned k level).port i).pendingSet .tankAlarm =
      (holdsKind (s.port i).pendingSet .tankAlarm || decide (((s.zoned k level).tank k).alarms ≠ (s.tank k).alarms)) := by
  rw [zoned_tank]
  simp only [State.zoned, zoneAlarm, State.tank_setTank_same, holdsKind_postIf, Bool.and_true, decide_true]
  rfl

/-! ## The entry to LOW_LOW (R69, R72) -/

/-- The ends of lanes speak of the lanes named alone. -/
theorem endsLanes_of_named {s s' t t' : State} {ls ls' : Lane → Bool} {r : EndReason} {xs : List Record}
    (hs : s'.lanes = s.lanes) (hls : ls' = ls) (ht : ∀ l, ls l = true → t.lane l = t'.lane l) (h : s'.endsLanes t' ls' r xs) :
    s.endsLanes t ls r xs := by
  subst hls
  unfold State.endsLanes State.lane at h ⊢
  rw [hs] at h
  obtain ⟨hmap, hrec, hlanes⟩ := h
  refine ⟨hmap, hrec, fun l c hl hc => ?_⟩
  have hl' : t.lanes.get l = t'.lanes.get l := ht l hl
  rw [hl']
  exact hlanes l c hl hc

/-- The sample at which a tank enters LOW_LOW ends its lanes and stops its pump, and nothing later in the sample moves them. -/
theorem gaugeEvent_lowLow {g : GaugeReading} (hz : (s.tank k).zone ≠ .lowLow)
    (ht : ((gaugeEvent k (some g) s).tank k).zone = .lowLow) :
    ((gaugeEvent k (some g) s).tank k).halted ∧
      (∀ l, (s.lane l).cfg.tank = k → ((gaugeEvent k (some g) s).lane l).state.endedByTrip = false) ∧
      ∃ xs, s.records.completed ++ xs <+: (gaugeEvent k (some g) s).records.completed ∧
        s.endsLanes (gaugeEvent k (some g) s) (fun l => decide ((s.lane l).cfg.tank = k)) .tankLow xs := by
  obtain ⟨z, hzd⟩ : ∃ z, z = (s.gauged k g).zoned k g.level := ⟨_, rfl⟩
  have hlanes : z.lanes = s.lanes := by rw [hzd, zoned_eq]; rfl
  have hrecords : z.records = s.records := by rw [hzd, zoned_eq]; rfl
  have hview := gaugeEvent_zoned k g s
  rw [← hzd] at hview
  have hzone : (z.tank k).zone = .lowLow := by
    rw [← ht]
    exact (congrArg (fun v => v.2.2.1) hview).symm
  have hbefore : ((s.gauged k g).tank k).zone = (s.tank k).zone := congrArg (fun v => v.2.2.1) (gauged_tank k g s).1
  have he : gaugeEvent k (some g) s = gaugeHanded k true (closingGauge k (enterLowLow k z)) := by
    rw [gaugeEvent_valid, zoneSample_eq, ← hzd, if_pos ⟨hzone, by rw [hbefore]; exact hz⟩]
  have hsub : Subsides (enterLowLow k z) (gaugeEvent k (some g) s) := by
    rw [he]
    exact (closingGauge_subsides k (.refl _)).trans (gaugeHanded_subsides _ _ _)
  have hnamed : inSet (z.lanesOf k) = fun l => decide ((s.lane l).cfg.tank = k) := by
    funext l
    rw [State.lanesOf, inSet_setOf, State.lane, hlanes]
    rfl
  have hlane : ∀ l, (s.lane l).cfg.tank = k →
      ((enterLowLow k z).lane l).state.endedByTrip = false ∧
        (gaugeEvent k (some g) s).lane l = (endLanes (z.lanesOf k) .tankLow z).lane l := fun l hl => by
    have hin : inSet (z.lanesOf k) l = true := by rw [hnamed]; exact decide_eq_true hl
    have hended : ((enterLowLow k z).lane l).state.endedByTrip = false := by
      rw [enterLowLow, State.lane_setTank, endLanes_lane, if_pos hin]
      exact endLane_not_endedByTrip _ _ _
    refine ⟨hended, ?_⟩
    rw [he, gaugeHanded_lane _ _ (by rw [closingGauge_lane]; exact hended), closingGauge_lane]
    rfl
  obtain ⟨xs, hx, hends⟩ := endLanes_endsLanes (z.lanesOf k) .tankLow z
  refine ⟨hsub.pump k ?_, fun l hl => ?_, xs, ?_, ?_⟩
  · rw [enterLowLow, State.tank_setTank_same]; exact ⟨rfl, rfl⟩
  · obtain ⟨hended, hl'⟩ := hlane l hl
    rw [hl']
    exact hended
  · rw [← hrecords, ← hx]
    exact hsub.records
  · exact endsLanes_of_named hlanes hnamed (fun l hl => (hlane l (of_decide_eq_true hl)).2) hends

/-! ## The table of R71 -/

/-- The debounced zone goes toward NORMAL at once, and takes a more severe zone on the raw zone's side where its run allows it. -/
theorem confirmZone_relaxZone (count : Nat) (r : ZoneRuns) (raw z : Zone) :
    confirmZone count r raw (relaxZone raw z) =
      match raw with
      | .normal => .normal
      | .low => if z = .lowLow ∨ z = .low ∨ count ≤ r.low then .low else .normal
      | .lowLow =>
        if z = .lowLow ∨ count ≤ r.lowLow then .lowLow else if z = .low ∨ count ≤ r.low then .low else .normal
      | .high => if z = .highHigh ∨ z = .high ∨ count ≤ r.high then .high else .normal
      | .highHigh =>
        if z = .highHigh ∨ count ≤ r.highHigh then .highHigh else if z = .high ∨ count ≤ r.high then .high else .normal := by
  cases raw <;> cases z <;> simp [confirmZone, relaxZone, Zone.rank]

theorem union_reached (a : Alarms) (z : Zone) :
    a.union z.reached =
      { lowLow := a.lowLow || decide (z = .lowLow), low := a.low || decide (z = .lowLow) || decide (z = .low)
        high := a.high || decide (z = .high) || decide (z = .highHigh), highHigh := a.highHigh || decide (z = .highHigh) } := by
  cases z <;> simp [Alarms.union, Zone.reached]

theorem runOf_eq (p : Prop) [Decidable p] (n : Nat) : runOf (decide p) n = if p then min 255 (n + 1) else 0 := by
  simp [runOf, satAdd]

end

/-- Settles O23: the zones from their table, and the entry to LOW_LOW from the ends of the tank's lanes. -/
theorem lowLowStopsTheTank : Obligations.LowLowStopsTheTank := by
  intro s k reply g z cfg hp hg hr hz hcfg
  subst hz hcfg
  have he : exec (.gaugeSample k reply) s = .next (gaugeEvent k (some g) s) := by
    refine congrArg Host.Outcome.next ((State.whenRunning_running _ hp).trans ?_)
    simp [gaugeSample, hg, hr]
  obtain ⟨t, ht⟩ : ∃ t, t = gaugeEvent k (some g) s := ⟨_, rfl⟩
  have hview := gaugeEvent_zoneView k g s
  rw [← ht, latched_zoneView] at hview
  simp only [TankUnit.zoneView, zoneOutcome, Prod.mk.injEq] at hview
  obtain ⟨hruns, hraw, hzone, halarms⟩ := hview
  rw [← hzone] at halarms
  rw [zoneAfter, confirmZone_relaxZone, ← hraw, ← hruns] at hzone
  refine ⟨t, (t.tank k).runs, he.trans (congrArg Host.Outcome.next ht.symm), rfl, ?_, ?_, ?_, ?_, ?_, fun hw => ?_, fun hw => ?_,
    fun hw => ?_, fun hw => ?_, fun hw => ?_, fun hz => ?_, fun hz => ?_, fun i => ?_, fun hz hl => ?_⟩
  · rw [hruns]; exact runOf_eq _ _
  · rw [hruns]; exact runOf_eq _ _
  · rw [hruns]; exact runOf_eq _ _
  · rw [hruns]; exact runOf_eq _ _
  · rw [hraw]; rfl
  iterate 5 (rw [hzone, hw])
  · rw [halarms, if_pos hz]
  · rw [halarms, if_neg hz, union_reached]
  · rw [ht, (gaugeEvent_subsides k g s).alarm, zoned_tankAlarm, gauged_alarms, gaugeEvent_alarms]
    rfl
  · rw [ht] at hl ⊢
    obtain ⟨⟨hpump, hrun⟩, hrest⟩ := gaugeEvent_lowLow hz hl
    exact ⟨hpump, hrun, hrest⟩

end Sys2Proof.Machine
end

section
/-! The expiries of a lane's timers: what a close files, books, settles and posts (R37, R38, R42, R45 to R47, R51, R103 to R107, R120,
R121, R126, R130 to R132, R134, R136, R191). -/

namespace Sys2Proof.Machine

/-! ## The booking of a close (R103 to R107) -/

section

variable {a : Account} {ceiling : Nat} {t : Tank} {cls : ProductClass} {net : Int} {reading clock : Option Nat} {h : Nat}

/-- The booked entry by its parts: the totals, the burn rate where the close has one, and the items where it has a reading. -/
theorem bookClose_account :
    (bookClose a ceiling t cls net reading clock).account =
      { bookTotals a cls net reading clock with
        burnRate := (burnRateOf a.hoursLast cls net reading).or a.burnRate
        burnHigh := ((burnRateOf a.hoursLast cls net reading).map (fun r => decide (ceiling < r))).getD a.burnHigh
        items := (reading.map (fun h => (a.items.map (serveItem t net h)).map (dueItem h))).getD a.items } := by
  unfold bookClose
  cases burnRateOf a.hoursLast cls net reading <;> cases reading <;> rfl

theorem bookTotals_hoursLast (a : Account) (cls : ProductClass) (net : Int) (reading clock : Option Nat) :
    (bookTotals a cls net reading clock).hoursLast =
      match reading with
      | none => a.hoursLast
      | some h => some (max (a.hoursLast.getD 0) h) := by
  cases reading with
  | none => rfl
  | some h =>
    cases hl : a.hoursLast with
    | none => simp [bookTotals, hl]
    | some last => simp [bookTotals, hl]

theorem bookTotals_lastFill (a : Account) (cls : ProductClass) (net : Int) (reading : Option Nat) (isSet : Bool) (now : Nat) :
    (bookTotals a cls net reading (if isSet then some now else none)).lastFill = if isSet then some now else a.lastFill := by
  cases isSet <;> rfl

theorem bookClose_service :
    (bookClose a ceiling t cls net reading clock).service = (reading.isSome && a.items.any (itemSatisfied t net)) := by
  unfold bookClose
  cases burnRateOf a.hoursLast cls net reading <;> cases reading <;> rfl

/-- ACCOUNT is posted for a burn above the ceiling (R105). -/
theorem bookClose_alarm_of_burn {r : Nat} (hb : burnRateOf a.hoursLast cls net reading = some r) (hr : ceiling < r) :
    (bookClose a ceiling t cls net reading clock).alarm = true := by
  simp only [bookClose, hb]
  cases reading <;> simp [hr]

/-- ACCOUNT is posted for an item newly due (R107). -/
theorem bookClose_alarm_of_due {x : ServiceItem} (hx : x ∈ a.items) (hd : newlyDue h (serveItem t net h x) = true) :
    (bookClose a ceiling t cls net (some h) clock).alarm = true := by
  have hany : (a.items.map (serveItem t net h)).any (newlyDue h) = true :=
    List.any_eq_true.2 ⟨_, List.mem_map_of_mem hx, hd⟩
  simp only [bookClose]
  cases burnRateOf a.hoursLast cls net (some h) with
  | none => exact Bool.or_eq_true_iff.2 (Or.inr hany)
  | some r => exact Bool.or_eq_true_iff.2 (Or.inr hany)

/-- A FUEL close above 0 with ten hours run has a burn rate (R104). -/
theorem burnRateOf_qualifying {p : Nat} (hp : p + 10 ≤ h) (hn : 0 < net) :
    burnRateOf (some p) .fuel net (some h) = some (net.toNat * 10 / (h - p)) := by
  simp [burnRateOf, hp, hn]

theorem burnRateOf_none {previous : Option Nat}
    (hn : cls ≠ .fuel ∨ reading = none ∨ previous = none ∨ net ≤ 0 ∨
      ∃ h p, reading = some h ∧ previous = some p ∧ h < p + 10) : burnRateOf previous cls net reading = none := by
  unfold burnRateOf
  split
  · rename_i h p
    refine if_neg fun hq => ?_
    rcases hn with hn | hn | hn | hn | ⟨_, _, ⟨⟩, ⟨⟩, hn⟩
    · exact hn rfl
    · cases hn
    · cases hn
    · omega
    · omega
  · rfl

/-- The item of the bound tank is satisfied at its minimum (R106). -/
theorem serveItem_satisfied {x : ServiceItem} (ht : x.tank = t) (hm : (x.minimum : Int) ≤ net) (hi : 0 < x.interval) :
    dueItem h (serveItem t net h x) = { x with base := some h, due := false } := by
  have hn : ¬ h + x.interval ≤ h := by omega
  simp [serveItem, ht, hm, dueItem, hn]

/-- An item with no base takes the reading as its base. -/
theorem serveItem_baseless {x : ServiceItem} (hs : ¬(x.tank = t ∧ (x.minimum : Int) ≤ net)) (hb : x.base = none)
    (hi : 0 < x.interval) : dueItem h (serveItem t net h x) = { x with base := some h } := by
  have hn : ¬ h + x.interval ≤ h := by omega
  simp [serveItem, hs, hb, dueItem, hn]

/-- Any other item is due once its interval has run (R107). -/
theorem serveItem_aged {x : ServiceItem} {base : Nat} (hs : ¬(x.tank = t ∧ (x.minimum : Int) ≤ net)) (hb : x.base = some base) :
    serveItem t net h x = x ∧ dueItem h x = { x with due := x.due || decide (base + x.interval ≤ h) } := by
  refine ⟨by simp [serveItem, hs, hb], ?_⟩
  obtain ⟨_, interval, _, _, _⟩ := x
  subst hb
  by_cases hd : base + interval ≤ h <;> simp [dueItem, hd]

theorem newlyDue_aged {x : ServiceItem} {base : Nat} (hs : ¬(x.tank = t ∧ (x.minimum : Int) ≤ net)) (hb : x.base = some base)
    (hd : x.due = false) (ha : base + x.interval ≤ h) : newlyDue h (serveItem t net h x) = true := by
  obtain ⟨h1, h2⟩ := serveItem_aged (h := h) hs hb
  simp [newlyDue, h1, h2, hd, ha]

end

/-! ## The close, block by block (R46, R103, R120, R121, R130) -/

section

variable {s : State} {l : Lane} {c : Context}

theorem closeLane_accounts (h : (s.lane l).ctx = some c) :
    (closeLane l s).accounts = (closeBooking c (s.lane l).cfg.tank (s.lane l).meter.net s).1.accounts := by
  simp [closeLane, h]

theorem closeLane_orders (h : (s.lane l).ctx = some c) :
    (closeLane l s).orders =
      if c.order = 0 then s.orders
      else { s.orders with orders := settleOrder c.order (s.lane l).meter.net s.time.uptime s.orders.orders } := by
  have he : (closeLane l s).orders =
      (closeOrder c.order (s.lane l).meter.net (closeBooking c (s.lane l).cfg.tank (s.lane l).meter.net s).1).orders := by
    simp [closeLane, h]
  rw [he, closeOrder]
  split <;> simp

/-- The close of a transaction that claimed an order posts ORDER (R121). -/
theorem closeLane_postsOrder (h : (s.lane l).ctx = some c) (ho : c.order ≠ 0) (i : PortId) :
    holdsKind ((closeLane l s).port i).pendingSet .order = true := by
  rw [closeLane_holdsKind h, closeOrder, if_neg ho, holdsKind_post]
  simp

/-- The booking of a machine's entry at the close of a lane's transaction (R103 to R107). -/
def State.booking (s : State) (u : LaneUnit) (c : Context) (a : Account) : Booking :=
  bookClose a (s.accounts.classes.get a.cls).ceiling u.cfg.tank (s.tank u.cfg.tank).cfg.cls u.meter.net c.hours
    (if s.time.isSet then some s.time.clock else none)

theorem booking_account (s : State) (u : LaneUnit) (c : Context) (a : Account) :
    (s.booking u c a).account =
      { bookTotals a (s.tank u.cfg.tank).cfg.cls u.meter.net c.hours (if s.time.isSet then some s.time.clock else none) with
        burnRate := (burnRateOf a.hoursLast (s.tank u.cfg.tank).cfg.cls u.meter.net c.hours).or a.burnRate
        burnHigh := ((burnRateOf a.hoursLast (s.tank u.cfg.tank).cfg.cls u.meter.net c.hours).map
          (fun r => decide ((s.accounts.classes.get a.cls).ceiling < r))).getD a.burnHigh
        items := (c.hours.map (fun h => (a.items.map (serveItem u.cfg.tank u.meter.net h)).map (dueItem h))).getD a.items } :=
  bookClose_account

theorem booking_hoursLast (s : State) (u : LaneUnit) (c : Context) (a : Account) :
    (s.booking u c a).account.hoursLast =
      match c.hours with
      | none => a.hoursLast
      | some h => some (max (a.hoursLast.getD 0) h) :=
  (congrArg Account.hoursLast (booking_account s u c a)).trans
    (bookTotals_hoursLast a (s.tank u.cfg.tank).cfg.cls u.meter.net c.hours (if s.time.isSet then some s.time.clock else none))

theorem booking_lastFill (s : State) (u : LaneUnit) (c : Context) (a : Account) :
    (s.booking u c a).account.lastFill = if s.time.isSet then some s.time.clock else a.lastFill :=
  (congrArg Account.lastFill (booking_account s u c a)).trans
    (bookTotals_lastFill a (s.tank u.cfg.tank).cfg.cls u.meter.net c.hours s.time.isSet s.time.clock)

/-- A qualifying FUEL close gives the machine its burn rate, high above its class's ceiling, and then posts ACCOUNT (R104, R105). -/
theorem booking_qualifying {u : LaneUnit} {a : Account} {h p : Nat} (hcls : (s.tank u.cfg.tank).cfg.cls = .fuel)
    (hh : c.hours = some h) (hlast : a.hoursLast = some p) (hrun : p + 10 ≤ h) (hn : 0 < u.meter.net) :
    (s.booking u c a).account.burnRate = some (u.meter.net.toNat * 10 / (h - p)) ∧
      ((s.booking u c a).account.burnHigh = true ↔
        (s.accounts.classes.get a.cls).ceiling < u.meter.net.toNat * 10 / (h - p)) ∧
      ((s.booking u c a).account.burnHigh = true → (s.booking u c a).alarm = true) := by
  have hburn := burnRateOf_qualifying (net := u.meter.net) hrun hn
  rw [← hlast, ← hcls, ← hh] at hburn
  have hb := booking_account s u c a
  rw [hburn] at hb
  have hhigh : (s.booking u c a).account.burnHigh =
      decide ((s.accounts.classes.get a.cls).ceiling < u.meter.net.toNat * 10 / (h - p)) := by rw [hb]; rfl
  refine ⟨by rw [hb]; rfl, by rw [hhigh, decide_eq_true_iff], fun ht => bookClose_alarm_of_burn hburn ?_⟩
  exact of_decide_eq_true (hhigh.symm.trans ht)

/-- Any other close leaves the burn rate as it was. -/
theorem booking_unqualifying {u : LaneUnit} {a : Account}
    (hn : burnRateOf a.hoursLast (s.tank u.cfg.tank).cfg.cls u.meter.net c.hours = none) :
    (s.booking u c a).account.burnRate = a.burnRate ∧ (s.booking u c a).account.burnHigh = a.burnHigh := by
  have hb := booking_account s u c a
  rw [hn] at hb
  rw [hb]
  exact ⟨rfl, rfl⟩

theorem booking_items (s : State) (u : LaneUnit) (c : Context) (a : Account) :
    (s.booking u c a).account.items =
      (c.hours.map (fun h => (a.items.map (serveItem u.cfg.tank u.meter.net h)).map (dueItem h))).getD a.items :=
  congrArg Account.items (booking_account s u c a)

/-- Each item of a close with a reading: served at its tank and minimum, else based or aged (R106, R107). -/
theorem booking_item {u : LaneUnit} {a : Account} {h : Nat} (hh : c.hours = some h) {x : ServiceItem} (hx : x ∈ a.items) :
    (x.tank = u.cfg.tank → (x.minimum : Int) ≤ u.meter.net → 0 < x.interval →
      { x with base := some h, due := false } ∈ (s.booking u c a).account.items) ∧
    (¬(x.tank = u.cfg.tank ∧ (x.minimum : Int) ≤ u.meter.net) →
      (x.base = none → 0 < x.interval → { x with base := some h } ∈ (s.booking u c a).account.items) ∧
      ∀ base, x.base = some base →
        { x with due := x.due || decide (base + x.interval ≤ h) } ∈ (s.booking u c a).account.items ∧
        (x.due = false → base + x.interval ≤ h → (s.booking u c a).alarm = true)) := by
  have hmem : dueItem h (serveItem u.cfg.tank u.meter.net h x) ∈ (s.booking u c a).account.items := by
    rw [booking_items, hh]
    exact List.mem_map_of_mem (List.mem_map_of_mem hx)
  refine ⟨fun ht hm hi => serveItem_satisfied ht hm hi ▸ hmem, fun hs => ⟨fun hb hi => serveItem_baseless hs hb hi ▸ hmem,
    fun base hb => ⟨?_, fun hd hdue => ?_⟩⟩⟩
  · obtain ⟨h1, h2⟩ := serveItem_aged (h := h) hs hb
    rwa [h1, h2] at hmem
  · have hnew := newlyDue_aged hs hb hd hdue
    rw [State.booking, hh]
    exact bookClose_alarm_of_due hx hnew

/-- The booking of the close of a known machine: its entry in its place, SERVICE on the record, and ACCOUNT for its alarm. -/
theorem closeBooking_found {i : Nat} {a : Account} (h : findAccount s.accounts.slots c.tag = some (i, a)) (u : LaneUnit) :
    closeBooking c u.cfg.tank u.meter.net s =
      (postIf (s.booking u c a).alarm .account
          { s with accounts := { s.accounts with slots := putSlot i (s.booking u c a).account s.accounts.slots } },
        (s.booking u c a).service) := by
  simp only [closeBooking, h]
  rfl

theorem closeLane_postsAccount (h : (s.lane l).ctx = some c) {i : Nat} {a : Account}
    (hf : findAccount s.accounts.slots c.tag = some (i, a)) (ha : (s.booking (s.lane l) c a).alarm = true) (j : PortId) :
    holdsKind ((closeLane l s).port j).pendingSet .account = true := by
  rw [closeLane_holdsKind h, closeOrder_holdsKind _ _ _ _ (by decide), closeBooking_found hf, holdsKind_postIf, ha]
  simp

/-- The entry of a known machine after the close of its transaction. -/
theorem closeLane_found (h : (s.lane l).ctx = some c) {i : Nat} {a : Account}
    (hf : findAccount s.accounts.slots c.tag = some (i, a)) :
    findAccount (closeLane l s).accounts.slots c.tag = some (i, (s.booking (s.lane l) c a).account) := by
  rw [closeLane_accounts h, closeBooking_found hf]
  dsimp only
  rw [postIf_accounts]
  refine findAccount_putSlot_same hf ?_
  rw [State.booking, bookClose_account]
  exact (findAccount_tag hf).2.2

/-- The record filed carries SERVICE as the booking says (R106). -/
theorem filesRecord_service (h : (s.lane l).ctx = some c) {x : Record} (hx : s.filesRecord (closeLane l s) l c x) {i : Nat}
    {a : Account} (hf : findAccount s.accounts.slots c.tag = some (i, a)) :
    x.flags.service = (c.hours.isSome && a.items.any (itemSatisfied (s.lane l).cfg.tank (s.lane l).meter.net)) := by
  have hq : (closeLane l s).records =
      s.records.file (closeRecord l (s.lane l) c (closeBooking c (s.lane l).cfg.tank (s.lane l).meter.net s).2 s) := by
    simp [closeLane, h]
  have he := (congrArg RecordQueue.completed hx.1).symm.trans (congrArg RecordQueue.completed hq)
  have hx' := List.singleton_inj.1 (List.append_cancel_left he)
  rw [hx', closeBooking_found hf]
  exact bookClose_service

theorem removeDraw_lane {ds : List Draw} : ∀ d ∈ removeDraw l ds, d.lane ≠ l := fun _ hd =>
  of_decide_eq_true (List.mem_filter.1 hd).2

theorem Order.overdue_iff (o : Order) (uptime : Nat) :
    o.overdue uptime = true ↔ o.expiry ≠ 0 ∧ o.placedAt + o.expiry ≤ uptime := by
  unfold Order.overdue Order.deadline
  by_cases h : o.expiry = 0 <;> simp [h]

/-- A net above 0 fulfils the order; else it is returned, or removed past its deadline (R120, R121). -/
theorem settleOrder_fulfilled {net : Int} (h : 0 < net) (n uptime : Nat) (os : List Order) :
    settleOrder n net uptime os = os.filter (fun p => decide (p.number ≠ n)) := if_pos h

theorem settleOrder_returned {net : Int} (h : net ≤ 0) {n : Nat} (uptime : Nat) {os : List Order} {o : Order}
    (hf : findOrder os n = some o) :
    settleOrder n net uptime os =
      if o.expiry ≠ 0 ∧ o.placedAt + o.expiry ≤ uptime then os.filter (fun p => decide (p.number ≠ n))
      else os.map (fun p => if p.number = n then { p with claimedBy := none } else p) := by
  have hn : ¬ 0 < net := by omega
  simp only [settleOrder, if_neg hn, hf, Order.overdue_iff]
  rfl

end

/-! ## The expiries (R37, R42, R45, R191) -/

section

variable {s : State} {l : Lane} {c : Context}

theorem ended_of_ne {t : Timer} (h : t ≠ some 0) : ended t = false := decide_eq_false h

theorem authorizationTimerExpiry_exec (hp : s.device.phase = .running) :
    exec (.authorizationTimerExpiry l) s = .next (authorizationExpiry l s) :=
  congrArg Host.Outcome.next (State.whenRunning_running _ hp)

theorem noFlowTimerExpiry_exec (hp : s.device.phase = .running) : exec (.noFlowTimerExpiry l) s = .next (noFlowExpiry l s) :=
  congrArg Host.Outcome.next (State.whenRunning_running _ hp)

theorem settlePeriodEnd_exec (hp : s.device.phase = .running) : exec (.settlePeriodEnd l) s = .next (settleEnd l s) :=
  congrArg Host.Outcome.next (State.whenRunning_running _ hp)

/-- While seconds are left an expiry does nothing. -/
theorem authorizationExpiry_running (h : (s.lane l).authTimer ≠ some 0) : authorizationExpiry l s = s := by
  simp only [authorizationExpiry, ended_of_ne h, Bool.false_eq_true, if_false]
  split <;> rfl

theorem noFlowExpiry_running (h : (s.lane l).noFlowTimer ≠ some 0) : noFlowExpiry l s = s := by
  simp only [noFlowExpiry, ended_of_ne h, Bool.false_eq_true, if_false]
  split <;> rfl

theorem settleEnd_running (h : (s.lane l).settleTimer ≠ some 0) (hc : (s.lane l).settleCap ≠ some 0) : settleEnd l s = s := by
  simp only [settleEnd, ended_of_ne h, ended_of_ne hc, Bool.or_false, Bool.false_eq_true, if_false]
  split <;> rfl

/-- A lane as it goes to its close: its meter unit, configuration, counters and pending disable as they were, its end reason set. -/
structure LaneUnit.ClosesAs (u v : LaneUnit) (c : Context) (r : EndReason) : Prop where
  meter : v.meter = u.meter
  cfg : v.cfg = u.cfg
  counters : v.counters = u.counters
  disable : v.pendingDisable = u.pendingDisable
  ctx : v.ctx = some { c with endReason := some r }

/-- The two expiries that close a transaction (R37, R45, R46). -/
theorem expiry_closes {cmd : Instr} {r : EndReason} (hp : s.device.phase = .running) (hc : (s.lane l).ctx = some c)
    (h : (cmd = .authorizationTimerExpiry l ∧ (s.lane l).state = .authorized ∧ (s.lane l).authTimer = some 0 ∧ r = .expired) ∨
      (cmd = .settlePeriodEnd l ∧ (s.lane l).state = .settling ∧
        ((s.lane l).settleTimer = some 0 ∨ (s.lane l).settleCap = some 0) ∧ c.endReason = some r)) :
    ∃ v, exec cmd s = .next (closeLane l (s.setLane l v)) ∧ (s.lane l).ClosesAs v c r := by
  rcases h with ⟨rfl, hs, ht, rfl⟩ | ⟨rfl, hs, ht, hr⟩
  · refine ⟨{ (s.lane l).setReason .expired with state := .settling }, (authorizationTimerExpiry_exec hp).trans ?_,
      rfl, rfl, rfl, rfl, ?_⟩
    · simp [authorizationExpiry, hs, ended, ht, endLane]
    · simp [LaneUnit.setReason, hc]
  · refine ⟨s.lane l, (settlePeriodEnd_exec hp).trans ?_, rfl, rfl, rfl, rfl, ?_⟩
    · have hself : s.setLane l (s.lane l) = s := State.setLane_lane_self s l
      simp [settleEnd, hs, ended, ht, hself]
    · rw [hc, ← hr]

end

/-- Settles O21: the two closing expiries are one close, read off block by block, and the no-flow expiry is a settling. -/
theorem laneTimersCloseOrSettle : Obligations.LaneTimersCloseOrSettle := by
  intro s l c hp hc
  refine ⟨fun cmd r h => ?_, fun h => ?_, fun h1 h2 => ?_, fun h => ?_, fun hs ht => ?_⟩
  · obtain ⟨v, he, hv⟩ := expiry_closes hp hc h
    have hl : (s.setLane l v).lane l = v := State.lane_setLane_same _ _ _
    have hd : ((s.setLane l v).lane l).ctx = some { c with endReason := some r } := by rw [hl, hv.ctx]
    have hlane := closeLane_lane_same hd
    obtain ⟨rec, hfiles, htells⟩ := closeLane_filesRecord hd rfl
    have horders : (closeLane l (s.setLane l v)).orders =
        if c.order = 0 then s.orders
        else { s.orders with orders := settleOrder c.order (s.lane l).meter.net s.time.uptime s.orders.orders } := by
      rw [← hv.meter]
      exact (closeLane_orders hd).trans (by rw [hl]; rfl)
    refine ⟨_, rec, he, fun j hj => ?_, filesRecord_setLane hv.meter hv.counters hfiles, tells_setLane hv.meter hv.cfg htells,
      ?_, ?_, ?_, ?_, ?_, fun h0 => ?_, fun h0 => ⟨closeLane_postsOrder hd h0, fun hn => ?_, fun o hn ho => ?_⟩, fun i a ha => ?_⟩
    · rw [closeLane_lane_ne _ _ _ hj, State.lane_setLane_ne _ _ _ _ hj]
    · rw [closeLane_tank_draws, hl, hv.ctx, hv.cfg, if_pos ⟨rfl, rfl⟩]
      exact removeDraw_lane
    · rw [closeLane_tank_book]; rfl
    · rw [hlane]; rfl
    · rw [hlane]; rfl
    · rw [hlane, hl, LaneUnit.afterClose, hv.disable]
    · rw [horders, if_pos h0]
    · rw [horders, if_neg h0, settleOrder_fulfilled hn]
    · rw [horders, if_neg h0, settleOrder_returned hn _ ho]
    · have hbook : (s.setLane l v).booking ((s.setLane l v).lane l) { c with endReason := some r } a = s.booking (s.lane l) c a := by
        rw [hl, State.booking, hv.cfg, hv.meter]; rfl
      have hfound := closeLane_found hd ha
      have hposts := closeLane_postsAccount hd ha
      have hservice := filesRecord_service hd hfiles ha
      rw [hbook] at hfound hposts
      rw [hl, hv.cfg, hv.meter] at hservice
      have hb := booking_account s (s.lane l) c a
      refine ⟨_, hfound, congrArg Account.fills hb, booking_hoursLast _ _ _ _, booking_lastFill _ _ _ _,
        congrArg Account.fuelTotal hb, congrArg Account.lubeTotal hb, fun h p hcls hh hlast hrun hn => ?_,
        fun hn => booking_unqualifying (burnRateOf_none hn), fun hh => ?_, fun h hh => ⟨?_, ?_, fun x hx => ?_⟩⟩
      · obtain ⟨hrate, hhigh, halarm⟩ := booking_qualifying hcls hh hlast hrun hn
        exact ⟨hrate, hhigh, fun ht => hposts (halarm ht)⟩
      · rw [booking_items, hservice]
        simp [hh]
      · rw [booking_items, hh]
        simp
      · rw [hservice, hh]
        simp [itemSatisfied]
      · obtain ⟨hserved, hother⟩ := booking_item (s := s) (u := s.lane l) hh hx
        refine ⟨hserved, fun hs => ⟨(hother hs).1, fun base hb => ?_⟩⟩
        obtain ⟨haged, halarm⟩ := (hother hs).2 base hb
        exact ⟨haged, fun hd hdue => hposts (halarm hd hdue)⟩
  · rw [authorizationTimerExpiry_exec hp, authorizationExpiry_running h]
  · rw [settlePeriodEnd_exec hp, settleEnd_running h1 h2]
  · rw [noFlowTimerExpiry_exec hp, noFlowExpiry_running h]
  · have he : noFlowExpiry l s = endLane l (noFlowReason (s.lane l).meter.net) s := by
      simp [noFlowExpiry, hs, ended, ht]
    obtain ⟨h1, h2, h3, -, h5⟩ := (endLane_lane l (noFlowReason (s.lane l).meter.net) s hc).2 hs
    refine ⟨_, (noFlowTimerExpiry_exec hp).trans (congrArg Host.Outcome.next he), fun j hj => endLane_lane_ne _ _ _ _ hj, h1, h2, h3,
      h5, ?_, ?_⟩
    · simp [endLane, hs]
    · simp [endLane, hs]

end Sys2Proof.Machine
end

section
/-! No command lets the allocations of a tank pass its book (R62, R64, R66). Eases says of two states that no book has fallen or left its
range and no allocations have grown: what ends, cuts, trips and samples do. Only a metered draw, a stock adjustment and an admission
need more: the first two a trim, the last the check of the available stock. -/

namespace Sys2Proof.Machine

/-! ## The relations -/

/-- A tank whose book, from its range, has neither fallen nor left it, and whose allocations have not grown. -/
structure TankUnit.Eases (u v : TankUnit) : Prop where
  book : u.book ≤ 2000000000 → u.book ≤ v.book ∧ v.book ≤ 2000000000
  draws : allocated v.draws ≤ allocated u.draws

/-- Every tank of t stands to its own in s as TankUnit.Eases says. -/
def Eases (s t : State) : Prop := ∀ k, (s.tank k).Eases (t.tank k)

/-- The stock law, where it holds of s, holds of t. -/
def KeepsStock (s t : State) : Prop := StockLaw s → StockLaw t

theorem TankUnit.eases_of_draws {u v : TankUnit} (hb : v.book = u.book) (hd : allocated v.draws ≤ allocated u.draws) : u.Eases v :=
  ⟨fun h => ⟨hb.ge, hb.trans_le h⟩, hd⟩

theorem TankUnit.eases_of_same {u v : TankUnit} (hb : v.book = u.book) (hd : v.draws = u.draws) : u.Eases v :=
  TankUnit.eases_of_draws hb (hd ▸ le_rfl)

theorem TankUnit.Eases.refl (u : TankUnit) : u.Eases u := TankUnit.eases_of_same rfl rfl

theorem TankUnit.Eases.trans {u v w : TankUnit} (h : u.Eases v) (g : v.Eases w) : u.Eases w :=
  ⟨fun hu => ⟨(h.book hu).1.trans (g.book (h.book hu).2).1, (g.book (h.book hu).2).2⟩, g.draws.trans h.draws⟩

/-- R62, R66 of one tank. -/
theorem TankUnit.Eases.meets {u v : TankUnit} (h : u.Eases v) (hu : allocated u.draws ≤ u.book ∧ u.book ≤ 2000000000) :
    allocated v.draws ≤ v.book ∧ v.book ≤ 2000000000 :=
  ⟨(h.draws.trans hu.1).trans (h.book hu.2).1, (h.book hu.2).2⟩

theorem Eases.refl (s : State) : Eases s s := fun _ => .refl _

theorem Eases.trans {s t u : State} (h : Eases s t) (g : Eases t u) : Eases s u := fun k => (h k).trans (g k)

theorem Eases.keepsStock {s t : State} (h : Eases s t) : KeepsStock s t := fun hs k => (h k).meets (hs k)

theorem KeepsStock.refl (s : State) : KeepsStock s s := id

theorem KeepsStock.trans {s t u : State} (h : KeepsStock s t) (g : KeepsStock t u) : KeepsStock s u := g ∘ h

section

variable {s t u : State}

theorem eases_of_tanks (e : u.tanks = t.tanks) (h : Eases s t) : Eases s u :=
  h.trans fun k => by rw [State.tank, State.tank, e]; exact .refl _

theorem keepsStock_of_tanks (e : t.tanks = s.tanks) : KeepsStock s t := (eases_of_tanks e (.refl s)).keepsStock

theorem setTank_eases {k : Tank} {x : TankUnit} (hx : (t.tank k).Eases x) (h : Eases s t) : Eases s (t.setTank k x) := by
  refine h.trans fun j => ?_
  by_cases hj : j = k
  · subst hj; rw [State.tank_setTank_same]; exact hx
  · rw [State.tank_setTank_ne _ _ _ _ hj]; exact .refl _

/-- All tanks may be replaced by tanks of the same books and draw lists. -/
theorem tanks_eases {v : Eight TankUnit} (hv : ∀ k, (v.get k).book = (t.tank k).book ∧ (v.get k).draws = (t.tank k).draws)
    (h : Eases s t) : Eases s { t with tanks := v } :=
  h.trans fun k => TankUnit.eases_of_same (hv k).1 (hv k).2

/-! ## The close, the ends and the faults (R38, R43, R46, R48, R68) -/

theorem closeLane_eases (l : Lane) (h : Eases s t) : Eases s (closeLane l t) := by
  refine h.trans fun k => TankUnit.eases_of_draws (closeLane_tank_book l t k) ?_
  rw [closeLane_tank_draws]
  split
  · exact allocated_removeDraw l _
  · exact le_rfl

theorem endLane_eases (l : Lane) (r : EndReason) (h : Eases s t) : Eases s (endLane l r t) :=
  h.trans fun k => TankUnit.eases_of_draws (endLane_tank_book l r t k) (endLane_allocated l r t k)

theorem endLanes_eases (ls : LaneSet) (r : EndReason) (h : Eases s t) : Eases s (endLanes ls r t) :=
  foldl_keeps_prop (Eases s) _ (fun _ l hu => by split <;> [exact endLane_eases l r hu; exact hu]) _ t h

theorem takeFault_eases (l : Lane) (f : LaneFault) (h : Eases s t) : Eases s (takeFault l f t) := by
  unfold takeFault
  dsimp only
  split
  · split
    · exact eases_of_tanks rfl h
    · exact endLane_eases _ _ (eases_of_tanks rfl h)
  · exact h

theorem faultIf_eases (c : Bool) (l : Lane) (f : LaneFault) (h : Eases s t) : Eases s (faultIf c l f t) := by
  cases c
  · exact h
  · exact takeFault_eases l f h

theorem miscountEvent_eases (l : Lane) (h : Eases s t) : Eases s (miscountEvent l t) := faultIf_eases _ _ _ (eases_of_tanks rfl h)

theorem testPreset_eases (l : Lane) (h : Eases s t) : Eases s (testPreset l t) := by
  unfold testPreset
  dsimp only
  split
  · split
    · exact endLane_eases _ _ h
    · exact eases_of_tanks (evaluateStage_tanks _ _) h
  · exact h

theorem testOverrun_eases (l : Lane) (h : Eases s t) : Eases s (testOverrun l t) := by
  unfold testOverrun
  dsimp only
  split
  · exact h
  · exact faultIf_eases _ _ _ h

/-! ## Sources, trips and inlets (R84 to R86, R144 to R152) -/

theorem endDischarge_eases (k : Tank) (b : Bool) (h : Eases s t) : Eases s (endDischarge k b t) :=
  setTank_eases (TankUnit.eases_of_same rfl rfl) h

theorem blockAll_eases (ls : LaneSet) (ts : TankSet) (h : Eases s t) : Eases s (blockAll ls ts t) :=
  foldl_keeps_prop (Eases s) _ (fun _ k hu => by split <;> [exact endDischarge_eases k true hu; exact hu]) _ _
    (endLanes_eases ls .spill h)

theorem tripSource_eases (i : SourceId) (h : Eases s t) : Eases s (tripSource i t) :=
  eases_of_tanks (post_tanks _ _) (blockAll_eases _ _ (eases_of_tanks rfl h))

theorem riseSource_eases (i : SourceId) (h : Eases s t) : Eases s (riseSource i t) := by
  unfold riseSource
  dsimp only
  split
  · exact eases_of_tanks rfl h
  · exact tripSource_eases i h

theorem sampleSource_eases (i : SourceId) (c : Bool) (h : Eases s t) : Eases s (sampleSource i c t) := by
  unfold sampleSource
  dsimp only
  split
  · exact riseSource_eases i (eases_of_tanks rfl h)
  · exact eases_of_tanks rfl h

theorem creepTrigger_eases (l : Lane) (c : Bool) (h : Eases s t) : Eases s (creepTrigger l c t) := by
  unfold creepTrigger
  dsimp only
  split
  · exact riseSource_eases _ (eases_of_tanks rfl h)
  · exact eases_of_tanks rfl h

theorem sampleHose_eases (l : Lane) (h : Eases s t) : Eases s (sampleHose l t) := by
  unfold sampleHose
  dsimp only
  split
  · exact creepTrigger_eases _ _ (sampleSource_eases _ _ h)
  · exact sampleSource_eases _ _ h

theorem blankIf_eases (c : Bool) (i : SourceId) (h : Eases s t) : Eases s (blankIf c i t) := by
  cases c
  · exact h
  · exact eases_of_tanks rfl h

theorem changeSource_eases (i : SourceId) (v : SourceSetting) (s : State) : Eases s (changeSource i v s) := by
  unfold changeSource
  dsimp only
  split
  · exact blockAll_eases _ _ (eases_of_tanks rfl (.refl s))
  · exact eases_of_tanks rfl (.refl s)

/-! ## The trim and the draw (R44, R62, R64, R66) -/

theorem allocationCut_eases (l : Lane) (a : Int) (h : Eases s t) : Eases s (allocationCut l a t) :=
  h.trans fun k => TankUnit.eases_of_draws (allocationCut_tank_book l a t k) (allocationCut_allocated l a t k)

/-- The trim of one tank lets no allocations of another grow. -/
theorem trimTank_others {k j : Tank} (s : State) (h : j ≠ k) : (s.tank j).Eases ((trimTank k s).tank j) := by
  refine foldl_keeps_prop (fun t => (s.tank j).Eases (t.tank j)) _
    (fun t x ht => ht.trans (allocationCut_eases x.1 x.2 (.refl t) j)) _ _ ?_
  rw [State.tank_setTank_ne _ _ _ _ h]; exact .refl _

/-- R66: whatever the allocations of a tank were, its trim brings the law back. -/
theorem trimTank_stockLaw {k : Tank} (hk : (t.tank k).book ≤ 2000000000) (ho : ∀ j, j ≠ k → t.tank j = s.tank j)
    (h : StockLaw s) : StockLaw (trimTank k t) := by
  intro j
  by_cases hj : j = k
  · subst hj
    rw [trimTank_tank_book]
    exact ⟨trimTank_allocated j t, hk⟩
  · exact (trimTank_others t hj).meets (ho j hj ▸ h j)

/-! ## Lanes and pumps (R30, R35, R36, R68) -/

theorem setPump_eases (k : Tank) (p : PumpState) (timer : Timer) (h : Eases s t) :
    Eases s (t.setTank k ((t.tank k).setPump p timer)) := setTank_eases (TankUnit.eases_of_same rfl rfl) h

theorem startLane_eases (l : Lane) (h : Eases s t) : Eases s (startLane l t) := by
  obtain ⟨_, _, _, _, hk⟩ := startLane_leaves l t
  exact h.trans fun k => TankUnit.eases_of_same (hk k).2 (hk k).1

theorem hookSample_eases (l : Lane) (b : Bool) (s : State) : Eases s (hookSample l b s) := by
  have h : Eases s (s.setLane l { s.lane l with hook := (s.lane l).hook.sample b }) := eases_of_tanks rfl (.refl s)
  unfold hookSample
  dsimp only
  split
  · unfold hookEvent
    split
    · exact startLane_eases _ h
    · exact endLane_eases _ _ h
    · exact endLane_eases _ _ h
    · exact h
  · exact h

theorem pumpRdySample_eases (k : Tank) (b : Bool) (s : State) : Eases s (pumpRdySample k b s) := by
  have h : Eases s (s.setTank k { s.tank k with rdy := (s.tank k).rdy.sample b }) :=
    setTank_eases (TankUnit.eases_of_same rfl rfl) (.refl s)
  unfold pumpRdySample
  dsimp only
  split
  · exact h
  · unfold pumpRdyEvent
    split
    · exact eases_of_tanks rfl (setPump_eases k .running none h)
    · exact setPump_eases _ _ _ h
    · exact h

theorem pumpExpiry_eases (k : Tank) (s : State) : Eases s (pumpExpiry k s) := by
  unfold pumpExpiry
  split
  · split
    · exact setPump_eases _ _ _ (endLanes_eases _ _ (.refl s))
    · exact .refl s
  · exact .refl s

theorem authorizationExpiry_eases (l : Lane) (s : State) : Eases s (authorizationExpiry l s) := by
  unfold authorizationExpiry
  split
  · split <;> [exact endLane_eases l _ (.refl s); exact .refl s]
  · split <;> [exact endLane_eases l _ (.refl s); exact .refl s]
  · exact .refl s

theorem noFlowExpiry_eases (l : Lane) (s : State) : Eases s (noFlowExpiry l s) := by
  unfold noFlowExpiry
  split
  · split <;> [exact endLane_eases l _ (.refl s); exact .refl s]
  · exact .refl s

theorem settleEnd_eases (l : Lane) (s : State) : Eases s (settleEnd l s) := by
  unfold settleEnd
  split
  · split <;> [exact closeLane_eases l (.refl s); exact .refl s]
  · exact .refl s

/-! ## The meter (R2 to R22) -/

theorem illegalPair_eases (l : Lane) (a b : Bool) (s : State) : Eases s (illegalPair l a b s) :=
  miscountEvent_eases l (eases_of_tanks rfl (.refl s))

theorem decoderSample_eases (l : Lane) (a b : Bool) (s : State) : Eases s (decoderSample l a b s) := by
  unfold decoderSample
  split
  · exact .refl s
  · unfold countedEdge
    dsimp only
    split
    · exact miscountEvent_eases l (eases_of_tanks rfl (.refl s))
    · exact eases_of_tanks rfl (.refl s)
  · exact illegalPair_eases l a b s

theorem meterFault_eases (l : Lane) (s : State) : Eases s (meterFault l s) := by
  unfold meterFault
  dsimp only
  split
  · exact miscountEvent_eases l (eases_of_tanks rfl (.refl s))
  · exact .refl s

theorem indexPulse_eases (l : Lane) (s : State) : Eases s (indexPulse l s) := by
  unfold indexPulse
  dsimp only
  split
  · exact .refl s
  · split
    · exact eases_of_tanks rfl (.refl s)
    · exact eases_of_tanks rfl (.refl s)
    · exact miscountEvent_eases l (eases_of_tanks rfl (.refl s))

/-- The draw of a sample is trimmed at once; the tests that follow it end lanes (R41, R45, R48, R66). -/
theorem txnSample_stock (l : Lane) (s : State) : KeepsStock s (txnSample l s) := fun h => by
  rw [txnSample_eq]
  refine (testOverrun_eases l (testPreset_eases l (faultIf_eases _ _ _ (faultIf_eases _ _ _ (.refl _))))).keepsStock
    (trimTank_stockLaw ?_ (fun j hj => txnSampled_tank_ne s l hj) h)
  rw [txnSampled_tank]
  exact deduct_book_le (k := { s.tank (s.lane l).cfg.tank with drawnSince := _ }) _ (h _).2

theorem meterSample_stock (l : Lane) (s : State) : KeepsStock s (meterSample l s) := by
  unfold meterSample
  dsimp only
  refine KeepsStock.trans ?_ (sampleHose_eases l (.refl _)).keepsStock
  split
  · exact txnSample_stock l s
  · exact keepsStock_of_tanks rfl

/-! ## Gauge samples (R57 to R75, R87, R88) -/

theorem TankUnit.takeReading_eases (k : TankUnit) (r : Option GaugeReading) : k.Eases (k.takeReading r).computeNet := by
  have h : k.Eases (k.takeReading r) := by cases r <;> exact TankUnit.eases_of_same rfl rfl
  unfold TankUnit.computeNet
  split
  · exact ⟨h.book, h.draws⟩
  · exact h

theorem TankUnit.restartWindow_eases (k : TankUnit) (n : Nat) : k.Eases (k.restartWindow n) := by
  obtain ⟨hb, _, hd⟩ := k.restartWindow_store n
  exact TankUnit.eases_of_same hb hd

theorem TankUnit.testLoss_eases (k : TankUnit) (valid d : Bool) (n : Nat) : k.Eases (k.testLoss valid d n) := by
  unfold TankUnit.testLoss
  split
  · exact TankUnit.eases_of_same rfl rfl
  · split
    · exact .refl k
    · split
      · exact TankUnit.eases_of_same rfl rfl
      · have h := k.restartWindow_eases n
        exact ⟨h.book, h.draws⟩
      · exact .refl k

theorem TankUnit.ageWindow_eases (k : TankUnit) (valid : Bool) (n : Nat) : k.Eases (k.ageWindow valid n) := by
  unfold TankUnit.ageWindow
  split
  · exact .refl k
  · split
    · exact k.restartWindow_eases n
    · exact .refl k

theorem zoneSample_eases (k : Tank) (level : Nat) (h : Eases s t) : Eases s (zoneSample k level t) := by
  have hz : Eases s (t.zoned k level) := h.trans fun j => by
    by_cases hj : j = k
    · subst hj
      rw [zoned_tank]
      unfold TankUnit.latch
      split <;> exact TankUnit.eases_of_same rfl rfl
    · rw [zoned_tank_ne _ _ _ hj]; exact .refl _
  rw [zoneSample_eq]
  split
  · exact setPump_eases _ _ _ (endLanes_eases _ _ hz)
  · exact hz

/-- A receipt raises the book, and no further than its range (R62, R88). -/
theorem receiveInto_bounds {book : Nat} (z : Int) (h : book ≤ 2000000000) :
    book ≤ receiveInto book z ∧ receiveInto book z ≤ 2000000000 := by
  unfold receiveInto satAdd Config.maxVolume
  split <;> omega

theorem closingGauge_eases (k : Tank) (h : Eases s t) : Eases s (closingGauge k t) := by
  unfold closingGauge
  split
  · split
    · exact h
    · exact eases_of_tanks (post_tanks _ _) (setTank_eases ⟨receiveInto_bounds _, le_rfl⟩ (eases_of_tanks rfl h))
  · exact h

theorem gaugeTaken_eases (k : Tank) (r : Option GaugeReading) (s : State) : Eases s (gaugeTaken k r s) := by
  have h : Eases s { s.setTank k ((s.tank k).takeReading r).computeNet with bus := .polled k } :=
    eases_of_tanks rfl (setTank_eases ((s.tank k).takeReading_eases r) (.refl s))
  cases r with
  | none => exact eases_of_tanks (postIf_tanks _ _ _) (eases_of_tanks rfl h)
  | some g => exact closingGauge_eases k (zoneSample_eases k g.level h)

theorem gaugeHanded_eases (k : Tank) (valid : Bool) (h : Eases s t) : Eases s (gaugeHanded k valid t) := by
  have hl : Eases s (testAndHand k valid t) :=
    setTank_eases (((t.tank k).testLoss_eases valid _ _).trans (TankUnit.eases_of_same rfl rfl)) h
  exact setTank_eases (TankUnit.ageWindow_eases _ _ _) (sampleSource_eases _ _ (sampleSource_eases _ _ hl))

theorem gaugeEvent_eases (k : Tank) (r : Option GaugeReading) (h : Eases s t) : Eases s (gaugeEvent k r t) := by
  rw [gaugeEvent_eq]
  exact gaugeHanded_eases k _ (h.trans (gaugeTaken_eases k r t))

theorem gaugeSample_eases (k : Tank) (r : Option GaugeReading) (s : State) : Eases s (gaugeSample k r s) := by
  unfold gaugeSample
  split
  · exact gaugeEvent_eases k r (.refl s)
  · exact .refl s

theorem gaugeStale_eases (k : Tank) (s : State) : Eases s (gaugeStale k s) := by
  unfold gaugeStale
  dsimp only
  split
  · exact gaugeEvent_eases k none (setTank_eases (TankUnit.eases_of_same rfl rfl) (.refl s))
  · exact .refl s

theorem staleEnd_eases (k : Tank) (s : State) : Eases s (staleEnd k s) := by
  unfold staleEnd
  split
  · exact gaugeEvent_eases k none (eases_of_tanks rfl (.refl s))
  · exact .refl s

theorem noGaugeSample_eases (k : Tank) (s : State) : Eases s (noGaugeSample k s) := by
  unfold noGaugeSample
  split
  · exact sampleSource_eases _ _ (sampleSource_eases _ _ (setTank_eases (TankUnit.eases_of_same rfl rfl) (.refl s)))
  · exact .refl s

theorem discreteSample_eases (low : BitVec 4) (c : Bool) (s : State) : Eases s (discreteSample low c s) :=
  sampleSource_eases _ _ (sampleSource_eases _ _ (sampleSource_eases _ _ (sampleSource_eases _ _ (sampleSource_eases _ _ (.refl s)))))

theorem sourceTrip_eases (i : SourceId) (s : State) : Eases s (sourceTrip i s) := by
  unfold sourceTrip
  split
  · exact riseSource_eases _ (.refl s)
  · dsimp only
    split
    · exact riseSource_eases _ (eases_of_tanks rfl (.refl s))
    · exact .refl s

end

end Sys2Proof.Machine
end

section
/-! Every command keeps the stock law (R55, R56, R62 to R66, R82, R170 to R173): the admission, start-up, the requests, and the step. -/

namespace Sys2Proof.Machine

section

variable {s t : State}

/-! ## The admission (R34, R64, R65) -/

/-- What the passed checks of OPEN_LANE grant is what the available stock admits (R32, R65). -/
theorem openChecks_admits {r : OpenRequest} {g : OpenGrant} (h : openChecks r s = .inr g) :
    ∃ priority p, (s.tank (s.lane r.lane).cfg.tank).grant priority p = some g.preset := by
  have hgrant : ∃ a hours, openGrant r a hours s = .inr g := by
    unfold openChecks at h
    split at h
    · cases h
    · cases h
    · dsimp only at h
      split at h
      · cases h
      · exact ⟨_, _, h⟩
  obtain ⟨a, hours, hg⟩ := hgrant
  unfold openGrant at hg
  dsimp only at hg
  split at hg
  · cases hg
  · split at hg
    · cases hg
    · rename_i hp
      split at hg
      · cases hg
      · cases hg
        exact ⟨_, _, hp⟩

theorem grantOpen_stock {r : OpenRequest} {g : OpenGrant} (h : openChecks r s = .inr g) : KeepsStock s (grantOpen r g s) := by
  intro hs k
  by_cases hk : k = (s.lane r.lane).cfg.tank
  · obtain ⟨_, _, hg⟩ := openChecks_admits h
    have hfit := grant_fits hg (hs _).1
    rw [hk, grantOpen_tank]
    exact ⟨by simpa using hfit, (hs _).2⟩
  · have he : (grantOpen r g s).tank k = s.tank k := State.tank_setTank_ne s _ _ _ hk
    rw [he]; exact hs k

theorem openLaneAnswer_stock (i : PortId) (lane : Nat) (tag : Tag) (order : Nat) (preset hours : Option Nat) (override : Nat)
    (s : State) : KeepsStock s (openLaneAnswer i lane tag order preset hours override s).state := by
  unfold openLaneAnswer
  split
  · unfold openAnswer
    split
    · exact .refl s
    · rename_i g hg
      unfold acceptOpen
      dsimp only
      split
      · exact (grantOpen_stock hg).trans (startLane_eases _ (.refl _)).keepsStock
      · exact grantOpen_stock hg
  · exact .refl s

/-! ## Supply, reset and start-up (R169 to R174) -/

theorem hold_eases (h : Eases s t) : Eases s (hold t) :=
  eases_of_tanks rfl (tanks_eases (v := t.tanks.map TankUnit.releaseOutputs) (fun k => by rw [Eight.get_map]; exact ⟨rfl, rfl⟩) h)

/-- The factory books are empty, and so are the draw lists after any start-up (R54, R170, R172). -/
theorem startUp_stock (cause : StartCause) (straps : BitVec 2) (s : State) : KeepsStock s (startUp cause straps s) := by
  intro hs k
  have hbook : ((checkMarker s).tank k).book ≤ 2000000000 := by
    unfold checkMarker
    split
    · exact (hs k).2
    · rw [writeFactory_tank]; exact Nat.zero_le _
  have htank : (startUp cause straps s).tank k = ((checkMarker s).tank k).atStartUp := by
    rw [startUp_eq]; exact resetVolatile_tank cause straps _ k
  rw [htank]
  exact ⟨Nat.zero_le _, hbook⟩

theorem powerUp_stock (straps : BitVec 2) (h : KeepsStock s t) : KeepsStock s (powerUp straps t) := by
  unfold powerUp
  split
  · exact h.trans (startUp_stock _ straps t)
  · exact h

theorem enterRunning_eases (a b : LaneSet) (s : State) : Eases s (enterRunning a b s) := by
  have h : Eases s { s with tanks := s.tanks.map TankUnit.enterRunning } :=
    tanks_eases (fun k => by rw [Eight.get_map]; exact ⟨rfl, rfl⟩) (.refl s)
  unfold enterRunning
  exact eases_of_tanks (postIf_tanks _ _ _) (eases_of_tanks rfl h)

theorem bayRestartAnswer_stock (i : PortId) (straps : BitVec 2) (s : State) : KeepsStock s (bayRestartAnswer i straps s).state := by
  unfold bayRestartAnswer
  split
  · exact .refl s
  · exact (startUp_stock _ straps s).trans (keepsStock_of_tanks rfl)

/-! ## Time (R117, R157, R190, R191) -/

theorem announcementExpiry_tanks (n : Nat) (s : State) : (announcementExpiry n s).tanks = s.tanks := postIf_tanks _ _ _

theorem orderDeadline_tanks (n : Nat) (s : State) : (orderDeadline n s).tanks = s.tanks := by
  unfold orderDeadline
  split
  · split <;> rfl
  · rfl

theorem captureSample_tanks (s : State) : (captureSample s).tanks = s.tanks := by
  unfold captureSample
  split <;> rfl

theorem wholeSecond_eases (s : State) : Eases s (wholeSecond s) := by
  have h : Eases s { s with
      tanks := s.tanks.map (fun k => { k with pumpTimer := tick k.pumpTimer, noGaugeTimer := tick k.noGaugeTimer }) } :=
    tanks_eases (fun k => by rw [Eight.get_map]; exact ⟨rfl, rfl⟩) (.refl s)
  unfold wholeSecond
  split
  · exact eases_of_tanks rfl h
  · exact eases_of_tanks rfl (.refl s)
  · exact .refl s

/-! ## Requests of the lanes, the records, the sources and the calibration lock -/

theorem State.sameBay.stock (h : s.sameBay t) : KeepsStock s t := keepsStock_of_tanks h.2.1

theorem stopAnswer_eases (l : Lane) (s : State) : Eases s (stopAnswer l s).state := by
  unfold stopAnswer
  split
  · exact .refl s
  · exact .refl s
  · exact endLane_eases l _ (.refl s)

theorem setLaneAnswer_eases (v : LaneSetting) (l : Lane) (s : State) : Eases s (setLaneAnswer v l s).state := by
  unfold setLaneAnswer
  dsimp only
  split
  · exact .refl s
  · split
    · exact .refl s
    · exact blankIf_eases _ _ (eases_of_tanks rfl (.refl s))

theorem setPolicyAnswer_tanks (policy threshold : Nat) (s : State) : (setPolicyAnswer policy threshold s).state.tanks = s.tanks := by
  unfold setPolicyAnswer
  split
  · split
    · exact postIf_tanks _ _ _
    · rfl
  · rfl

theorem releaseAnswer_tanks (n : Nat) (s : State) : (releaseAnswer n s).state.tanks = s.tanks := by
  unfold releaseAnswer
  split <;> rfl

theorem recordStatusAnswer_tanks (n : Nat) (s : State) : (recordStatusAnswer n s).state.tanks = s.tanks := by
  unfold recordStatusAnswer
  split
  · rfl
  · dsimp only [Answer.ok]
    split <;> rfl

theorem rearmAnswer_tanks (i : SourceId) (s : State) : (rearmAnswer i s).state.tanks = s.tanks := by
  unfold rearmAnswer
  dsimp only
  split
  · rfl
  · split <;> rfl

theorem setSourceAnswer_eases (v : SourceSetting) (i : SourceId) (s : State) : Eases s (setSourceAnswer v i s).state := by
  unfold setSourceAnswer
  split
  · exact changeSource_eases i v s
  · exact .refl s

theorem guarded_eases {busy : Bool} {act : State → State} (h : Eases s (act s)) : Eases s (guarded busy act s).state := by
  unfold guarded
  split
  · exact .refl s
  · split
    · exact .refl s
    · exact eases_of_tanks rfl h

theorem setMeterAnswer_eases (v : MeterSetting) (l : Lane) (s : State) : Eases s (setMeterAnswer v l s).state := by
  unfold setMeterAnswer
  split
  · exact guarded_eases (eases_of_tanks rfl (.refl s))
  · exact .refl s

theorem setProductAnswer_eases (alpha : Nat) (k : Tank) (s : State) : Eases s (setProductAnswer alpha k s).state := by
  unfold setProductAnswer
  split
  · exact guarded_eases (setTank_eases (TankUnit.eases_of_same rfl rfl) (.refl s))
  · exact .refl s

theorem setStrappingAnswer_eases (points : List (Nat × Nat)) (k : Tank) (s : State) :
    Eases s (setStrappingAnswer points k s).state := by
  unfold setStrappingAnswer
  split
  · exact guarded_eases (setTank_eases (TankUnit.eases_of_same rfl rfl) (.refl s))
  · exact .refl s

/-! ## Requests of the tanks and the deliveries (R55, R56, R63, R73, R82, R85) -/

theorem configure_draws (k : TankUnit) (c : TankConfig) : (k.configure c).draws = k.draws := by
  cases hk : k.cfg.gaugeFitted with
  | false => rw [configure_kept (Or.inl hk)]
  | true =>
    cases hc : c.gaugeFitted with
    | false => rw [(configure_removed hk hc).1]
    | true => rw [configure_kept (Or.inr hc)]

theorem setTankAnswer_eases (v : TankSetting) (k : Tank) (s : State) : Eases s (setTankAnswer v k s).state := by
  unfold setTankAnswer
  dsimp only
  split
  · exact .refl s
  · rename_i c _
    obtain ⟨_, _, hbook, _⟩ := configure_store (s.tank k) c
    split
    · exact .refl s
    · exact blankIf_eases _ _ (blankIf_eases _ _ (setTank_eases (TankUnit.eases_of_same hbook (configure_draws _ c)) (.refl s)))

theorem setReserveAnswer_eases (n : Nat) (k : Tank) (s : State) : Eases s (setReserveAnswer n k s).state := by
  unfold setReserveAnswer
  dsimp only
  split
  · exact .refl s
  · exact setTank_eases (TankUnit.eases_of_same rfl rfl) (.refl s)

/-- The book that is set is in its range, and the trim cuts the allocations that pass it (R63, R66). -/
theorem adjustAnswer_stock (book clear : Nat) (k : Tank) (s : State) : KeepsStock s (adjustAnswer book clear k s).state := by
  unfold adjustAnswer
  split
  · exact .refl s
  · rename_i c _
    split
    · exact .refl s
    · rename_i hrange
      intro hs
      have hbook := (TankUnit.adjust_store (s.tank k) book c (s.discharging k) s.time.uptime).1
      refine trimTank_stockLaw ?_ (fun j hj => State.tank_setTank_ne s _ _ _ hj) hs
      rw [State.tank_setTank_same, hbook]
      exact Nat.not_lt.1 hrange

theorem ackAnswer_eases (k : Tank) (s : State) : Eases s (ackAnswer k s).state :=
  setTank_eases (TankUnit.eases_of_same rfl rfl) (.refl s)

theorem ackAllAnswer_eases (s : State) : Eases s (ackAllAnswer s).state :=
  tanks_eases (fun k => by rw [Eight.get_map]; exact ⟨rfl, rfl⟩) (.refl s)

theorem confirmAnswer_eases (settle fixedTol propTol : Option Nat) (e : DeliveryEntry) (s : State) :
    Eases s (confirmAnswer settle fixedTol propTol e s).state := by
  unfold confirmAnswer
  dsimp only
  split
  · exact .refl s
  · split
    · exact .refl s
    · split
      · exact .refl s
      · split
        · exact .refl s
        · intro k
          show (s.tank k).Eases ((acceptConfirm e _ s).tank k)
          rw [acceptConfirm_tank]
          split
          · exact TankUnit.eases_of_same rfl rfl
          · exact .refl _

theorem endDeliveryAnswer_eases (e : DeliveryEntry) (s : State) : Eases s (endDeliveryAnswer e s).state := by
  unfold endDeliveryAnswer
  split
  · exact endDischarge_eases _ _ (.refl s)
  · exact .refl s
  · exact .refl s

/-! ## Serving (R171, R176 to R178) -/

/-- A request keeps the stock law where its owning block does. -/
theorem serve_stock {f : Frame} {code : Byte} {a : Access} {act : State → Answer} (h : KeepsStock s (act s).state) :
    KeepsStock s (serve f code a act s) := by
  rcases serve_cases f code a act s with ⟨_, e⟩ | ⟨_, _, e⟩ | ⟨_, _, e⟩ | ⟨_, _, _, e⟩ | ⟨_, _, _, e⟩ <;> rw [e]
  · exact .refl s
  · exact keepsStock_of_tanks rfl
  · exact keepsStock_of_tanks rfl
  · exact keepsStock_of_tanks rfl
  · exact h.trans (keepsStock_of_tanks rfl)

theorem whenRunning_stock {f : State → State} (h : KeepsStock s (f s)) : KeepsStock s (s.whenRunning f) := by
  unfold State.whenRunning
  split
  · exact h
  · exact .refl s

theorem onLine_stock {f : State → State} (h : (f s).tanks = s.tanks) : KeepsStock s (s.onLine f) := by
  unfold State.onLine
  split
  · exact .refl s
  · exact keepsStock_of_tanks h

theorem onLane_stock {n : Nat} {act : Lane → State → Answer} (h : ∀ l, KeepsStock s (act l s).state) :
    KeepsStock s (onLane n act s).state := by
  unfold onLane
  split
  · exact h _
  · exact .refl s

theorem onTank_stock {n : Nat} {act : Tank → State → Answer} (h : ∀ k, KeepsStock s (act k s).state) :
    KeepsStock s (onTank n act s).state := by
  unfold onTank
  split
  · exact h _
  · exact .refl s

theorem onSource_stock {n : Nat} {act : SourceId → State → Answer} (h : ∀ i, KeepsStock s (act i s).state) :
    KeepsStock s (onSource n act s).state := by
  unfold onSource
  split
  · exact h _
  · exact .refl s

theorem onDelivery_stock {n : Nat} {act : DeliveryEntry → State → Answer} (h : ∀ e, KeepsStock s (act e s).state) :
    KeepsStock s (onDelivery n act s).state := by
  unfold onDelivery
  split
  · exact h _
  · exact .refl s

theorem readDeliveryAnswer_stock (n : Nat) (s : State) : KeepsStock s (readDeliveryAnswer n s).state := by
  unfold readDeliveryAnswer
  split
  · exact .refl s
  · exact onDelivery_stock fun _ => .refl s

end

/-! ## Every command, and the step -/

theorem execUnknownRequest_stock (f : Frame) (code : Byte) (payload : List Byte) (s : State) :
    ∃ t, execUnknownRequest f code payload s = .next t ∧ KeepsStock s t := by
  refine ⟨_, rfl, onLine_stock ?_⟩
  split
  · rfl
  · split <;> rfl

/-- Every command keeps the stock law. -/
theorem exec_stock (c : Instr) (s : State) : ∃ t, exec c s = .next t ∧ KeepsStock s t := by
  cases c with
  | powerOn straps => exact ⟨_, rfl, powerUp_stock straps (keepsStock_of_tanks rfl)⟩
  | resetAsserted cause =>
    cases cause with
    | pin => exact ⟨_, rfl, (hold_eases (eases_of_tanks rfl (.refl s))).keepsStock⟩
    | lowSupply => exact ⟨_, rfl, (hold_eases (eases_of_tanks rfl (.refl s))).keepsStock⟩
  | resetReleased straps => exact ⟨_, rfl, powerUp_stock straps (keepsStock_of_tanks rfl)⟩
  | powerLoss => exact ⟨_, rfl, (hold_eases (eases_of_tanks rfl (.refl s))).keepsStock⟩
  | restoreComplete a b =>
    refine ⟨_, rfl, ?_⟩
    split
    · exact (enterRunning_eases a b s).keepsStock
    · exact .refl s
  | quadratureEdge l a b => exact ⟨_, rfl, whenRunning_stock (decoderSample_eases l a b s).keepsStock⟩
  | illegalTransition l => exact ⟨_, rfl, whenRunning_stock (illegalPair_eases l _ _ s).keepsStock⟩
  | meterFault l => exact ⟨_, rfl, whenRunning_stock (meterFault_eases l s).keepsStock⟩
  | indexPulse l => exact ⟨_, rfl, whenRunning_stock (indexPulse_eases l s).keepsStock⟩
  | meterSample l => exact ⟨_, rfl, whenRunning_stock (meterSample_stock l s)⟩
  | hookSample l level => exact ⟨_, rfl, whenRunning_stock (hookSample_eases l level s).keepsStock⟩
  | pumpRdySample k level => exact ⟨_, rfl, whenRunning_stock (pumpRdySample_eases k level s).keepsStock⟩
  | pumpTimerExpiry k => exact ⟨_, rfl, whenRunning_stock (pumpExpiry_eases k s).keepsStock⟩
  | authorizationTimerExpiry l => exact ⟨_, rfl, whenRunning_stock (authorizationExpiry_eases l s).keepsStock⟩
  | noFlowTimerExpiry l => exact ⟨_, rfl, whenRunning_stock (noFlowExpiry_eases l s).keepsStock⟩
  | settlePeriodEnd l => exact ⟨_, rfl, whenRunning_stock (settleEnd_eases l s).keepsStock⟩
  | attentionPulseExpiry p => exact ⟨_, rfl, whenRunning_stock (keepsStock_of_tanks rfl)⟩
  | gaugeSample k reply => exact ⟨_, rfl, whenRunning_stock (gaugeSample_eases k _ s).keepsStock⟩
  | gaugeStale k => exact ⟨_, rfl, whenRunning_stock (gaugeStale_eases k s).keepsStock⟩
  | staleEnd k => exact ⟨_, rfl, whenRunning_stock (staleEnd_eases k s).keepsStock⟩
  | noGaugeTankTimer k => exact ⟨_, rfl, whenRunning_stock (noGaugeSample_eases k s).keepsStock⟩
  | discreteInputSample low c => exact ⟨_, rfl, whenRunning_stock (discreteSample_eases low c s).keepsStock⟩
  | sourceTrip src => exact ⟨_, rfl, whenRunning_stock (sourceTrip_eases src s).keepsStock⟩
  | captureSampleTimerExpiry => exact ⟨_, rfl, whenRunning_stock (keepsStock_of_tanks (captureSample_tanks s))⟩
  | announcementTimerExpiry n => exact ⟨_, rfl, whenRunning_stock (keepsStock_of_tanks (announcementExpiry_tanks n s))⟩
  | deliverySettleTimerExpiry n => exact ⟨_, rfl, whenRunning_stock (keepsStock_of_tanks rfl)⟩
  | orderDeadline n => exact ⟨_, rfl, whenRunning_stock (keepsStock_of_tanks (orderDeadline_tanks n s))⟩
  | frameRejected p bytes stopLow => exact ⟨_, rfl, onLine_stock rfl⟩
  | frameGapTimeout p => exact ⟨_, rfl, onLine_stock rfl⟩
  | overlappingFrame p => exact ⟨_, rfl, onLine_stock rfl⟩
  | shunningIdleEnd p => exact ⟨_, rfl, onLine_stock rfl⟩
  | replyComplete p => exact ⟨_, rfl, onLine_stock rfl⟩
  | unknownRequest f code payload => exact execUnknownRequest_stock f code payload s
  | readEvents f => exact ⟨_, rfl, serve_stock (keepsStock_of_tanks rfl)⟩
  | clearEvents f kinds => exact ⟨_, rfl, serve_stock (clearEventsAnswer_bay _ _ s).stock⟩
  | setAttention f mask mode width => exact ⟨_, rfl, serve_stock (setAttentionAnswer_bay _ _ _ _ s).stock⟩
  | readPort f => exact ⟨_, rfl, serve_stock (keepsStock_of_tanks rfl)⟩
  | readLane f lane => exact ⟨_, rfl, serve_stock (onLane_stock fun _ => keepsStock_of_tanks rfl)⟩
  | readStock f => exact ⟨_, rfl, serve_stock (.refl s)⟩
  | readTank f tank => exact ⟨_, rfl, serve_stock (onTank_stock fun _ => .refl s)⟩
  | readAccount f tag => exact ⟨_, rfl, serve_stock (readAccountAnswer_bay tag s).stock⟩
  | readAccounts f direction count => exact ⟨_, rfl, serve_stock (readAccountsAnswer_bay _ _ _ s).stock⟩
  | setCursor f slot => exact ⟨_, rfl, serve_stock (setCursorAnswer_bay _ _ s).stock⟩
  | listOrders f => exact ⟨_, rfl, serve_stock (.refl s)⟩
  | readDelivery f number => exact ⟨_, rfl, serve_stock (readDeliveryAnswer_stock _ s)⟩
  | readTrips f clear => exact ⟨_, rfl, serve_stock (readTripsAnswer_bay _ s).stock⟩
  | readTripsSource f index => exact ⟨_, rfl, serve_stock (onSource_stock fun _ => .refl s)⟩
  | readCapture f start => exact ⟨_, rfl, serve_stock (readCaptureAnswer_bay _ s).stock⟩
  | readCal f => exact ⟨_, rfl, serve_stock (.refl s)⟩
  | readRecordStatus f clear => exact ⟨_, rfl, serve_stock (keepsStock_of_tanks (recordStatusAnswer_tanks _ s))⟩
  | placeOrder f tag tank volume priority expiry => exact ⟨_, rfl, serve_stock (placeOrderAnswer_bay _ _ _ _ _ s).stock⟩
  | cancelOrder f number => exact ⟨_, rfl, serve_stock (cancelOrderAnswer_bay _ s).stock⟩
  | openLane f lane tag order preset hours override => exact ⟨_, rfl, serve_stock (openLaneAnswer_stock _ _ _ _ _ _ _ s)⟩
  | stopLane f lane => exact ⟨_, rfl, serve_stock (onLane_stock fun l => (stopAnswer_eases l s).keepsStock)⟩
  | enableLane f lane => exact ⟨_, rfl, serve_stock (onLane_stock fun _ => keepsStock_of_tanks rfl)⟩
  | disableLane f lane => exact ⟨_, rfl, serve_stock (onLane_stock fun _ => keepsStock_of_tanks rfl)⟩
  | setTankReserve f tank reserve => exact ⟨_, rfl, serve_stock (onTank_stock fun k => (setReserveAnswer_eases _ k s).keepsStock)⟩
  | adjustStock f tank book clear => exact ⟨_, rfl, serve_stock (onTank_stock fun k => adjustAnswer_stock _ _ k s)⟩
  | ackAlarms f tank => exact ⟨_, rfl, serve_stock (onTank_stock fun k => (ackAnswer_eases k s).keepsStock)⟩
  | ackAlarmsAll f => exact ⟨_, rfl, serve_stock (ackAllAnswer_eases s).keepsStock⟩
  | enrolMachine f tag cls permits capacity items => exact ⟨_, rfl, serve_stock (enrolAnswer_bay _ _ _ _ _ s).stock⟩
  | retireMachine f tag => exact ⟨_, rfl, serve_stock (retireAnswer_bay _ s).stock⟩
  | setMachine f tag cls state permits capacity items => exact ⟨_, rfl, serve_stock (setMachineAnswer_bay _ _ _ _ _ _ s).stock⟩
  | announceDelivery f tank identity docket => exact ⟨_, rfl, serve_stock (announceAnswer_bay _ _ _ s).stock⟩
  | confirmDelivery f number settle fixedTol propTol =>
    exact ⟨_, rfl, serve_stock (onDelivery_stock fun e => (confirmAnswer_eases _ _ _ e s).keepsStock)⟩
  | endDelivery f number => exact ⟨_, rfl, serve_stock (onDelivery_stock fun e => (endDeliveryAnswer_eases e s).keepsStock)⟩
  | withdrawDelivery f number => exact ⟨_, rfl, serve_stock (onDelivery_stock fun e => (withdrawAnswer_bay e s).stock)⟩
  | releaseDelivery f number => exact ⟨_, rfl, serve_stock (onDelivery_stock fun e => (releaseDeliveryAnswer_bay e s).stock)⟩
  | collectRecords f count => exact ⟨_, rfl, serve_stock (collectAnswer_bay _ s).stock⟩
  | releaseRecords f number => exact ⟨_, rfl, serve_stock (keepsStock_of_tanks (releaseAnswer_tanks _ s))⟩
  | rearm f index => exact ⟨_, rfl, serve_stock (onSource_stock fun i => keepsStock_of_tanks (rearmAnswer_tanks i s))⟩
  | rearmAll f => exact ⟨_, rfl, serve_stock (keepsStock_of_tanks rfl)⟩
  | manualTrip f => exact ⟨_, rfl, serve_stock (riseSource_eases _ (.refl s)).keepsStock⟩
  | releaseTrips f number => exact ⟨_, rfl, serve_stock (releaseTripsAnswer_bay _ s).stock⟩
  | releaseCapture f => exact ⟨_, rfl, serve_stock (releaseCaptureAnswer_bay s).stock⟩
  | setLane f lane v => exact ⟨_, rfl, serve_stock (onLane_stock fun l => (setLaneAnswer_eases v l s).keepsStock)⟩
  | setTank f tank v => exact ⟨_, rfl, serve_stock (onTank_stock fun k => (setTankAnswer_eases v k s).keepsStock)⟩
  | setSource f index v => exact ⟨_, rfl, serve_stock (onSource_stock fun i => (setSourceAnswer_eases v i s).keepsStock)⟩
  | setSourceUnit f count => exact ⟨_, rfl, serve_stock (setUnitAnswer_bay _ s).stock⟩
  | setClass f cls hours ceiling => exact ⟨_, rfl, serve_stock (setClassAnswer_bay _ _ _ s).stock⟩
  | setRecordPolicy f policy threshold => exact ⟨_, rfl, serve_stock (keepsStock_of_tanks (setPolicyAnswer_tanks _ _ s))⟩
  | setClock f value => exact ⟨_, rfl, serve_stock (setClockAnswer_bay _ s).stock⟩
  | setAccess f v => exact ⟨_, rfl, serve_stock (setAccessAnswer_bay v s).stock⟩
  | bayRestart f straps => exact ⟨_, rfl, serve_stock (bayRestartAnswer_stock _ _ s)⟩
  | setMeter f lane v => exact ⟨_, rfl, serve_stock (onLane_stock fun l => (setMeterAnswer_eases v l s).keepsStock)⟩
  | setProduct f tank alpha => exact ⟨_, rfl, serve_stock (onTank_stock fun k => (setProductAnswer_eases alpha k s).keepsStock)⟩
  | setStrapping f tank points =>
    exact ⟨_, rfl, serve_stock (onTank_stock fun k => (setStrappingAnswer_eases points k s).keepsStock)⟩
  | lockCal f code => exact ⟨_, rfl, serve_stock (lockAnswer_bay _ s).stock⟩
  | unlockCal f code => exact ⟨_, rfl, serve_stock (unlockAnswer_bay _ s).stock⟩
  | wholeSecond => exact ⟨_, rfl, (wholeSecond_eases s).keepsStock⟩

/-- A step keeps the stock law: it idles, or runs the command at the front of the queue, which the law does not speak of. -/
theorem step_stock {s t : State} (h : step s = .next t) : KeepsStock s t := by
  unfold step at h
  split at h
  · cases h; exact .refl s
  · rename_i c rest _
    obtain ⟨u, hu, hk⟩ := exec_stock c { s with pending := rest }
    rw [hu] at h
    cases h
    exact (keepsStock_of_tanks rfl : KeepsStock s { s with pending := rest }).trans hk

/-- Settles O56: every command extends the relation KeepsStock, by easing the tanks, by a trim, or by an admission that fits. -/
theorem everyStepKeepsStockLaw : Obligations.EveryStepKeepsStockLaw := fun _ _ => step_stock

end Sys2Proof.Machine
end

section
/-! SET_TANK_RESERVE: the reserve clamped to the capacity, and the stock an admission sees then (R54, R56). -/

namespace Sys2Proof.Machine

/-- SET_TANK_RESERVE with a value in range stores the lesser of the value and the capacity (R56). -/
theorem setReserveAnswer_inRange {reserve : Nat} (h : reserve ≤ 2000000000) (k : Tank) (s : State) :
    setReserveAnswer reserve k s =
      { state := s.setTank k { s.tank k with reserve := min reserve (s.tank k).cfg.capacity }
        status := if (s.tank k).cfg.capacity < reserve then .clamped else .ok
        payload := .reserve (min reserve (s.tank k).cfg.capacity) } :=
  if_neg (Nat.not_lt.2 h)

theorem setTankReserve_exec {s : State} {f : Frame} {k : Tank} {reserve : Nat}
    (h : s.takes f (.setTankReserve f k.val reserve) = true) (hr : reserve ≤ 2000000000) :
    exec (.setTankReserve f k.val reserve) s =
      .next ((s.setTank k { s.tank k with reserve := min reserve (s.tank k).cfg.capacity }).reply f 0x30#8
        (if (s.tank k).cfg.capacity < reserve then .clamped else .ok) (.reserve (min reserve (s.tank k).cfg.capacity))) :=
  (congrArg Host.Outcome.next (serve_onTank h rfl)).trans (by rw [setReserveAnswer_inRange hr])

/-- Settles O42: the request stores the clamped reserve in its tank and replies; the stock for a normal admission is what the
reserve leaves, and that for a priority admission does not see it. -/
theorem reserveIsClampedToCapacity : Obligations.ReserveIsClampedToCapacity := by
  intro s f k reserve h hr
  have htank := State.tank_setTank_same s k { s.tank k with reserve := min reserve (s.tank k).cfg.capacity }
  exact ⟨_, setTankReserve_exec h hr, fun j hj => State.tank_setTank_ne _ _ _ _ hj, (reply_ports (by rfl) f _ _ _).1, rfl, htank,
    reply_answers _ _ _ _ _, congrArg (·.available false) htank, congrArg (·.available true) htank⟩

end Sys2Proof.Machine
end

section
/-! The reads that change nothing but the reply of the requesting port (R76, R77, R91, R110, R122, R138, R159, R160, R168). -/

namespace Sys2Proof.Machine

section

variable {s : State} {f : Frame}

/-- A request whose answer keeps the state changes only the reply of its port. -/
theorem serve_reads {cmd : Instr} {code : Byte} {a : Access} {act : State → Answer} {p : Payload} (h : s.takes f cmd = true)
    (ha : accessPasses s f.port a = s.permits f.port cmd) (hx : act s = .ok s p) :
    s.onlyAnswers (serve f code a act s) f code .ok p := by
  rw [serve_of_takes h ha, hx]
  exact reply_onlyAnswers _ _ _ _ _

theorem tankSummary_tells (s : State) (k : Tank) : (s.tankSummary k).tells s k := rfl

theorem discharging_eq_false {k : Tank} :
    s.discharging k = false ↔ ∀ e ∈ s.deliveries.entries, e.tank = k → e.state.discharging = false := by
  simp [State.discharging]

/-- When a loss watch is reported as running (R77; log 12). -/
theorem watching_iff {k : Tank} :
    s.watching k = true ↔
      (s.tank k).cfg.gaugeFitted = true ∧ (s.tank k).gaugeValid = true ∧ (s.tank k).cfg.lossLimit ≠ 0 ∧
      (∀ e ∈ s.deliveries.entries, e.tank = k → e.state.discharging = false) ∧ (s.tank k).window.isSome = true := by
  simp only [State.watching, TankUnit.watchRuns, Bool.and_eq_true, Bool.not_eq_true', decide_eq_true_eq, discharging_eq_false,
    and_assoc]

theorem mem_lanesFilling {tag : Tag} {l : Lane} :
    l ∈ s.lanesFilling tag ↔ (s.lane l).state.isOpen = true ∧ ∃ c, (s.lane l).ctx = some c ∧ c.tag = tag := by
  simp [State.lanesFilling, LaneUnit.fills, mem_allEight, Option.any_eq_true]

/-- What is left of an order's expiry (R122). -/
theorem orderReport_eq (s : State) (o : Order) :
    s.orderReport o =
      { order := o, slot := (findAccount s.accounts.slots o.tag).map (fun e => e.1)
        timeLeft := if o.expiry = 0 then none else some (o.placedAt + o.expiry - s.time.uptime) } := by
  unfold State.orderReport Order.deadline
  split <;> rfl

theorem onDelivery_of_find {n : Nat} {e : DeliveryEntry} (h : findDelivery s.deliveries.entries n = some e)
    (act : DeliveryEntry → State → Answer) : onDelivery n act s = act e s := by
  unfold onDelivery
  rw [h]

theorem onSource_of {n : Nat} {i : SourceId} (h : sourceOf n = some i) (act : SourceId → State → Answer) :
    onSource n act s = act i s := by
  unfold onSource
  rw [h]

theorem usesDebounce_iff (i : SourceId) : usesDebounce i = true ↔ i ≠ .manual := by
  cases i <;> simp [usesDebounce]

theorem usesHoseLimit_iff (i : SourceId) : usesHoseLimit i = true ↔ ∃ l, i = .hose l := by
  cases i <;> simp [usesHoseLimit]

theorem samplesFrom_length (n : Nat) (c : Capture) : (c.samplesFrom n).length ≤ 4 := by
  cases c with
  | empty => exact Nat.zero_le _
  | filling c => exact List.length_take_le _ _
  | full c => exact List.length_take_le _ _

theorem samplesFrom_data {b : Capture} {c : CaptureData} (h : b = .filling c ∨ b = .full c) (n : Nat) :
    b.samplesFrom n = (c.samples.drop n).take 4 := by
  rcases h with rfl | rfl <;> rfl

end

/-- Settles O35: each read is a served request whose answer keeps the state; what it tells is the lemma above of its reply. -/
theorem plainReadsChangeNothing : Obligations.PlainReadsChangeNothing := by
  intro s f
  refine ⟨fun h => ?_, fun k h => ?_, fun tag i a h ha => ?_, fun h => ?_, fun h => ?_, fun n e hn he h => ?_, fun n i hi h => ?_,
    fun n hn h => ?_, fun h => ?_, fun n hlo hhi h => ?_⟩
  case refine_1 =>
    exact ⟨_, _, rfl, serve_reads h rfl rfl, fun k => by rw [Eight.get_ofFn]; exact tankSummary_tells s k⟩
  case refine_2 =>
    exact ⟨_, s.tankReport k, rfl, serve_reads h rfl (onTank_val _ _ _), tankSummary_tells s k, rfl, watching_iff⟩
  case refine_3 =>
    exact ⟨_, _, rfl, serve_reads h rfl (by unfold readAccountAnswer; rw [ha]), fun l => mem_lanesFilling⟩
  case refine_4 =>
    simp only [← orderReport_eq]
    exact ⟨_, rfl, serve_reads h rfl rfl⟩
  case refine_5 => exact ⟨_, rfl, serve_reads h rfl rfl⟩
  case refine_6 =>
    exact ⟨_, rfl, serve_reads h rfl ((if_neg hn).trans (onDelivery_of_find he _))⟩
  case refine_7 =>
    refine ⟨_, rfl, serve_reads h rfl ((onSource_of hi _).trans ?_)⟩
    simp only [Source.report, usesDebounce_iff, usesHoseLimit_iff, ne_eq, ite_not]
  case refine_8 =>
    exact ⟨_, _, rfl, serve_reads h rfl (if_pos hn), samplesFrom_length _ _, fun he => by rw [he]; rfl,
      fun c hc => samplesFrom_data hc n⟩
  case refine_9 =>
    refine ⟨_, s.calReport, rfl, serve_reads h rfl rfl, rfl, rfl, fun hl => ?_, fun c hl => ?_, fun hl => ?_, ?_, fun l => ?_,
      fun k => ?_⟩
    · simp [State.calReport, LockState.kind, hl]
    · simp [State.calReport, LockState.kind, hl]
    · simp [State.calReport, LockState.kind, hl]
    · exact decide_eq_true_iff
    · exact Eight.get_map _ _ _
    · exact Eight.get_map _ _ _
  case refine_10 =>
    refine ⟨_, rfl, serve_reads h rfl (if_pos ?_)⟩
    simp [within, hlo, hhi]

end Sys2Proof.Machine
end

section
/-! What a gauge sample of a tank leaves: the meters, the other tanks, the clock, the bus once polled, and the delivery entries that are
neither FILLING nor waiting for the sample (R57, R58, R86, R87, R147, R151). -/

namespace Sys2Proof.Machine

/-- What a part of a sample of tank k leaves of s: the lanes but for their transactions, the other tanks but for their draws, pumps and
inlets, the kinds posted, the clock, the bus, and each delivery entry that neither fills nor waits. -/
structure LeftBySample (k : Tank) (s t : State) : Prop where
  lane : ∀ l, (t.lane l).still = (s.lane l).still
  tank : ∀ j, j ≠ k → (t.tank j).still = (s.tank j).still
  kinds : ∀ i x, holdsKind (s.port i).pendingSet x = true → holdsKind (t.port i).pendingSet x = true
  time : t.time = s.time
  bus : t.bus = s.bus
  numbers : t.deliveries.entries.map (fun e => e.number) = s.deliveries.entries.map (fun e => e.number)
  entry : ∀ e ∈ s.deliveries.entries, e.state ≠ .filling → e.waits k = false → e ∈ t.deliveries.entries

section

variable {s t u : State} {k : Tank}

theorem LeftBySample.trans (h : LeftBySample k s t) (g : LeftBySample k t u) : LeftBySample k s u where
  lane l := (g.lane l).trans (h.lane l)
  tank j hj := (g.tank j hj).trans (h.tank j hj)
  kinds i x := g.kinds i x ∘ h.kinds i x
  time := g.time.trans h.time
  bus := g.bus.trans h.bus
  numbers := g.numbers.trans h.numbers
  entry e he hf hw := g.entry e (h.entry e he hf hw) hf hw

/-- A change within the figures' relation that leaves the clock, the bus and every entry. -/
theorem leftBySample_of_figures (h : KeepsFigures s t) (htime : t.time = s.time) (hbus : t.bus = s.bus)
    (hentries : t.deliveries.entries = s.deliveries.entries) : LeftBySample k s t where
  lane := h.lane
  tank j _ := h.tank j
  kinds := h.kinds
  time := htime
  bus := hbus
  numbers := by rw [hentries]
  entry e he _ _ := by rwa [hentries]

theorem setTank_left (v : TankUnit) : LeftBySample k s (s.setTank k v) where
  lane _ := rfl
  tank j hj := by rw [State.tank_setTank_ne _ _ _ _ hj]
  kinds _ _ := id
  time := rfl
  bus := rfl
  numbers := rfl
  entry _ he _ _ := he

/-- A change of the entries that wait, their numbers kept. -/
theorem mapDeliveries_left {f : DeliveryEntry → DeliveryEntry} (hf : ∀ e, (f e).number = e.number) :
    LeftBySample k s (mapDeliveries (DeliveryEntry.waits k) f s) where
  lane _ := rfl
  tank _ _ := rfl
  kinds _ _ := id
  time := rfl
  bus := rfl
  numbers := by
    rw [mapDeliveries, List.map_map]
    exact List.map_congr_left fun e _ => by simp only [Function.comp_apply]; split <;> simp [hf]
  entry e he _ hw := List.mem_map.2 ⟨e, he, by simp [hw]⟩

theorem post_left (x : EventKind) : LeftBySample k s (post x s) :=
  leftBySample_of_figures (post_figures x (.refl s)) (post_time _ _) (post_bus _ _) (by rw [post_deliveries])

theorem postIf_left (c : Bool) (x : EventKind) : LeftBySample k s (postIf c x s) :=
  leftBySample_of_figures (postIf_figures c x (.refl s)) (postIf_time _ _ _) (postIf_bus _ _ _) (by rw [postIf_deliveries])

/-! ## Trips of sources (R86, R147) -/

theorem interruptedAt_number (ts : Tank → Bool) (stamp : Nat × Bool) (e : DeliveryEntry) :
    (e.interruptedAt ts stamp).number = e.number := by
  unfold DeliveryEntry.interruptedAt
  split <;> rfl

theorem interruptedAt_of_not_filling (ts : Tank → Bool) (stamp : Nat × Bool) {e : DeliveryEntry} (h : e.state ≠ .filling) :
    e.interruptedAt ts stamp = e := if_neg fun hc => h hc.2

theorem tripSource_left (i : SourceId) : LeftBySample k s (tripSource i s) where
  lane := (tripSource_figures i (.refl s)).lane
  tank j _ := (tripSource_figures i (.refl s)).tank j
  kinds := (tripSource_figures i (.refl s)).kinds
  time := tripSource_time _ _
  bus := tripSource_bus _ _
  numbers := by
    rw [tripSource_deliveries, List.map_map]
    exact List.map_congr_left fun e _ => interruptedAt_number _ _ e
  entry e he hf _ := by
    rw [tripSource_deliveries]
    exact List.mem_map.2 ⟨e, he, interruptedAt_of_not_filling _ _ hf⟩

theorem setSource_left (i : SourceId) (x : Source) : LeftBySample k s (s.setSource i x) :=
  leftBySample_of_figures (setSource_figures i x (.refl s)) rfl rfl rfl

theorem riseSource_left (i : SourceId) : LeftBySample k s (riseSource i s) := by
  unfold riseSource
  dsimp only
  split
  · exact setSource_left _ _
  · exact tripSource_left i

theorem sampleSource_left (i : SourceId) (c : Bool) : LeftBySample k s (sampleSource i c s) := by
  unfold sampleSource
  dsimp only
  split
  · exact (setSource_left _ _).trans (riseSource_left i)
  · exact setSource_left _ _

theorem tankSources_left : LeftBySample k s (tankSources k s) := (sampleSource_left _ _).trans (sampleSource_left _ _)

/-! ## The zones of the sample (R70 to R73) -/

theorem zoned_left (level : Nat) : LeftBySample k s (s.zoned k level) := (setTank_left _).trans ((setTank_left _).trans (postIf_left _ _))

theorem enterLowLow_left : LeftBySample k s (enterLowLow k s) :=
  (leftBySample_of_figures (endLanes_figures (s.lanesOf k) .tankLow (.refl s)) (endLanes_time _ _ _) (endLanes_bus _ _ _)
    (by rw [endLanes_deliveries])).trans (setTank_left _)

theorem zoneSample_left (level : Nat) : LeftBySample k s (zoneSample k level s) := by
  rw [zoneSample_eq]
  split
  · exact (zoned_left level).trans enterLowLow_left
  · exact zoned_left level

theorem zoneSample_deliveries (k : Tank) (level : Nat) (s : State) : (zoneSample k level s).deliveries = s.deliveries := by
  have hz : (s.zoned k level).deliveries = s.deliveries := by rw [zoned_eq]
  rw [zoneSample_eq]
  split
  · rw [enterLowLow, State.setTank_deliveries, endLanes_deliveries, hz]
  · exact hz

/-! ## The waiting delivery (R87, R88) -/

/-- What a reconciliation says of an entry with its confirmation (R88). -/
theorem reconcile_tells {e d : DeliveryEntry} {c : Confirmation} {closing book : Nat} {above : Bool} {stamp : Nat × Bool}
    (hd : d = e.reconcile closing above book stamp) (h : e.conf = some c) :
    d.tank = e.tank ∧
      d.state = outcomeOf (receivedOf c closing) (holdVolume (receivedOf c closing - e.docket)) (toleranceOf c e.docket) ∧
      d.completeTime = some stamp.1 ∧ d.closing = some closing ∧ d.received = some (receivedOf c closing) ∧
      d.variance = some (holdVolume (receivedOf c closing - e.docket)) ∧
      d.flags.negative = (e.flags.negative || decide (receivedOf c closing < 0)) := by
  subst hd
  unfold DeliveryEntry.reconcile
  rw [h]
  exact ⟨rfl, rfl, rfl, rfl, rfl, rfl, rfl⟩

theorem reconcile_number (e : DeliveryEntry) (closing : Nat) (above : Bool) (book : Nat) (stamp : Nat × Bool) :
    (e.reconcile closing above book stamp).number = e.number := by
  unfold DeliveryEntry.reconcile
  split <;> rfl

theorem closingGauge_left : LeftBySample k s (closingGauge k s) := by
  have hrefl : LeftBySample k s s := leftBySample_of_figures (.refl s) rfl rfl rfl
  unfold closingGauge
  split
  · split
    · exact hrefl
    · exact (mapDeliveries_left fun e => reconcile_number e _ _ _ _).trans ((setTank_left _).trans (post_left _))
  · exact hrefl

theorem waitOn_number (stamp : Nat × Bool) (e : DeliveryEntry) : (e.waitOn stamp).number = e.number := by
  unfold DeliveryEntry.waitOn
  dsimp only
  split <;> rfl

theorem missedGauge_left : LeftBySample k s (missedGauge k s) :=
  (mapDeliveries_left (waitOn_number _)).trans (postIf_left _ _)

/-! ## The whole sample -/

theorem gaugeHanded_left (valid : Bool) : LeftBySample k s (gaugeHanded k valid s) :=
  (setTank_left _).trans (tankSources_left.trans (setTank_left _))

/-- A gauge sample polls the bus; the rest it leaves as above. -/
theorem gaugeEvent_left (r : Option GaugeReading) : LeftBySample k { s with bus := .polled k } (gaugeEvent k r s) := by
  rw [gaugeEvent_eq]
  refine .trans ?_ (gaugeHanded_left _)
  have h : LeftBySample k { s with bus := .polled k } { s.setTank k ((s.tank k).takeReading r).computeNet with bus := .polled k } :=
    setTank_left (s := { s with bus := .polled k }) _
  cases r with
  | some g => exact h.trans ((zoneSample_left _).trans closingGauge_left)
  | none => exact h.trans missedGauge_left

end

end Sys2Proof.Machine
end

section
/-! The figures of the sampled tank: what the reading gives it, what the zones leave of it, and the loss test with the age of its window
(R57 to R60, R70 to R75). -/

namespace Sys2Proof.Machine

/-! ## The loss test of a sample (R72, R74, R75) -/

/-- A tank after the loss test of a sample, the conditions handed and the window's age seen to. -/
def TankUnit.lossSampled (k : TankUnit) (valid discharging : Bool) (uptime : Nat) : TankUnit :=
  (k.testLoss valid discharging uptime).hand.ageWindow valid uptime

/-- The figures of a tank that its gauge and its book hold. -/
def TankUnit.gaugeView (k : TankUnit) : Option Nat × Option Int × Nat × Bool × Int × Option Nat × Nat :=
  (k.level, k.t10, k.invalid, k.gaugeValid, k.drawnSince, k.gaugedNet, k.book)

/-- The part of a tank that the loss watch keeps. -/
def TankUnit.lossView (k : TankUnit) : Option LossWindow × Bool × Bool := (k.window, k.lossHanded, k.lossCond)

section

variable {u v : TankUnit} {uptime : Nat}

theorem gaugeView_of_still (h : v.still = u.still) : v.gaugeView = u.gaugeView :=
  show v.still.gaugeView = u.still.gaugeView from congrArg TankUnit.gaugeView h

theorem lossView_of_still (h : v.still = u.still) : v.lossView = u.lossView :=
  show v.still.lossView = u.still.lossView from congrArg TankUnit.lossView h

theorem restartWindow_gaugeView (u : TankUnit) (uptime : Nat) : (u.restartWindow uptime).gaugeView = u.gaugeView := by
  unfold TankUnit.restartWindow
  split <;> rfl

theorem testLoss_gaugeView (u : TankUnit) (valid d : Bool) (uptime : Nat) :
    (u.testLoss valid d uptime).gaugeView = u.gaugeView := by
  unfold TankUnit.testLoss
  split
  · rfl
  · split
    · rfl
    · split
      · rfl
      · exact restartWindow_gaugeView u uptime
      · rfl

theorem ageWindow_gaugeView (u : TankUnit) (valid : Bool) (uptime : Nat) : (u.ageWindow valid uptime).gaugeView = u.gaugeView := by
  unfold TankUnit.ageWindow
  split
  · rfl
  · split
    · exact restartWindow_gaugeView u uptime
    · rfl

theorem lossSampled_gaugeView (u : TankUnit) (valid d : Bool) (uptime : Nat) :
    (u.lossSampled valid d uptime).gaugeView = u.gaugeView :=
  (ageWindow_gaugeView _ _ _).trans (testLoss_gaugeView u valid d uptime)

theorem restartWindow_lossView {net : Nat} (h : u.gaugedNet = some net) :
    (u.restartWindow uptime).lossView = (some { start := uptime, g0 := net, b0 := u.book }, u.lossHanded, false) := by
  unfold TankUnit.restartWindow
  rw [h]
  rfl

theorem ageWindow_of_none {valid : Bool} (h : u.window = none) : u.ageWindow valid uptime = u := by
  unfold TankUnit.ageWindow
  rw [h]

/-- A window as old as its length restarts at a valid sample with the condition absent; a younger one stays (R74, R75). -/
theorem ageWindow_lossView {net : Nat} {w : LossWindow} (hw : u.window = some w) (hn : u.gaugedNet = some net) :
    (u.ageWindow true uptime).lossView =
      if w.start + u.cfg.lossWindow ≤ uptime then (some { start := uptime, g0 := net, b0 := u.book }, u.lossHanded, false)
      else (some w, u.lossHanded, u.lossCond) := by
  unfold TankUnit.ageWindow
  rw [hw]
  simp only [true_and]
  split
  · exact restartWindow_lossView hn
  · rw [TankUnit.lossView, hw]

/-- A watch whose conditions fail has no window (R74). -/
theorem lossSampled_unwatched {valid d : Bool} (h : u.watchRuns d = false) : (u.lossSampled valid d uptime).window = none := by
  have ht : u.testLoss valid d uptime = { u with window := none } := by simp [TankUnit.testLoss, h]
  rw [TankUnit.lossSampled, ht, ageWindow_of_none rfl]
  rfl

/-- A watch that begins at a valid sample opens its window with the condition absent (R74). -/
theorem lossSampled_begins {d : Bool} {net : Nat} (h : u.watchRuns d = true) (hw : u.window = none) (hn : u.gaugedNet = some net) :
    (u.lossSampled true d uptime).lossView = (some { start := uptime, g0 := net, b0 := u.book }, false, false) := by
  have ht : u.testLoss true d uptime =
      { u with window := some { start := uptime, g0 := net, b0 := u.book }, lossCond := false, lastLoss := some 0 } := by
    simp [TankUnit.testLoss, TankUnit.restartWindow, h, hw, hn]
  rw [TankUnit.lossSampled, ht]
  refine (ageWindow_lossView (w := { start := uptime, g0 := net, b0 := u.book }) (net := net) ?_ ?_).trans ?_
  · rfl
  · exact hn
  · split <;> rfl

/-- A watch with a window hands the loss tested; a window as old as its length restarts with the condition absent (R74, R75). -/
theorem lossSampled_tests {d : Bool} {net : Nat} {w : LossWindow} (h : u.watchRuns d = true) (hw : u.window = some w)
    (hn : u.gaugedNet = some net) :
    (u.lossSampled true d uptime).lossView =
      if w.start + u.cfg.lossWindow ≤ uptime then
        (some { start := uptime, g0 := net, b0 := u.book }, decide ((u.cfg.lossLimit : Int) < lossOf w net u.book), false)
      else
        (some w, decide ((u.cfg.lossLimit : Int) < lossOf w net u.book), decide ((u.cfg.lossLimit : Int) < lossOf w net u.book)) := by
  have ht : u.testLoss true d uptime =
      { u with lossCond := decide ((u.cfg.lossLimit : Int) < lossOf w net u.book), lastLoss := some (lossOf w net u.book) } := by
    simp [TankUnit.testLoss, h, hw, hn]
  rw [TankUnit.lossSampled, ht]
  exact ageWindow_lossView hw hn

end

section

variable {s : State} {k : Tank}

/-- The age of the window is seen to on the parts that a trip does not reach. -/
theorem ageWindow_still {u v : TankUnit} (h : v.still = u.still) (valid : Bool) (uptime : Nat) :
    (v.ageWindow valid uptime).still = (u.ageWindow valid uptime).still := by
  have hs : ∀ x : TankUnit, (x.ageWindow valid uptime).still = x.still.ageWindow valid uptime := fun x => by
    unfold TankUnit.ageWindow TankUnit.restartWindow TankUnit.still
    dsimp only
    split
    · rfl
    · split
      · split <;> rfl
      · rfl
  rw [hs, hs, h]

/-- The end of a sample tests the loss of its tank; the trips of its sources reach only the draws, the pump and the inlet. -/
theorem gaugeHanded_still (k : Tank) (valid : Bool) (s : State) :
    ((gaugeHanded k valid s).tank k).still = ((s.tank k).lossSampled valid (s.discharging k) s.time.uptime).still := by
  have ht : ((tankSources k (testAndHand k valid s)).tank k).still =
      ((s.tank k).testLoss valid (s.discharging k) s.time.uptime).hand.still := by
    have h := (sampleSource_figures (.loss k) ((testAndHand k valid s).tank k).lossHanded
      (sampleSource_figures (.overfill k) ((testAndHand k valid s).tank k).overfillHanded (.refl (testAndHand k valid s)))).tank k
    exact h.trans (by rw [testAndHand, State.tank_setTank_same])
  have htime : (tankSources k (testAndHand k valid s)).time = s.time := (tankSources_left (k := k)).time
  rw [gaugeHanded, State.tank_setTank_same, htime]
  exact ageWindow_still ht _ _

/-! ## The reading and the zones (R58 to R60, R70 to R73) -/

/-- The tank with a valid reading taken and its gauged net computed (R58 to R60). -/
def TankUnit.read (k : TankUnit) (g : GaugeReading) : TankUnit :=
  { k with
    level := some g.level, t10 := some g.t10, invalid := 0, gaugeValid := true, drawnSince := 0
    gaugedNet := some (gaugedNetOf k.points k.alpha g.level g.t10), overTable := aboveTable k.points g.level }

theorem gauged_tank_eq (s : State) (k : Tank) (g : GaugeReading) : (s.gauged k g).tank k = (s.tank k).read g :=
  State.tank_setTank_same s _ _

/-- A tank but for its zones and alarms and for what the ends of its lanes reach. -/
def TankUnit.unzoned (k : TankUnit) : TankUnit :=
  { k.still with runs := ⟨0, 0, 0, 0⟩, rawZone := .normal, zone := .normal, alarms := ⟨false, false, false, false⟩ }

theorem unzoned_of_still {u v : TankUnit} (h : v.still = u.still) : v.unzoned = u.unzoned := by
  unfold TankUnit.unzoned
  rw [h]

theorem latched_unzoned (u : TankUnit) (level : Nat) : ((u.updateZone level).latch u.zone).unzoned = u.unzoned := by
  unfold TankUnit.latch
  split <;> rfl

theorem zoneSample_unzoned (k : Tank) (level : Nat) (s : State) : ((zoneSample k level s).tank k).unzoned = (s.tank k).unzoned := by
  have hz : ((s.zoned k level).tank k).unzoned = (s.tank k).unzoned := by rw [zoned_tank]; exact latched_unzoned _ _
  rw [zoneSample_eq]
  split
  · refine Eq.trans ?_ hz
    rw [enterLowLow, State.tank_setTank_same]
    exact unzoned_of_still ((endLanes_figures _ .tankLow (.refl (s.zoned k level))).tank k)
  · exact hz

/-- The state of a valid sample once its zones are decided (R57 to R73). -/
def State.zonedSample (s : State) (k : Tank) (g : GaugeReading) : State := zoneSample k g.level (s.gauged k g)

theorem zonedSample_tank (s : State) (k : Tank) (g : GaugeReading) :
    ((s.zonedSample k g).tank k).unzoned = ((s.tank k).read g).unzoned :=
  (zoneSample_unzoned _ _ _).trans (by rw [gauged_tank_eq])

theorem zonedSample_deliveries (s : State) (k : Tank) (g : GaugeReading) : (s.zonedSample k g).deliveries = s.deliveries :=
  zoneSample_deliveries _ _ _

theorem zonedSample_time (s : State) (k : Tank) (g : GaugeReading) : (s.zonedSample k g).time = s.time :=
  (zoneSample_left (k := k) g.level).time

/-! ## The closing gauge (R87, R88) -/

/-- The closing gauge moves no figure of its tank but the book. -/
theorem closingGauge_tank_eq (k : Tank) (s : State) :
    (closingGauge k s).tank k = { s.tank k with book := ((closingGauge k s).tank k).book } := by
  unfold closingGauge
  split
  · split
    · rfl
    · rw [post_tank, State.tank_setTank_same]
  · rfl

theorem closingGauge_of_none_waits (h : ∀ e ∈ s.deliveries.entries, e.waits k = false) : closingGauge k s = s := by
  have hf : s.deliveries.entries.find? (DeliveryEntry.waits k) = none := List.find?_eq_none.2 fun e he => by simp [h e he]
  unfold closingGauge
  rw [hf]

theorem waits_iff {e : DeliveryEntry} : e.waits k = true ↔ e.tank = k ∧ e.state = .settling ∧ e.waited.isSome = true := by
  simp [DeliveryEntry.waits, and_assoc]

theorem discharging_of_waits {e : DeliveryEntry} (h : e.waits k = true) : e.tank = k ∧ e.state.discharging = true := by
  obtain ⟨ht, hs, -⟩ := waits_iff.1 h
  exact ⟨ht, by rw [hs]; rfl⟩

/-- A tank with no discharge in progress has no entry that waits. -/
theorem closingGauge_of_not_discharging (h : s.discharging k = false) : closingGauge k s = s :=
  closingGauge_of_none_waits fun e he => by
    by_contra hw
    obtain ⟨ht, hd⟩ := discharging_of_waits (Bool.not_eq_false _ ▸ hw)
    rw [discharging_eq_false.1 h e he ht] at hd
    cases hd

/-! ## The sampled tank after the whole sample -/

/-- The state of a valid sample when its loss test begins. -/
def State.closedSample (s : State) (k : Tank) (g : GaugeReading) : State := closingGauge k (s.zonedSample k g)

theorem gaugeEvent_closed (s : State) (k : Tank) (g : GaugeReading) :
    gaugeEvent k (some g) s = gaugeHanded k true (s.closedSample k g) := gaugeEvent_valid _ _ _

theorem closedSample_time (s : State) (k : Tank) (g : GaugeReading) : (s.closedSample k g).time = s.time :=
  (closingGauge_left (k := k)).time.trans (zonedSample_time s k g)

theorem gaugeEvent_still (s : State) (k : Tank) (g : GaugeReading) :
    ((gaugeEvent k (some g) s).tank k).still =
      (((s.closedSample k g).tank k).lossSampled true ((s.closedSample k g).discharging k) s.time.uptime).still := by
  rw [gaugeEvent_closed, gaugeHanded_still, closedSample_time]

/-- The tank at the loss test of a valid sample: what was read, the configuration and window it had, and the book of the closing
gauge. -/
theorem closedSample_tank (s : State) (k : Tank) (g : GaugeReading) :
    ((s.closedSample k g).tank k).unzoned =
      ({ (s.tank k).read g with book := ((s.closedSample k g).tank k).book } : TankUnit).unzoned := by
  have h := congrArg (fun u : TankUnit => { u with book := ((s.closedSample k g).tank k).book }) (zonedSample_tank s k g)
  exact (congrArg TankUnit.unzoned (closingGauge_tank_eq k (s.zonedSample k g))).trans h

/-- The figures that a valid sample leaves at its tank (R58 to R60, R83). -/
theorem gaugeEvent_gaugeView (s : State) (k : Tank) (g : GaugeReading) :
    ((gaugeEvent k (some g) s).tank k).gaugeView =
      (some g.level, some g.t10, 0, true, 0, some (gaugedNetOf (s.tank k).points (s.tank k).alpha g.level g.t10),
        ((s.closedSample k g).tank k).book) := by
  rw [gaugeView_of_still (gaugeEvent_still s k g), lossSampled_gaugeView]
  exact congrArg TankUnit.gaugeView (closedSample_tank s k g)

theorem closedSample_watch (s : State) (k : Tank) (g : GaugeReading) :
    ((s.closedSample k g).tank k).window = (s.tank k).window ∧ ((s.closedSample k g).tank k).cfg = (s.tank k).cfg ∧
      ((s.closedSample k g).tank k).gaugedNet = some (gaugedNetOf (s.tank k).points (s.tank k).alpha g.level g.t10) := by
  have h := closedSample_tank s k g
  exact ⟨(congrArg TankUnit.window h :), (congrArg TankUnit.cfg h :), (congrArg TankUnit.gaugedNet h :)⟩

theorem gaugeEvent_lossView (s : State) (k : Tank) (g : GaugeReading) :
    ((gaugeEvent k (some g) s).tank k).lossView =
      (((s.closedSample k g).tank k).lossSampled true ((s.closedSample k g).discharging k) s.time.uptime).lossView :=
  lossView_of_still (gaugeEvent_still s k g)

theorem closedSample_watchRuns (s : State) (k : Tank) (g : GaugeReading) (d : Bool) :
    ((s.closedSample k g).tank k).watchRuns d = ((s.tank k).cfg.gaugeFitted && decide ((s.tank k).cfg.lossLimit ≠ 0) && !d) := by
  have h := congrArg (TankUnit.watchRuns · d) (closedSample_tank s k g)
  refine h.trans ?_
  show ((s.tank k).cfg.gaugeFitted && true && decide ((s.tank k).cfg.lossLimit ≠ 0) && !d) = _
  rw [Bool.and_true]

/-! ## An invalid sample (R58, R87) -/

theorem missedGauge_tank (k j : Tank) (s : State) : (missedGauge k s).tank j = s.tank j := postIf_tank _ _ _ _

theorem computeNet_eq (u : TankUnit) :
    u.computeNet = { u with gaugedNet := u.computeNet.gaugedNet, overTable := u.computeNet.overTable } := by
  unfold TankUnit.computeNet
  split <;> rfl

theorem gaugeTaken_none_tank (s : State) (k : Tank) :
    (gaugeTaken k none s).tank k = ((s.tank k).takeReading none).computeNet :=
  (missedGauge_tank k k _).trans (State.tank_setTank_same s _ _)

/-- An invalid sample counts and leaves the other held figures of its tank (R58). -/
theorem gaugeEvent_missed (s : State) (k : Tank) :
    ((gaugeEvent k none s).tank k).level = (s.tank k).level ∧ ((gaugeEvent k none s).tank k).t10 = (s.tank k).t10 ∧
      ((gaugeEvent k none s).tank k).invalid = min 10 ((s.tank k).invalid + 1) ∧
      ((gaugeEvent k none s).tank k).gaugeValid =
        ((s.tank k).gaugeValid && decide (min 10 ((s.tank k).invalid + 1) < 10)) ∧
      ((gaugeEvent k none s).tank k).drawnSince = (s.tank k).drawnSince ∧
      ((gaugeEvent k none s).tank k).book = (s.tank k).book := by
  have h : ((gaugeEvent k none s).tank k).gaugeView = ((s.tank k).takeReading none).computeNet.gaugeView := by
    rw [gaugeEvent_eq, gaugeView_of_still (gaugeHanded_still k _ _), lossSampled_gaugeView, gaugeTaken_none_tank]
  rw [computeNet_eq] at h
  simp only [TankUnit.gaugeView, Prod.mk.injEq] at h
  obtain ⟨hlevel, ht10, hinvalid, hvalid, hdrawn, -, hbook⟩ := h
  exact ⟨hlevel, ht10, hinvalid, hvalid, hdrawn, hbook⟩

theorem gaugeEvent_missed_zoneView (s : State) (k : Tank) :
    ((gaugeEvent k none s).tank k).zoneView = (s.tank k).zoneView := by
  rw [gaugeEvent_eq, gaugeHanded_zoneView, gaugeTaken_none_tank]
  exact ((s.tank k).takeReading_zones none).1

end

end Sys2Proof.Machine
end

section
/-! A gauge sample: what it holds, polls, tests and leaves (R57 to R60, R70, R74, R75, R83). -/

namespace Sys2Proof.Machine

section

variable {s : State} {k : Tank} {reply : List Byte} {g : GaugeReading}

theorem gaugeSample_exec (hp : s.device.phase = .running) (hg : (s.tank k).cfg.gaugeFitted = true) :
    exec (.gaugeSample k reply) s = .next (gaugeEvent k (gaugeReading reply) s) :=
  congrArg Host.Outcome.next ((State.whenRunning_running _ hp).trans (if_pos hg))

/-- A tank with no gauge fitted has no sample (R57). -/
theorem gaugeSample_exec_unfitted (hp : s.device.phase = .running) (hg : (s.tank k).cfg.gaugeFitted = false) :
    exec (.gaugeSample k reply) s = .next s :=
  congrArg Host.Outcome.next ((State.whenRunning_running _ hp).trans (if_neg (by rw [hg]; decide)))

theorem gaugeEvent_bus (r : Option GaugeReading) :
    (gaugeEvent k r s).bus.sel = BitVec.ofNat 3 k.val ∧ (gaugeEvent k r s).bus.poll = some (BitVec.ofNat 8 k.val) := by
  have h : (gaugeEvent k r s).bus = .polled k := (gaugeEvent_left r).bus
  rw [h]
  exact ⟨rfl, rfl⟩

theorem gaugeEvent_rawZone : ((gaugeEvent k (some g) s).tank k).rawZone = zoneOf (s.tank k).cfg g.level := by
  have h := gaugeEvent_zoneView k g s
  rw [latched_zoneView] at h
  exact congrArg (fun v => v.2.1) h

/-- With the loss limit at 0 no watch runs, and a sample leaves no window (R74). -/
theorem gaugeEvent_window_of_no_limit (h : (s.tank k).cfg.lossLimit = 0) : ((gaugeEvent k (some g) s).tank k).window = none := by
  have hw := congrArg (fun v => v.1) (gaugeEvent_lossView s k g)
  exact hw.trans (lossSampled_unwatched (by rw [closedSample_watchRuns]; simp [h]))

/-- A watch that begins at a valid sample (R74). -/
theorem gaugeEvent_begins {net : Nat} (hg : (s.tank k).cfg.gaugeFitted = true) (hl : (s.tank k).cfg.lossLimit ≠ 0)
    (hd : (s.closedSample k g).discharging k = false) (hn : ((s.closedSample k g).tank k).gaugedNet = some net)
    (hw : (s.tank k).window = none) :
    ((gaugeEvent k (some g) s).tank k).lossView =
      (some { start := s.time.uptime, g0 := net, b0 := ((s.closedSample k g).tank k).book }, false, false) := by
  rw [gaugeEvent_lossView]
  exact lossSampled_begins (by rw [closedSample_watchRuns]; simp [hg, hl, hd]) ((closedSample_watch s k g).1.trans hw) hn

/-- A watch that has its window at a valid sample (R74, R75). -/
theorem gaugeEvent_tests {net : Nat} {w : LossWindow} (hg : (s.tank k).cfg.gaugeFitted = true) (hl : (s.tank k).cfg.lossLimit ≠ 0)
    (hd : (s.closedSample k g).discharging k = false) (hn : ((s.closedSample k g).tank k).gaugedNet = some net)
    (hw : (s.tank k).window = some w) :
    ((gaugeEvent k (some g) s).tank k).lossView =
      if w.start + (s.tank k).cfg.lossWindow ≤ s.time.uptime then
        (some { start := s.time.uptime, g0 := net, b0 := ((s.closedSample k g).tank k).book },
          decide (((s.tank k).cfg.lossLimit : Int) < lossOf w net ((s.closedSample k g).tank k).book), false)
      else
        (some w, decide (((s.tank k).cfg.lossLimit : Int) < lossOf w net ((s.closedSample k g).tank k).book),
          decide (((s.tank k).cfg.lossLimit : Int) < lossOf w net ((s.closedSample k g).tank k).book)) := by
  obtain ⟨hwindow, hcfg, -⟩ := closedSample_watch s k g
  rw [gaugeEvent_lossView, ← hcfg]
  exact lossSampled_tests (by rw [closedSample_watchRuns]; simp [hg, hl, hd]) (hwindow.trans hw) hn

/-- Where no discharge is in progress, the sample receives nothing. -/
theorem closedSample_of_not_discharging (h : s.discharging k = false) :
    (s.closedSample k g).discharging k = false ∧ ((s.closedSample k g).tank k).book = (s.tank k).book := by
  have hz : (s.zonedSample k g).discharging k = false := by rw [State.discharging, zonedSample_deliveries]; exact h
  rw [State.closedSample, closingGauge_of_not_discharging hz]
  exact ⟨hz, (congrArg TankUnit.book (zonedSample_tank s k g) :)⟩

end

/-- Settles O22: the held figures and the zones of a sample, the loss test of a tank with no discharge in progress, and what the
sample leaves. -/
theorem gaugeSampleHoldsReading : Obligations.GaugeSampleHoldsReading := by
  intro s k reply hp
  refine ⟨fun hg g hr => ?_, fun hg hr => ?_, fun hg => gaugeSample_exec_unfitted hp hg⟩
  case refine_1 =>
    have hview := gaugeEvent_gaugeView s k g
    simp only [TankUnit.gaugeView, Prod.mk.injEq] at hview
    obtain ⟨hlevel, ht10, hinvalid, hvalid, hdrawn, hnet, -⟩ := hview
    obtain ⟨hsel, hpoll⟩ := gaugeEvent_bus (s := s) (k := k) (some g)
    have hleft := gaugeEvent_left (s := s) (k := k) (some g)
    refine ⟨_, hr ▸ gaugeSample_exec hp hg, hlevel, ht10, hinvalid, hvalid, hdrawn, hnet, gaugeEvent_rawZone, hsel, hpoll,
      gaugeEvent_window_of_no_limit, fun net hd hl hn => ?_, fun j hj => ?_, fun l => ?_⟩
    · obtain ⟨hd', hbook⟩ := closedSample_of_not_discharging (g := g) hd
      have hn' : ((s.closedSample k g).tank k).gaugedNet = some net := (closedSample_watch s k g).2.2.trans (hnet.symm.trans hn)
      refine ⟨fun hw => ?_, fun w hw => ?_⟩
      · have h := gaugeEvent_begins hg hl hd' hn' hw
        rw [hbook] at h
        simp only [TankUnit.lossView, Prod.mk.injEq] at h
        exact h
      · have h := gaugeEvent_tests hg hl hd' hn' hw
        rw [hbook] at h
        refine ⟨?_, fun hage => ?_, fun hage => ?_⟩
        · split at h
          · exact congrArg (fun v => v.2.1) h
          · exact congrArg (fun v => v.2.1) h
        · rw [if_neg (Nat.not_le.2 hage)] at h
          simp only [TankUnit.lossView, Prod.mk.injEq] at h
          obtain ⟨hwindow, hhanded, hcond⟩ := h
          exact ⟨hwindow, hcond.trans hhanded.symm⟩
        · rw [if_pos hage] at h
          simp only [TankUnit.lossView, Prod.mk.injEq] at h
          obtain ⟨hwindow, -, hcond⟩ := h
          exact ⟨hwindow, hcond⟩
    · have h := hleft.tank j hj
      exact ⟨(congrArg TankUnit.level h :), (congrArg TankUnit.gaugedNet h :), (congrArg TankUnit.book h :)⟩
    · exact congrArg (fun x => x.1) (hleft.lane l)
  case refine_2 =>
    obtain ⟨hlevel, ht10, hinvalid, -, hdrawn, hbook⟩ := gaugeEvent_missed s k
    obtain ⟨hsel, hpoll⟩ := gaugeEvent_bus (s := s) (k := k) none
    have hview := gaugeEvent_missed_zoneView s k
    simp only [TankUnit.zoneView, Prod.mk.injEq] at hview
    obtain ⟨hruns, -, hzone, -⟩ := hview
    exact ⟨_, hr ▸ gaugeSample_exec hp hg, hlevel, hsel, hpoll, ht10, hinvalid, hzone, hruns, hbook, hdrawn⟩

end Sys2Proof.Machine
end

section
/-! The tenth invalid sample of a gauge and of a waiting delivery (R58, R87, R89; log 4). -/

namespace Sys2Proof.Machine

section

variable {s : State} {k : Tank}

theorem gaugeStale_exec (hp : s.device.phase = .running) (hg : (s.tank k).cfg.gaugeFitted = true) (hi : (s.tank k).invalid < 10) :
    exec (.gaugeStale k) s = .next (gaugeEvent k none (s.setTank k { s.tank k with invalid := 9 })) := by
  refine congrArg Host.Outcome.next ((State.whenRunning_running _ hp).trans (if_pos ?_))
  rw [hg, Bool.true_and]
  exact decide_eq_true hi

/-- The bay when nine samples have been waited by the entry of a tank that waits (log 4). -/
def State.waitedNine (s : State) (k : Tank) : State :=
  mapDeliveries (DeliveryEntry.waits k) (fun e => { e with waited := some 9 }) s

theorem staleEnd_exec {e : DeliveryEntry} (hp : s.device.phase = .running) (hg : (s.tank k).cfg.gaugeFitted = true)
    (he : e ∈ s.deliveries.entries) (hw : e.waits k = true) :
    exec (.staleEnd k) s = .next (gaugeEvent k none (s.waitedNine k)) := by
  refine congrArg Host.Outcome.next ((State.whenRunning_running _ hp).trans (if_pos ?_))
  rw [hg, Bool.true_and]
  exact List.any_eq_true.2 ⟨e, he, hw⟩

/-- The tenth sample waited abandons an entry with STALE_END (R87, R89). -/
theorem waitOn_tenth {e d : DeliveryEntry} {stamp : Nat × Bool} (hd : d = e.waitOn stamp) (hw : e.waited = some 9) :
    d.number = e.number ∧ d.tank = e.tank ∧ d.state = .abandoned ∧ d.flags.staleEnd = true ∧ d.closing = e.closing ∧
      d.received = e.received ∧ d.completeTime = some stamp.1 := by
  subst hd
  unfold DeliveryEntry.waitOn
  rw [hw]
  exact ⟨rfl, rfl, rfl, rfl, rfl, rfl, rfl⟩

/-- An invalid sample posts DELIVERY and keeps its change where it is the last that an entry waits (R87). -/
theorem gaugeEvent_lastWait {e : DeliveryEntry} (he : e ∈ s.deliveries.entries) (hw : e.waits k = true) (h9 : e.waited = some 9) :
    (∀ i, holdsKind ((gaugeEvent k none s).port i).pendingSet .delivery = true) ∧
      e.waitOn s.stamp ∈ (gaugeEvent k none s).deliveries.entries := by
  have hleft := gaugeHanded_left (k := k) (s := gaugeTaken k none s) false
  have hlast : s.deliveries.entries.any (DeliveryEntry.lastWait k) = true :=
    List.any_eq_true.2 ⟨e, he, by simp [DeliveryEntry.lastWait, hw, h9, Config.staleCount]⟩
  have hmem : e.waitOn s.stamp ∈ (gaugeTaken k none s).deliveries.entries := by
    rw [gaugeTaken, missedGauge, postIf_deliveries]
    exact List.mem_map.2 ⟨e, he, if_pos hw⟩
  obtain ⟨-, -, hstate, -⟩ := waitOn_tenth (d := e.waitOn s.stamp) rfl h9
  rw [gaugeEvent_eq]
  refine ⟨fun i => hleft.kinds i .delivery ?_, hleft.entry _ hmem (by rw [hstate]; decide) ?_⟩
  · rw [gaugeTaken, missedGauge, holdsKind_postIf]
    exact Bool.or_eq_true_iff.2 (Or.inr ((Bool.and_true _).trans hlast))
  · simp [DeliveryEntry.waits, hstate]

end

/-- Settles O24: the tenth invalid sample by the count it makes, and by the entry that waits for it. -/
theorem tenthInvalidSample : Obligations.TenthInvalidSample := by
  intro s k hp hg
  refine ⟨fun hi => ?_, fun e he ht hs hw => ?_⟩
  · have htank : (s.setTank k { s.tank k with invalid := 9 }).tank k = { s.tank k with invalid := 9 } := State.tank_setTank_same _ _ _
    obtain ⟨hlevel, -, hinvalid, hvalid, -, hbook⟩ := gaugeEvent_missed (s.setTank k { s.tank k with invalid := 9 }) k
    have hzone := congrArg (fun v => v.2.2.1) (gaugeEvent_missed_zoneView (s.setTank k { s.tank k with invalid := 9 }) k)
    rw [htank] at hlevel hinvalid hvalid hbook hzone
    exact ⟨_, gaugeStale_exec hp hg hi, hvalid.trans (Bool.and_false _), hinvalid, hlevel, hzone, hbook⟩
  · have hwaits : e.waits k = true := waits_iff.2 ⟨ht, hs, hw⟩
    have hnine : { e with waited := some 9 } ∈ (s.waitedNine k).deliveries.entries := List.mem_map.2 ⟨e, he, if_pos hwaits⟩
    obtain ⟨hposted, hmem⟩ := gaugeEvent_lastWait hnine (waits_iff.2 ⟨ht, hs, rfl⟩) rfl
    obtain ⟨-, -, -, -, -, hbook⟩ := gaugeEvent_missed (s.waitedNine k) k
    obtain ⟨hnumber, htank, hstate, hflag, hclosing, hreceived, htime⟩ := waitOn_tenth (stamp := (s.waitedNine k).stamp) rfl
      (show ({ e with waited := some 9 } : DeliveryEntry).waited = some 9 from rfl)
    exact ⟨_, staleEnd_exec hp hg he hwaits, hbook, hposted, _, hmem, hnumber, htank.trans ht, hstate, hflag, hclosing, hreceived,
      by rw [htime]; rfl⟩

end Sys2Proof.Machine
end

section
/-! The closing gauge of a waiting delivery: the entry reconciled, the receipt in the book, and the loss watch running again (R74, R75,
R83, R87, R88). -/

namespace Sys2Proof.Machine

section

variable {s : State} {k : Tank} {e : DeliveryEntry} {c : Confirmation}

/-- e is the one entry of the tank that discharges, and it waits for its closing gauge. -/
structure State.awaits (s : State) (k : Tank) (e : DeliveryEntry) : Prop where
  mem : e ∈ s.deliveries.entries
  waits : e.waits k = true
  only : ∀ x ∈ s.deliveries.entries, x.tank = k → x.state.discharging = true → x = e

theorem State.awaits.eq_of_waits (h : s.awaits k e) {x : DeliveryEntry} (hx : x ∈ s.deliveries.entries) (hw : x.waits k = true) :
    x = e :=
  h.only x hx (discharging_of_waits hw).1 (discharging_of_waits hw).2

theorem State.awaits.find (h : s.awaits k e) : s.deliveries.entries.find? (DeliveryEntry.waits k) = some e := by
  obtain ⟨x, hx⟩ := Option.isSome_iff_exists.1 (List.find?_isSome.2 ⟨e, h.mem, h.waits⟩)
  rw [hx, h.eq_of_waits (List.mem_of_find?_eq_some hx) (List.find?_some hx)]

/-- The closing gauge where an entry waits (R87, R88). -/
theorem closingGauge_of_awaits {closing : Nat} (h : s.awaits k e) (hc : e.conf = some c) (hn : (s.tank k).gaugedNet = some closing) :
    closingGauge k s =
      post .delivery
        ((mapDeliveries (DeliveryEntry.waits k)
            (fun x => x.reconcile closing (s.tank k).overTable (s.tank k).book s.stamp) s).setTank k
          { s.tank k with book := receiveInto (s.tank k).book (receivedOf c closing) }) := by
  unfold closingGauge
  rw [h.find, hn]
  dsimp only
  rw [hc]

/-- A reconciled entry has left the discharge. -/
theorem outcomeOf_ends (r v : Int) (tolerance : Nat) :
    outcomeOf r v tolerance ≠ .filling ∧ outcomeOf r v tolerance ≠ .settling ∧ (outcomeOf r v tolerance).discharging = false := by
  unfold outcomeOf
  split
  · decide
  · split <;> decide

theorem closingGauge_entries {closing : Nat} (h : s.awaits k e) (hc : e.conf = some c) (hn : (s.tank k).gaugedNet = some closing) :
    (closingGauge k s).deliveries.entries =
      s.deliveries.entries.map
        (fun x => if x.waits k then x.reconcile closing (s.tank k).overTable (s.tank k).book s.stamp else x) := by
  rw [closingGauge_of_awaits h hc hn]
  rfl

/-- Once the waiting entry is reconciled, no discharge into the tank is in progress. -/
theorem closingGauge_not_discharging {closing : Nat} (h : s.awaits k e) (hc : e.conf = some c)
    (hn : (s.tank k).gaugedNet = some closing) : (closingGauge k s).discharging k = false := by
  refine discharging_eq_false.2 fun x hx ht => ?_
  rw [closingGauge_entries h hc hn] at hx
  obtain ⟨y, hy, rfl⟩ := List.mem_map.1 hx
  by_cases hw : y.waits k = true
  · rw [if_pos hw, h.eq_of_waits hy hw]
    obtain ⟨-, hstate, -⟩ := reconcile_tells rfl hc
    rw [hstate]
    exact (outcomeOf_ends _ _ _).2.2
  · rw [if_neg hw] at ht ⊢
    by_contra hd
    exact hw (h.only y hy ht (Bool.not_eq_false _ ▸ hd) ▸ h.waits)

/-! ## The closing gauge within the sample -/

theorem zonedSample_awaits (h : s.awaits k e) (g : GaugeReading) : (s.zonedSample k g).awaits k e := by
  obtain ⟨hmem, hw, honly⟩ := h
  rw [← zonedSample_deliveries s k g] at hmem honly
  exact ⟨hmem, hw, honly⟩

theorem zonedSample_stamp (s : State) (k : Tank) (g : GaugeReading) : (s.zonedSample k g).stamp = s.stamp := by
  simp only [State.stamp, zonedSample_time]

theorem zonedSample_book (s : State) (k : Tank) (g : GaugeReading) : ((s.zonedSample k g).tank k).book = (s.tank k).book :=
  (congrArg TankUnit.book (zonedSample_tank s k g) :)

theorem zonedSample_gaugedNet (s : State) (k : Tank) (g : GaugeReading) :
    ((s.zonedSample k g).tank k).gaugedNet = some (gaugedNetOf (s.tank k).points (s.tank k).alpha g.level g.t10) :=
  (congrArg TankUnit.gaugedNet (zonedSample_tank s k g) :)

/-- The book after a sample that a delivery waits for (R62, R88). -/
theorem closedSample_book (h : s.awaits k e) (hc : e.conf = some c) (g : GaugeReading) :
    ((s.closedSample k g).tank k).book =
      receiveInto (s.tank k).book (receivedOf c (gaugedNetOf (s.tank k).points (s.tank k).alpha g.level g.t10)) := by
  rw [State.closedSample, closingGauge_of_awaits (zonedSample_awaits h g) hc (zonedSample_gaugedNet s k g), post_tank,
    State.tank_setTank_same, zonedSample_book]

theorem closedSample_not_discharging (h : s.awaits k e) (hc : e.conf = some c) (g : GaugeReading) :
    (s.closedSample k g).discharging k = false :=
  closingGauge_not_discharging (zonedSample_awaits h g) hc (zonedSample_gaugedNet s k g)

/-- The sample posts DELIVERY, and its trips leave the reconciled entry (R86, R87). -/
theorem gaugeEvent_reconciles (h : s.awaits k e) (hc : e.conf = some c) (g : GaugeReading) :
    (∀ i, holdsKind ((gaugeEvent k (some g) s).port i).pendingSet .delivery = true) ∧
      ∃ d ∈ (gaugeEvent k (some g) s).deliveries.entries, ∃ above book,
        d = e.reconcile (gaugedNetOf (s.tank k).points (s.tank k).alpha g.level g.t10) above book s.stamp := by
  have hz := zonedSample_awaits h g
  have hn := zonedSample_gaugedNet s k g
  have hleft := gaugeHanded_left (k := k) (s := s.closedSample k g) true
  rw [gaugeEvent_closed]
  refine ⟨fun i => hleft.kinds i .delivery ?_, _, hleft.entry _ ?_ ?_ ?_, ((s.zonedSample k g).tank k).overTable,
    ((s.zonedSample k g).tank k).book, rfl⟩
  · rw [State.closedSample, closingGauge_of_awaits hz hc hn, holdsKind_post]
    exact Bool.or_true _
  · rw [State.closedSample, closingGauge_entries hz hc hn, zonedSample_stamp]
    exact List.mem_map.2 ⟨e, hz.mem, if_pos h.waits⟩
  · obtain ⟨-, hstate, -⟩ := reconcile_tells rfl hc
    rw [hstate]
    exact (outcomeOf_ends _ _ _).1
  · obtain ⟨-, hstate, -⟩ := reconcile_tells rfl hc
    rw [DeliveryEntry.waits, hstate, decide_eq_false (outcomeOf_ends _ _ _).2.1, Bool.and_false, Bool.false_and]

/-! ## The outcome and the book (R62, R88) -/

theorem outcomeOf_negative {r : Int} (h : r < 0) (v : Int) (tolerance : Nat) : outcomeOf r v tolerance = .disputed := if_pos h

/-- A receipt that is not negative is COMPLETE within the tolerance and DISPUTED beyond it (R88). -/
theorem outcomeOf_received {r : Int} (h : 0 ≤ r) (v : Int) (tolerance : Nat) :
    (outcomeOf r v tolerance = .complete ↔ v.natAbs ≤ tolerance) ∧ (outcomeOf r v tolerance = .disputed ↔ tolerance < v.natAbs) := by
  unfold outcomeOf
  rw [if_neg (Int.not_lt.2 h)]
  split
  · next hv => simp [hv]
  · next hv => simp [hv, Nat.lt_of_not_le hv]

end

/-- Settles O25: the closing gauge within the sample, whose trips leave the reconciled entry and every other that does not fill. -/
theorem closingGaugeReconciles : Obligations.ClosingGaugeReconciles := by
  intro s k reply g e c hp hg hr he ht hs hw hc honly
  have h : s.awaits k e := ⟨he, waits_iff.2 ⟨ht, hs, hw⟩, honly⟩
  have hview := gaugeEvent_gaugeView s k g
  simp only [TankUnit.gaugeView, Prod.mk.injEq] at hview
  obtain ⟨-, -, -, -, -, hnet, hbook⟩ := hview
  have hbook' := hbook.trans (closedSample_book h hc g)
  obtain ⟨hposted, d, hd, above, book, heq⟩ := gaugeEvent_reconciles h hc g
  obtain ⟨htank, hstate, htime, hclosing, hreceived, hvariance, hnegative⟩ := reconcile_tells heq hc
  have hleft := gaugeEvent_left (s := s) (k := k) (some g)
  refine ⟨_, d, _, hr ▸ gaugeSample_exec hp hg, hd, heq ▸ reconcile_number e _ _ _ _, htank.trans ht, hleft.numbers,
    fun x hx hne hf => hleft.entry x hx hf ?_, fun hl hwindow => ?_, hnet, hclosing, htime, hreceived, fun r hr' => ?_, hposted⟩
  · by_contra hxw
    exact hne (h.eq_of_waits hx (Bool.not_eq_false _ ▸ hxw))
  · have hloss := gaugeEvent_begins hg hl (closedSample_not_discharging h hc g) (closedSample_watch s k g).2.2 hwindow
    rw [← hbook] at hloss
    simp only [TankUnit.lossView, Prod.mk.injEq] at hloss
    obtain ⟨hopened, hhanded, -⟩ := hloss
    exact ⟨hopened, hhanded⟩
  · obtain rfl : receivedOf c _ = r := Option.some.inj (hreceived.symm.trans hr')
    refine ⟨hvariance, fun hneg => ⟨?_, ?_, ?_⟩, fun hpos => ?_, fun v hpos hv => ?_⟩
    · rw [hstate, outcomeOf_negative hneg]
    · rw [hnegative, decide_eq_true hneg, Bool.or_true]
    · rw [hbook', receiveInto, if_neg (Int.not_le.2 hneg)]
    · rw [hbook', receiveInto, if_pos hpos]
      rfl
    · obtain rfl := Option.some.inj (hvariance.symm.trans hv)
      rw [hstate]
      exact outcomeOf_received hpos _ _

end Sys2Proof.Machine
end

section
/-! Deadlines of deliveries and orders (R81, R87, R89, R117, R191): the entry or the order that a number names, and its expiry. -/

namespace Sys2Proof.Machine

section

variable {s : State} {n : Nat} {e : DeliveryEntry}

/-! ## The entries that a condition picks (R79) -/

/-- The one member of a list that satisfies a condition is found by it. -/
theorem find?_only {α : Type} {p : α → Bool} {xs : List α} {x : α} (hx : x ∈ xs) (hp : p x = true)
    (honly : ∀ y ∈ xs, p y = true → y = x) : xs.find? p = some x := by
  obtain ⟨y, hy⟩ := Option.isSome_iff_exists.1 (List.find?_isSome.2 ⟨x, hx, hp⟩)
  rw [hy, honly y (List.mem_of_find?_eq_some hy) (List.find?_some hy)]

theorem findDelivery_only (he : e ∈ s.deliveries.entries) (hn : e.number = n)
    (honly : ∀ x ∈ s.deliveries.entries, x.number = n → x = e) : findDelivery s.deliveries.entries n = some e :=
  find?_only he (decide_eq_true hn) fun x hx h => honly x hx (of_decide_eq_true h)

/-- The entry found by a number is listed and carries it. -/
theorem findDelivery_some (h : findDelivery s.deliveries.entries n = some e) : e ∈ s.deliveries.entries ∧ e.number = n :=
  ⟨List.mem_of_find?_eq_some h, of_decide_eq_true (List.find?_some (p := fun x : DeliveryEntry => decide (x.number = n)) h)⟩

/-- A change of the entries that satisfy a condition, where those are the one entry that carries a number. -/
theorem mapDeliveries_numbered {p : DeliveryEntry → Bool} (f : DeliveryEntry → DeliveryEntry)
    (honly : ∀ x ∈ s.deliveries.entries, x.number = n → x = e)
    (hp : ∀ x ∈ s.deliveries.entries, p x = true ↔ x.number = n) :
    mapDeliveries p f s =
      { s with
        deliveries :=
          { s.deliveries with entries := s.deliveries.entries.map (fun x => if x.number = n then f e else x) } } := by
  have hmap : s.deliveries.entries.map (fun x => if p x then f x else x) =
      s.deliveries.entries.map (fun x => if x.number = n then f e else x) :=
    List.map_congr_left fun x hx => by
      by_cases hn : x.number = n
      · rw [if_pos hn, if_pos ((hp x hx).2 hn), honly x hx hn]
      · rw [if_neg hn, if_neg (fun h => hn ((hp x hx).1 h))]
  rw [mapDeliveries, hmap]

/-- A change that picks no entry. -/
theorem mapDeliveries_of_none {p : DeliveryEntry → Bool} (f : DeliveryEntry → DeliveryEntry)
    (hp : ∀ x ∈ s.deliveries.entries, p x = false) : mapDeliveries p f s = s := by
  have hmap : s.deliveries.entries.map (fun x => if p x then f x else x) = s.deliveries.entries :=
    (List.map_congr_left fun x hx => by rw [hp x hx]; rfl).trans (List.map_id _)
  rw [mapDeliveries, hmap]

/-- An announcement that has run out, and a settle timer that has, by number (R81, R87). -/
theorem announcedAs_iff : e.announcedAs n = true ↔ e.number = n ∧ e.state = .announced ∧ e.timer = some 0 := by
  simp [DeliveryEntry.announcedAs, DeliveryEntry.numbered, ended, and_assoc]

theorem settlesAs_iff : e.settlesAs n = true ↔ e.number = n ∧ e.state = .settling ∧ e.timer = some 0 := by
  simp [DeliveryEntry.settlesAs, DeliveryEntry.numbered, ended, and_assoc]

/-! ## The expiries (R81, R87, R191) -/

theorem announcementTimerExpiry_exec (hp : s.device.phase = .running) :
    exec (.announcementTimerExpiry n) s = .next (announcementExpiry n s) :=
  congrArg Host.Outcome.next (State.whenRunning_running _ hp)

theorem deliverySettleTimerExpiry_exec (hp : s.device.phase = .running) :
    exec (.deliverySettleTimerExpiry n) s = .next (settleExpiry n s) :=
  congrArg Host.Outcome.next (State.whenRunning_running _ hp)

theorem orderDeadline_exec (hp : s.device.phase = .running) : exec (.orderDeadline n) s = .next (orderDeadline n s) :=
  congrArg Host.Outcome.next (State.whenRunning_running _ hp)

/-- An announcement runs out: its entry WITHDRAWN with EXPIRED, and DELIVERY posted (R81, R89). -/
theorem announcementExpiry_expires (he : e ∈ s.deliveries.entries) (hn : e.number = n)
    (honly : ∀ x ∈ s.deliveries.entries, x.number = n → x = e) (hs : e.state = .announced) (ht : e.timer = some 0) :
    announcementExpiry n s =
      post .delivery
        { s with
          deliveries :=
            { s.deliveries with
              entries := s.deliveries.entries.map (fun x => if x.number = n then e.expire s.stamp else x) } } := by
  have hany : s.deliveries.entries.any (DeliveryEntry.announcedAs n) = true :=
    List.any_eq_true.2 ⟨e, he, announcedAs_iff.2 ⟨hn, hs, ht⟩⟩
  rw [announcementExpiry, hany, mapDeliveries_numbered _ honly]
  · rfl
  · intro x hx
    refine ⟨fun h => (announcedAs_iff.1 h).1, fun h => announcedAs_iff.2 ⟨h, ?_⟩⟩
    rw [honly x hx h]
    exact ⟨hs, ht⟩

/-- A settle timer runs out: its entry waits with count 0 (R87). -/
theorem settleExpiry_waits (honly : ∀ x ∈ s.deliveries.entries, x.number = n → x = e) (hs : e.state = .settling)
    (ht : e.timer = some 0) :
    settleExpiry n s =
      { s with
        deliveries :=
          { s.deliveries with
            entries :=
              s.deliveries.entries.map
                (fun x => if x.number = n then { e with timer := none, waited := some 0 } else x) } } := by
  rw [settleExpiry, mapDeliveries_numbered _ honly]
  intro x hx
  refine ⟨fun h => (settlesAs_iff.1 h).1, fun h => settlesAs_iff.2 ⟨h, ?_⟩⟩
  rw [honly x hx h]
  exact ⟨hs, ht⟩

/-- While seconds are left on the timer of the number's entry, neither expiry does anything (R191). -/
theorem announcementExpiry_early (h : ∀ x ∈ s.deliveries.entries, x.number = n → x.timer ≠ some 0) :
    announcementExpiry n s = s := by
  have hnone : ∀ x ∈ s.deliveries.entries, x.announcedAs n = false := fun x hx =>
    Bool.eq_false_iff.2 fun hx' => by
      obtain ⟨hn, -, ht⟩ := announcedAs_iff.1 hx'
      exact h x hx hn ht
  have hany : s.deliveries.entries.any (DeliveryEntry.announcedAs n) = false :=
    List.any_eq_false.2 fun x hx => Bool.eq_false_iff.1 (hnone x hx)
  rw [announcementExpiry, hany, mapDeliveries_of_none _ hnone]
  rfl

theorem settleExpiry_early (h : ∀ x ∈ s.deliveries.entries, x.number = n → x.timer ≠ some 0) : settleExpiry n s = s :=
  mapDeliveries_of_none _ fun x hx =>
    Bool.eq_false_iff.2 fun hx' => by
      obtain ⟨hn, -, ht⟩ := settlesAs_iff.1 hx'
      exact h x hx hn ht

/-! ## The deadline of an order (R117) -/

variable {o : Order}

theorem findOrder_only (ho : o ∈ s.orders.orders) (hn : o.number = n)
    (honly : ∀ p ∈ s.orders.orders, p.number = n → p = o) : findOrder s.orders.orders n = some o :=
  find?_only ho (decide_eq_true hn) fun p hp h => honly p hp (of_decide_eq_true h)

/-- An order expires where it is PENDING, has a deadline, and the uptime has reached it. -/
theorem Order.expires_iff (o : Order) (uptime : Nat) :
    o.expires uptime = true ↔ o.claimedBy = none ∧ o.expiry ≠ 0 ∧ o.placedAt + o.expiry ≤ uptime := by
  rw [Order.expires, Bool.and_eq_true, Order.overdue_iff, Option.isNone_iff_eq_none]

theorem orderDeadline_found (h : findOrder s.orders.orders n = some o) :
    orderDeadline n s =
      if o.expires s.time.uptime then
        post .order { s with orders := { s.orders with orders := removeOrder n s.orders.orders } }
      else s := by
  rw [orderDeadline, h]

end

/-- Settles O29: each expiry by the entry, or the order, that its number names. -/
theorem deliveryAndOrderDeadlines : Obligations.DeliveryAndOrderDeadlines := by
  intro s n hp
  refine ⟨fun e he hn honly hs ht => ?_, fun e _ _ honly hs ht => ?_, fun h => ?_, fun o ho hn honly => ?_⟩
  · refine ⟨_, e.expire s.stamp, (announcementTimerExpiry_exec hp).trans
      (congrArg Host.Outcome.next (announcementExpiry_expires he hn honly hs ht)), rfl, rfl, rfl, rfl, hn, rfl, fun i => ?_, rfl⟩
    rw [holdsKind_post]
    exact Bool.or_true _
  · exact ⟨_, (deliverySettleTimerExpiry_exec hp).trans (congrArg Host.Outcome.next (settleExpiry_waits honly hs ht)), rfl⟩
  · exact ⟨(announcementTimerExpiry_exec hp).trans (congrArg Host.Outcome.next (announcementExpiry_early h)),
      (deliverySettleTimerExpiry_exec hp).trans (congrArg Host.Outcome.next (settleExpiry_early h))⟩
  · rw [orderDeadline_exec hp, orderDeadline_found (findOrder_only ho hn honly)]
    refine ⟨fun hx => ?_, fun hx => ?_⟩
    · refine ⟨_, congrArg Host.Outcome.next (if_pos ((o.expires_iff _).2 hx)), rfl, rfl, rfl, fun i => ?_⟩
      rw [holdsKind_post]
      exact Bool.or_true _
    · refine congrArg Host.Outcome.next (if_neg fun h => ?_)
      obtain ⟨hc, h0, hd⟩ := (o.expires_iff _).1 h
      rcases hx with hx | hx | hx
      · simp [hc] at hx
      · exact h0 hx
      · omega

end Sys2Proof.Machine
end

section
/-! END_DELIVERY, WITHDRAW_DELIVERY and RELEASE_DELIVERY by the state of the entry that a number names (R81, R85, R89). -/

namespace Sys2Proof.Machine

section

variable {s : State} {f : Frame} {n : Nat} {e : DeliveryEntry}

/-! ## Requests answered (R176 to R178) -/

section

variable {cmd : Instr} {code : Byte} {a : Access}

/-- A request refused changes only the reply of its port. -/
theorem serve_refused {st : Status} {act : State → Answer} (h : s.takes f cmd = true)
    (ha : accessPasses s f.port a = s.permits f.port cmd) (hx : act s = .refuse s st) :
    s.onlyAnswers (serve f code a act s) f code st .nothing := by
  rw [serve_refuses h ha hx]
  exact reply_onlyAnswers _ _ _ _ _

/-- A request carried out is answered on the state that it leaves. -/
theorem serve_accepts {t : State} {p : Payload} {act : State → Answer} (h : s.takes f cmd = true)
    (ha : accessPasses s f.port a = s.permits f.port cmd) (hx : act s = .ok t p) :
    serve f code a act s = t.reply f code .ok p := by
  rw [serve_of_takes h ha, hx]
  rfl

theorem onDelivery_of_none (h : findDelivery s.deliveries.entries n = none) (act : DeliveryEntry → State → Answer) :
    onDelivery n act s = .refuse s .notFound := by
  unfold onDelivery
  rw [h]

theorem reply_tank (s : State) (f : Frame) (code : Byte) (st : Status) (p : Payload) (k : Tank) :
    (s.reply f code st p).tank k = s.tank k := rfl

/-- A posting and the reply after it leave the kind in every pending set (R185). -/
theorem reply_post_holds (k : EventKind) (t : State) (f : Frame) (code : Byte) (st : Status) (p : Payload) (i : PortId) :
    holdsKind (((post k t).reply f code st p).port i).pendingSet k = true := by
  rw [reply_pendingSet, holdsKind_post, decide_eq_true rfl, Bool.or_true]

end

/-! ## What each request leaves, where one entry carries the number -/

theorem numbered_iff (x : DeliveryEntry) : x.numbered n = true ↔ x.number = n := decide_eq_true_iff

/-- The end of a discharge of the one FILLING entry of its tank (R85). -/
theorem endDischarge_numbered (hn : e.number = n) (honly : ∀ x ∈ s.deliveries.entries, x.number = n → x = e)
    (hs : e.state = .filling) (hfill : ∀ x ∈ s.deliveries.entries, x.tank = e.tank → x.state = .filling → x = e) :
    endDischarge e.tank false s =
      State.setTank
        { s with
          deliveries :=
            { s.deliveries with
              entries := s.deliveries.entries.map
                (fun x => if x.number = n then e.startSettling false s.stamp else x) } }
        e.tank { s.tank e.tank with inlet := false } := by
  rw [endDischarge, mapDeliveries_numbered _ honly]
  · rfl
  · intro x hx
    rw [Bool.and_eq_true, decide_eq_true_iff, decide_eq_true_iff]
    refine ⟨fun h => hfill x hx h.1 h.2 ▸ hn, fun h => ?_⟩
    rw [honly x hx h]
    exact ⟨rfl, hs⟩

theorem endDeliveryAnswer_refuses (h : e.state.discharging = false) : endDeliveryAnswer e s = .refuse s .wrongState := by
  unfold endDeliveryAnswer
  cases hs : e.state with
  | filling => rw [hs] at h; exact absurd h (by decide)
  | settling => rw [hs] at h; exact absurd h (by decide)
  | _ => rfl

theorem endDeliveryAnswer_filling (h : e.state = .filling) :
    endDeliveryAnswer e s = .ok (endDischarge e.tank false s) .nothing := by rw [endDeliveryAnswer, h]

theorem endDeliveryAnswer_settling (h : e.state = .settling) : endDeliveryAnswer e s = .ok s .nothing := by
  rw [endDeliveryAnswer, h]

theorem withdrawAnswer_refuses (h : e.state ≠ .announced) : withdrawAnswer e s = .refuse s .wrongState := by
  unfold withdrawAnswer
  cases hs : e.state with
  | announced => exact absurd hs h
  | _ => rfl

/-- The withdrawal of an ANNOUNCED entry (R81, R89). -/
theorem withdrawAnswer_announced (hn : e.number = n) (honly : ∀ x ∈ s.deliveries.entries, x.number = n → x = e)
    (h : e.state = .announced) :
    withdrawAnswer e s =
      .ok
        (post .delivery
          { s with
            deliveries :=
              { s.deliveries with
                entries := s.deliveries.entries.map
                  (fun x => if x.number = n then e.finish .withdrawn s.stamp else x) } })
        .nothing := by
  rw [withdrawAnswer, h, hn]
  dsimp only
  rw [mapDeliveries_numbered _ honly fun x _ => numbered_iff x]

theorem releaseDeliveryAnswer_refuses (h : e.state.active = true) : releaseDeliveryAnswer e s = .refuse s .wrongState := if_pos h

/-- The release of a terminal entry (R89). -/
theorem releaseDeliveryAnswer_terminal (hn : e.number = n) (h : e.state.active = false) :
    releaseDeliveryAnswer e s =
      .ok
        { s with
          deliveries :=
            { s.deliveries with entries := s.deliveries.entries.filter (fun x => decide (x.number ≠ n)) } }
        .nothing := by
  have hkept : s.deliveries.entries.filter (fun d => !d.numbered e.number) =
      s.deliveries.entries.filter (fun x => decide (x.number ≠ n)) :=
    List.filter_congr fun x _ => by rw [hn, DeliveryEntry.numbered, decide_not]
  rw [releaseDeliveryAnswer, if_neg (Bool.eq_false_iff.1 h), hkept]

end

/-- Settles O47: each request by the state of the one entry that carries the number, and NOT_FOUND where none does. -/
theorem deliveryRequestsByState : Obligations.DeliveryRequestsByState := by
  intro s f n
  refine ⟨fun e he hn honly => ?_, fun cmd code hcmd h hnone => ?_⟩
  · have hfind := findDelivery_only he hn honly
    refine ⟨fun h => ⟨fun hs hfill => ?_, fun hs => ?_, fun hs => ?_⟩, fun h => ⟨fun hs => ?_, fun hs => ?_⟩,
      fun h => ⟨fun hs => ?_, fun hs => ?_⟩⟩
    · have hx := (endDeliveryAnswer_filling hs).trans
        (congrArg (Answer.ok · .nothing) (endDischarge_numbered hn honly hs hfill))
      refine ⟨_, e.startSettling false s.stamp,
        congrArg Host.Outcome.next (serve_accepts h rfl ((onDelivery_of_find hfind _).trans hx)), reply_answers _ _ _ _ _,
        fun k hk => ?_, (reply_ports rfl f _ _ _).1, rfl, ?_, rfl, hn, rfl, rfl, rfl, Bool.or_false _, rfl⟩
      · rw [reply_tank, State.tank_setTank_ne _ _ _ _ hk]
        rfl
      · rw [reply_tank, State.tank_setTank_same]
    · exact ⟨_, rfl, serve_reads h rfl ((onDelivery_of_find hfind _).trans (endDeliveryAnswer_settling hs))⟩
    · exact ⟨_, rfl, serve_refused h rfl ((onDelivery_of_find hfind _).trans (endDeliveryAnswer_refuses hs))⟩
    · exact ⟨_, e.finish .withdrawn s.stamp,
        congrArg Host.Outcome.next
          (serve_accepts h rfl ((onDelivery_of_find hfind _).trans (withdrawAnswer_announced hn honly hs))),
        reply_answers _ _ _ _ _, rfl, rfl, hn, rfl, rfl, rfl, fun i => reply_post_holds _ _ _ _ _ _ i⟩
    · exact ⟨_, rfl, serve_refused h rfl ((onDelivery_of_find hfind _).trans (withdrawAnswer_refuses hs))⟩
    · exact ⟨_,
        congrArg Host.Outcome.next
          (serve_accepts h rfl ((onDelivery_of_find hfind _).trans (releaseDeliveryAnswer_terminal hn hs))),
        reply_answers _ _ _ _ _, (reply_ports rfl f _ _ _).1, rfl⟩
    · exact ⟨_, rfl, serve_refused h rfl ((onDelivery_of_find hfind _).trans (releaseDeliveryAnswer_refuses hs))⟩
  · rcases hcmd with ⟨rfl, rfl⟩ | ⟨rfl, rfl⟩ | ⟨rfl, rfl⟩
    · exact ⟨_, rfl, serve_refused h rfl (onDelivery_of_none hnone _)⟩
    · exact ⟨_, rfl, serve_refused h rfl (onDelivery_of_none hnone _)⟩
    · exact ⟨_, rfl, serve_refused h rfl (onDelivery_of_none hnone _)⟩

end Sys2Proof.Machine
end

section
/-! ANNOUNCE_DELIVERY and CONFIRM_DELIVERY: the number that an announcement takes, the discharge that a confirmation opens, and the
refusals of both (R78 to R82, R84). -/

namespace Sys2Proof.Machine

/-! ## The next free number (R79) -/

/-- The number that a run has come to after some steps. -/
theorem nextNumber_iterate (n : Nat) {i : Nat} (h : i ≤ 65535) :
    (nextNumber 65535)^[i] n =
      if 65535 < n then (if i = 0 then n else i) else if n + i ≤ 65535 then n + i else n + i - 65535 := by
  induction i with
  | zero => simp only [Function.iterate_zero_apply]; split <;> simp_all
  | succ i ih =>
    have hi := ih (by omega)
    rw [Function.iterate_succ_apply', nextNumber, if_neg (Nat.succ_ne_zero i)]
    split_ifs at hi <;> split_ifs <;> omega

/-- A run does not come to a number twice before it has passed all 65,535. -/
theorem nextNumber_iterate_inj {n i j : Nat} (hi : i < 65535) (hj : j < 65535)
    (h : (nextNumber 65535)^[i] n = (nextNumber 65535)^[j] n) : i = j := by
  rw [nextNumber_iterate n (by omega), nextNumber_iterate n (by omega)] at h
  split_ifs at h <;> omega

/-- A number in use is found only when every number tried was in use. -/
theorem freeNumber_inUse {inUse : Nat → Bool} {fuel n : Nat} (h : inUse (freeNumber inUse fuel n) = true) :
    ∀ i ≤ fuel, inUse ((nextNumber 65535)^[i] n) = true := by
  induction fuel generalizing n with
  | zero =>
    intro i hi
    obtain rfl := Nat.le_zero.1 hi
    exact h
  | succ fuel ih =>
    have hn : inUse n = true := by
      by_contra hn
      rw [freeNumber, if_neg hn] at h
      exact hn h
    rw [freeNumber, if_pos hn] at h
    intro i hi
    cases i with
    | zero => exact hn
    | succ i => exact ih h i (Nat.le_of_succ_le_succ hi)

/-- With no more numbers in use than tries, the number found is free. -/
theorem freeNumber_free {inUse : Nat → Bool} {used : List Nat} {fuel : Nat} (hu : ∀ m, inUse m = true → m ∈ used)
    (hlen : used.length ≤ fuel) (hf : fuel < 65535) (n : Nat) : inUse (freeNumber inUse fuel n) = false := by
  by_contra h
  have htried := freeNumber_inUse (Bool.eq_true_of_not_eq_false h)
  have hnodup : ((List.range (fuel + 1)).map fun i => (nextNumber 65535)^[i] n).Nodup :=
    List.nodup_range.map_on fun i hi j hj he =>
      nextNumber_iterate_inj (by have := List.mem_range.1 hi; omega) (by have := List.mem_range.1 hj; omega) he
  have hsub : ((List.range (fuel + 1)).map fun i => (nextNumber 65535)^[i] n) ⊆ used := fun m hm => by
    obtain ⟨i, hi, rfl⟩ := List.mem_map.1 hm
    exact hu _ (htried i (Nat.le_of_lt_succ (List.mem_range.1 hi)))
  have hle := (List.subperm_of_subset hnodup hsub).length_le
  rw [List.length_map, List.length_range] at hle
  omega

section

variable {s : State} {f : Frame} {n : Nat} {e : DeliveryEntry} {k : Tank} {identity : BitVec 64} {docket : Nat}
  {settle fixedTol propTol : Option Nat}

/-! ## ANNOUNCE_DELIVERY (R79, R80) -/

/-- A new entry takes a number that no entry carries, while there is room in the list. -/
theorem newEntry_number (q : DeliveryUnit) (h : q.entries.length < 8) (k : Tank) (identity : BitVec 64) (docket : Nat)
    (stamp : Nat × Bool) : ∀ d ∈ q.entries, d.number ≠ (q.newEntry k identity docket stamp).number := by
  intro d hd he
  have hfree := freeNumber_free (inUse := fun n => (findDelivery q.entries n).isSome)
    (used := q.entries.map (fun x => x.number)) (fuel := Config.deliveryPlaces + 1)
    (fun m hm => by
      obtain ⟨x, hx⟩ := Option.isSome_iff_exists.1 hm
      exact List.mem_map.2 ⟨x, List.mem_of_find?_eq_some hx,
        of_decide_eq_true (List.find?_some (p := fun y : DeliveryEntry => decide (y.number = m)) hx)⟩)
    (by rw [List.length_map]; exact Nat.le_of_lt (Nat.lt_succ_of_lt h)) (by decide) q.next
  have hused : (findDelivery q.entries (q.newEntry k identity docket stamp).number).isSome = true :=
    List.find?_isSome.2 ⟨d, hd, decide_eq_true he⟩
  exact Bool.false_ne_true (hfree.symm.trans hused)

theorem hasActiveDelivery_eq_false :
    s.hasActiveDelivery k = false ↔ ∀ e ∈ s.deliveries.entries, e.tank = k → e.state.active = false := by
  simp [State.hasActiveDelivery]

theorem hasActiveDelivery_iff :
    s.hasActiveDelivery k = true ↔ ∃ e ∈ s.deliveries.entries, e.tank = k ∧ e.state.active = true := by
  simp [State.hasActiveDelivery]

/-- The checks of R80 in their order. -/
theorem announceAnswer_eq (hd : 1 ≤ docket ∧ docket ≤ 200000000) :
    announceAnswer k.val identity docket s =
      if s.hasActiveDelivery k then .refuse s .alreadyExists
      else if 8 ≤ s.deliveries.entries.length then .refuse s .full
      else
        .ok { s with deliveries := s.deliveries.announce (s.deliveries.newEntry k identity docket s.stamp) }
          (.announced (s.deliveries.newEntry k identity docket s.stamp).number) := by
  rw [announceAnswer, eightOf_val, (within_iff _ _ _).2 hd]
  rfl

theorem announceAnswer_range (hd : docket = 0 ∨ 200000000 < docket) :
    announceAnswer k.val identity docket s = .refuse s .range := by
  have hw : within 1 200000000 docket = false := Bool.eq_false_iff.2 fun h => by
    have := (within_iff _ _ _).1 h
    omega
  rw [announceAnswer, eightOf_val, hw]
  rfl

/-! ## CONFIRM_DELIVERY (R82, R84) -/

theorem confirmInRange_iff :
    confirmInRange settle fixedTol propTol = true ↔
      (∀ v, settle = some v → 30 ≤ v ∧ v ≤ 900) ∧ (∀ v, fixedTol = some v → v ≤ 10000000) ∧
        ∀ v, propTol = some v → v ≤ 100000 := by
  cases settle <;> cases fixedTol <;> cases propTol <;> simp [confirmInRange, optAll, within, and_assoc]

theorem aboveTable_iff (ps : List (Nat × Nat)) (level : Nat) :
    aboveTable ps level = true ↔ ∃ p, ps.getLast? = some p ∧ p.1 < level := by
  unfold aboveTable
  cases ps.getLast? <;> simp

/-- The checks of R82 in their order, each by what it refuses with. -/
theorem confirmAnswer_wrongState (h : e.state ≠ .announced) :
    confirmAnswer settle fixedTol propTol e s = .refuse s .wrongState := if_pos h

theorem confirmAnswer_range (h : e.state = .announced) (hr : confirmInRange settle fixedTol propTol = false) :
    confirmAnswer settle fixedTol propTol e s = .refuse s .range := by
  simp [confirmAnswer, h, hr]

theorem confirmAnswer_tripped (h : e.state = .announced) (hr : confirmInRange settle fixedTol propTol = true)
    (hb : s.inletBlocked e.tank = true) : confirmAnswer settle fixedTol propTol e s = .refuse s .tripped := by
  simp [confirmAnswer, h, hr, hb]

theorem confirmAnswer_gauge (h : e.state = .announced) (hr : confirmInRange settle fixedTol propTol = true)
    (hb : s.inletBlocked e.tank = false) (hg : (s.tank e.tank).gaugeValid = false) :
    confirmAnswer settle fixedTol propTol e s = .refuse s .gauge := by
  simp [confirmAnswer, h, hr, hb, hg]

/-- The confirmation that an entry takes now (R82). -/
def State.confirmation (s : State) (k : Tank) (settle fixedTol propTol : Option Nat) : Confirmation :=
  (s.tank k).confirmation settle fixedTol propTol s.stamp

theorem confirmAnswer_accepts (h : e.state = .announced) (hr : confirmInRange settle fixedTol propTol = true)
    (hb : s.inletBlocked e.tank = false) (hg : (s.tank e.tank).gaugeValid = true) :
    confirmAnswer settle fixedTol propTol e s =
      .ok (acceptConfirm e (s.confirmation e.tank settle fixedTol propTol) s)
        (.confirmed (s.confirmation e.tank settle fixedTol propTol).opening
          (s.confirmation e.tank settle fixedTol propTol).settle (s.confirmation e.tank settle fixedTol propTol).fixedTol
          (s.confirmation e.tank settle fixedTol propTol).propTol) := by
  simp [confirmAnswer, h, hr, hb, hg, State.confirmation]

/-- The confirmed entry in its list, in its place where it alone carries its number. -/
theorem acceptConfirm_mem (c : Confirmation) (he : e ∈ s.deliveries.entries) :
    e.confirm c (s.tank e.tank).heldAbove s.stamp ∈ (acceptConfirm e c s).deliveries.entries :=
  List.mem_map.2 ⟨e, he, if_pos ((numbered_iff e).2 rfl)⟩

theorem acceptConfirm_deliveries (c : Confirmation) (hn : e.number = n)
    (honly : ∀ x ∈ s.deliveries.entries, x.number = n → x = e) :
    (acceptConfirm e c s).deliveries =
      { s.deliveries with
        entries :=
          s.deliveries.entries.map
            (fun x => if x.number = n then e.confirm c (s.tank e.tank).heldAbove s.stamp else x) } := by
  rw [acceptConfirm, hn, mapDeliveries_numbered _ honly fun x _ => numbered_iff x]
  rfl

/-- OVER_TABLE of a confirmed entry: set before, or by a held level above the table (R82). -/
theorem confirm_overTable (c : Confirmation) {u : TankUnit} {level : Nat} (hl : u.level = some level) (stamp : Nat × Bool) :
    (e.confirm c u.heldAbove stamp).flags.overTable = true ↔
      e.flags.overTable = true ∨ ∃ p, u.points.getLast? = some p ∧ p.1 < level := by
  have habove : u.heldAbove = aboveTable u.points level := by rw [TankUnit.heldAbove, hl]; rfl
  rw [habove, ← aboveTable_iff]
  exact Bool.or_eq_true _ _ ▸ Iff.rfl

theorem openingNet_eq {u : TankUnit} {level : Nat} (hl : u.level = some level) :
    u.openingNet = gaugedNetOf u.points u.alpha level (u.t10.getD 150) := by
  rw [TankUnit.openingNet, hl]
  rfl

/-- The refusals of a confirmation, each with its status. -/
theorem confirmAnswer_refuses {st : Status}
    (h : (e.state ≠ .announced ∧ st = .wrongState) ∨
      (e.state = .announced ∧ st = .range ∧
        ((∃ v, settle = some v ∧ (v < 30 ∨ 900 < v)) ∨ (∃ v, fixedTol = some v ∧ 10000000 < v) ∨
          ∃ v, propTol = some v ∧ 100000 < v)) ∨
      (e.state = .announced ∧ (∀ v, settle = some v → 30 ≤ v ∧ v ≤ 900) ∧ (∀ v, fixedTol = some v → v ≤ 10000000) ∧
        (∀ v, propTol = some v → v ≤ 100000) ∧
        ((s.inletBlocked e.tank = true ∧ st = .tripped) ∨
          (s.inletBlocked e.tank = false ∧ (s.tank e.tank).gaugeValid = false ∧ st = .gauge)))) :
    confirmAnswer settle fixedTol propTol e s = .refuse s st := by
  rcases h with ⟨hs, rfl⟩ | ⟨hs, rfl, hv⟩ | ⟨hs, h1, h2, h3, ⟨hb, rfl⟩ | ⟨hb, hg, rfl⟩⟩
  · exact confirmAnswer_wrongState hs
  · refine confirmAnswer_range hs (Bool.eq_false_iff.2 fun hr => ?_)
    obtain ⟨h1, h2, h3⟩ := confirmInRange_iff.1 hr
    rcases hv with ⟨v, hv, hx⟩ | ⟨v, hv, hx⟩ | ⟨v, hv, hx⟩
    · have := h1 v hv
      omega
    · exact absurd (h2 v hv) (Nat.not_le.2 hx)
    · exact absurd (h3 v hv) (Nat.not_le.2 hx)
  · exact confirmAnswer_tripped hs (confirmInRange_iff.2 ⟨h1, h2, h3⟩) hb
  · exact confirmAnswer_gauge hs (confirmInRange_iff.2 ⟨h1, h2, h3⟩) hb hg

end

/-- Settles O46: the checks of both requests in their order, and what the one that passes them leaves. -/
theorem announceAndConfirm : Obligations.AnnounceAndConfirm := by
  intro s f
  refine ⟨fun k identity docket h => ⟨fun hlo hhi hactive hroom => ?_, fun st hst => ⟨_, rfl, serve_refused h rfl ?_⟩⟩,
    fun n settle fixedTol propTol hnone h => ⟨_, rfl, serve_refused h rfl (onDelivery_of_none hnone _)⟩,
    fun n settle fixedTol propTol e h hfind => ⟨fun h1 h2 h3 hs hb hg => ?_, fun st hst =>
      ⟨_, rfl, serve_refused h rfl ((onDelivery_of_find hfind _).trans (confirmAnswer_refuses hst))⟩⟩⟩
  · have hx := announceAnswer_eq (k := k) (identity := identity) (s := s) ⟨hlo, hhi⟩
    rw [if_neg (Bool.eq_false_iff.1 (hasActiveDelivery_eq_false.2 hactive)), if_neg (Nat.not_le.2 hroom)] at hx
    exact ⟨_, s.deliveries.newEntry k identity docket s.stamp, congrArg Host.Outcome.next (serve_accepts h rfl hx),
      reply_answers _ _ _ _ _, (reply_ports rfl f _ _ _).1, rfl, rfl, newEntry_number _ hroom _ _ _ _, rfl, rfl, rfl, rfl, rfl,
      rfl, rfl, rfl⟩
  · rcases hst with ⟨hd, rfl⟩ | ⟨hlo, hhi, ⟨hactive, rfl⟩ | ⟨hactive, hroom, rfl⟩⟩
    · exact announceAnswer_range hd
    · exact (announceAnswer_eq ⟨hlo, hhi⟩).trans (if_pos (hasActiveDelivery_iff.2 hactive))
    · refine (announceAnswer_eq ⟨hlo, hhi⟩).trans ((if_neg ?_).trans (if_pos hroom))
      exact Bool.eq_false_iff.1 (hasActiveDelivery_eq_false.2 hactive)
  · obtain ⟨he, hn⟩ := findDelivery_some hfind
    obtain ⟨c, hc⟩ : ∃ c, c = s.confirmation e.tank settle fixedTol propTol := ⟨_, rfl⟩
    have hx := confirmAnswer_accepts hs (confirmInRange_iff.2 ⟨h1, h2, h3⟩) hb hg
    rw [← hc] at hx
    refine ⟨_, e.confirm c (s.tank e.tank).heldAbove s.stamp, c,
      congrArg Host.Outcome.next (serve_accepts h rfl ((onDelivery_of_find hfind _).trans hx)), (reply_ports rfl f _ _ _).1,
      fun k hk => ?_, rfl, ?_, ?_, ?_, fun honly => acceptConfirm_deliveries c hn honly, acceptConfirm_mem c he, rfl,
      fun lv hl => confirm_overTable c hl _, by rw [hc]; rfl, by rw [hc]; rfl, by rw [hc]; rfl, fun lv hl => ?_, by rw [hc]; rfl,
      by rw [hc]; rfl, reply_answers _ _ _ _ _⟩
    · rw [reply_tank, acceptConfirm_tank, if_neg hk]
    · rw [reply_tank, acceptConfirm_tank, if_pos rfl]
    · rw [reply_tank, acceptConfirm_tank, if_pos rfl]
    · rw [reply_tank, acceptConfirm_tank, if_pos rfl]
    · rw [hc]
      exact openingNet_eq hl

end Sys2Proof.Machine
end

section
/-! BAY_RESTART: a start-up that keeps the clock and the attention settings (R90, R131, R170, R173, R174, R190). -/

namespace Sys2Proof.Machine

/-! ## What the cause of a start-up reaches (R172 to R174, R190) -/

/-- The filing of contexts does not look at the clock or the ports (R172, step 2). -/
theorem fileContext_with (l : Lane) (s : State) (b : BayTime) (p : Ports) :
    fileContext l { s with time := b, ports := p } = { fileContext l s with time := b, ports := p } := by
  cases h : (s.lane l).ctx with
  | none => rw [fileContext_none h, fileContext_none (s := { s with time := b, ports := p }) h]
  | some c =>
    have hbooked : (powerLostBooking c (s.lane l).cfg.tank { s with time := b, ports := p }).accounts =
        (powerLostBooking c (s.lane l).cfg.tank s).accounts := by
      unfold powerLostBooking
      dsimp only
      split <;> rfl
    rw [fileContext_some h, fileContext_some (s := { s with time := b, ports := p }) h]
    have hlane : State.lane { s with time := b, ports := p } l = s.lane l := rfl
    rw [hlane, hbooked]

theorem fileContexts_with (s : State) (b : BayTime) (p : Ports) :
    fileContexts { s with time := b, ports := p } = { fileContexts s with time := b, ports := p } := by
  have hfold : ∀ (as : List Lane) (s : State),
      fileEach as { s with time := b, ports := p } = { fileEach as s with time := b, ports := p } := by
    intro as
    induction as with
    | nil => exact fun s => rfl
    | cons a as ih =>
      intro s
      rw [fileEach_cons, fileContext_with, ih, fileEach_cons]
  exact hfold allEight s

theorem checkMarker_time (s : State) : (checkMarker s).time = s.time := by
  unfold checkMarker
  split <;> rfl

/-- A BAY_RESTART leaves what a power-on leaves, but for the clock, the ports and the stamp of what it abandons. -/
theorem startUp_bayRestart (straps : BitVec 2) (s : State) :
    startUp .bayRestart straps s =
      { startUp .powerOrPin straps s with
        time := { s.time with uptime := 0 }
        ports := (checkMarker s).ports.map (Port.atStartUp .bayRestart straps)
        deliveries :=
          { (checkMarker s).deliveries with
            entries := (checkMarker s).deliveries.entries.map (DeliveryEntry.afterStartUp s.stamp) } } := by
  have hreset : resetVolatile .bayRestart straps (checkMarker s) =
      { resetVolatile .powerOrPin straps (checkMarker s) with
        time := { s.time with uptime := 0 }
        ports := (checkMarker s).ports.map (Port.atStartUp .bayRestart straps) } := by
    rw [← checkMarker_time s]
    rfl
  rw [startUp_eq, startUp_eq, hreset, fileContexts_with]
  rfl

/-- The start-up values are those of the blocks: they say nothing of the ports. -/
theorem State.started.with_ports {t : State} {straps : BitVec 2} (h : t.started straps) (p : Ports) :
    State.started { t with ports := p } straps := h

/-- What a start-up with the marker keeps of the store says nothing of the clock, nor of a port but its level and denial map. -/
theorem State.keepsStore.restarted {s t : State} (h : s.keepsStore t) {b : BayTime} {p : Ports} {q : DeliveryUnit}
    (hq : q = { s.deliveries with
      entries := s.deliveries.entries.map (DeliveryEntry.afterStartUp (State.stamp { t with time := b })) })
    (hp : ∀ i, (p.get i).level = (s.port i).level ∧ (p.get i).denial = (s.port i).denial)
    (ho : p.openLevel = s.ports.openLevel) : s.keepsStore { t with time := b, ports := p, deliveries := q } := by
  obtain ⟨marker, tanks, lanes, lock, changes, classes, policy, threshold, -, trips, dropped, nextTrip, count, sources, -, -, -,
    completed, accounts, quiet⟩ := h
  subst hq
  exact ⟨marker, tanks, lanes, lock, changes, classes, policy, threshold, rfl, trips, dropped, nextTrip, count, sources, hp, ho,
    rfl, completed, accounts, quiet⟩

/-- With no context to file, the records and the accounts are as they were. -/
theorem State.keepsStore.of_no_context {s t : State} (h : s.keepsStore t) (hc : ∀ l, (s.lane l).ctx = none) :
    t.records.completed = s.records.completed ∧ t.records.next = s.records.next ∧ t.accounts = s.accounts := by
  obtain ⟨-, -, -, -, -, -, -, -, -, -, -, -, -, -, -, -, -, -, -, quiet⟩ := h
  exact quiet hc

/-- The factory values say nothing of the clock, nor of a port but its level and denial map. -/
theorem State.factoryStore.restarted {t : State} (h : t.factoryStore) {b : BayTime} {p : Ports}
    (hp : ∀ i, (p.get i).level = (t.port i).level ∧ (p.get i).denial = (t.port i).denial)
    (ho : p.openLevel = t.ports.openLevel) : State.factoryStore { t with time := b, ports := p } := by
  have hlevel : ∀ i, (State.port { t with time := b, ports := p } i).level = (t.port i).level := fun i => (hp i).1
  have hdenial : ∀ i, (State.port { t with time := b, ports := p } i).denial = (t.port i).denial := fun i => (hp i).2
  unfold State.factoryStore at h ⊢
  simp only [hlevel, hdenial, ho]
  exact h

/-! ## The ports of a BAY_RESTART (R173, R174) -/

/-- What a port keeps through a reply: its level, its denial map, and its attention settings with its set and line. -/
def Port.settings (p : Port) : Nat × DenialMap × EventSet × LatchMode × Nat × EventSet × Bool :=
  (p.level, p.denial, p.mask, p.mode, p.width, p.pendingSet, p.attn)

theorem reply_settings (s : State) (f : Frame) (code : Byte) (st : Status) (p : Payload) (i : PortId) :
    ((s.reply f code st p).port i).settings = (s.port i).settings := by
  by_cases h : i = f.port
  · subst h; rw [State.reply_port_same]; rfl
  · rw [State.reply_port_ne _ _ _ _ _ _ h]

theorem keepRate_settings (s : State) (j : PortId) (rate : BitVec 2) (i : PortId) :
    ((keepRate j rate s).port i).settings = (s.port i).settings := by
  by_cases h : i = j
  · subst h; rw [keepRate, State.port_setPort_same]; rfl
  · rw [keepRate, State.port_setPort_ne _ _ _ _ h]

/-- A restart keeps mask, mode and width, and clears the set and the line (R174). -/
theorem Port.atStartUp_settings (rate : BitVec 2) (p : Port) :
    (p.atStartUp .bayRestart rate).settings = (p.level, p.denial, p.mask, p.mode, p.width, 0#16, false) := by
  unfold Port.atStartUp
  dsimp only
  split <;> rfl

theorem checkMarker_attention (s : State) (i : PortId) :
    ((checkMarker s).port i).mask = (s.port i).mask ∧ ((checkMarker s).port i).mode = (s.port i).mode ∧
      ((checkMarker s).port i).width = (s.port i).width := by
  unfold checkMarker
  split
  · exact ⟨rfl, rfl, rfl⟩
  · cases i <;> exact ⟨rfl, rfl, rfl⟩

section

variable (s : State) (f : Frame) (straps : BitVec 2)

/-- The bay in the event of an accepted BAY_RESTART, its reply on its way. -/
def State.restarted : State := (keepRate f.port (s.port f.port).rate (startUp .bayRestart straps s)).reply f 0x60#8 .ok .nothing

theorem restarted_answers : (s.restarted f straps).answers f 0x60#8 .ok .nothing := reply_answers _ _ _ _ _

theorem restarted_startUp :
    s.restarted f straps = { startUp .bayRestart straps s with ports := (s.restarted f straps).ports } := by
  rw [State.restarted, State.reply, keepRate, State.setPort_setPort]
  rfl

theorem restarted_eq :
    s.restarted f straps =
      { startUp .powerOrPin straps s with
        time := { s.time with uptime := 0 }
        ports := (s.restarted f straps).ports
        deliveries :=
          { (checkMarker s).deliveries with
            entries := (checkMarker s).deliveries.entries.map (DeliveryEntry.afterStartUp s.stamp) } } :=
  (restarted_startUp s f straps).trans (by rw [startUp_bayRestart])

theorem restarted_settings (i : PortId) :
    ((s.restarted f straps).port i).settings =
      (((checkMarker s).port i).level, ((checkMarker s).port i).denial, (s.port i).mask, (s.port i).mode, (s.port i).width, 0#16,
        false) := by
  obtain ⟨hmask, hmode, hwidth⟩ := checkMarker_attention s i
  have hport : (startUp .bayRestart straps s).port i = ((checkMarker s).port i).atStartUp .bayRestart straps := by
    rw [startUp_bayRestart]
    exact Ports.get_map _ _ _
  rw [State.restarted, reply_settings, keepRate_settings, hport, Port.atStartUp_settings, hmask, hmode, hwidth]

/-- The level and the denial map of every port, and the open level, are those of the store (R170, R183). -/
theorem restarted_access (i : PortId) :
    ((s.restarted f straps).port i).level = ((checkMarker s).port i).level ∧
      ((s.restarted f straps).port i).denial = ((checkMarker s).port i).denial := by
  have h := restarted_settings s f straps i
  simp only [Port.settings, Prod.mk.injEq] at h
  obtain ⟨hlevel, hdenial, -⟩ := h
  exact ⟨hlevel, hdenial⟩

theorem restarted_openLevel : (s.restarted f straps).ports.openLevel = (checkMarker s).ports.openLevel := by
  unfold State.restarted
  rw [State.reply_openLevel, keepRate, startUp_bayRestart]
  exact Ports.set_openLevel _ _ _

theorem restarted_rate : ((s.restarted f straps).port f.port).rate = (s.port f.port).rate := by
  rw [State.restarted, State.reply_port_same, keepRate, State.port_setPort_same]
  rfl

theorem restarted_started : (s.restarted f straps).started straps := by
  rw [restarted_startUp]
  exact (startUp_started .bayRestart straps s).with_ports _

variable {s}

theorem restarted_keepsStore (hm : s.device.formatMarker = true) : s.keepsStore (s.restarted f straps) := by
  have haccess := restarted_access s f straps
  have hopen := restarted_openLevel s f straps
  rw [checkMarker_present hm] at haccess hopen
  rw [restarted_eq, checkMarker_present hm]
  exact (startUp_keepsStore (d := s.device) straps rfl hm).restarted rfl haccess hopen

theorem restarted_factoryStore (hm : s.device.formatMarker = false) : (s.restarted f straps).factoryStore := by
  have hmark : checkMarker s = writeFactory s := by simp [checkMarker, hm]
  have haccess := restarted_access s f straps
  have hopen := restarted_openLevel s f straps
  have hport : ∀ i, ((resetVolatile .powerOrPin straps (writeFactory s)).port i).level = ((writeFactory s).port i).level ∧
      ((resetVolatile .powerOrPin straps (writeFactory s)).port i).denial = ((writeFactory s).port i).denial := fun i => by
    rw [resetVolatile_port]
    exact ⟨rfl, rfl⟩
  rw [hmark] at haccess hopen
  rw [restarted_eq, startUp_of_no_marker _ _ hm, hmark]
  exact (resetVolatile_factoryStore straps s).restarted
    (fun i => ⟨(haccess i).1.trans (hport i).1.symm, (haccess i).2.trans (hport i).2.symm⟩) hopen

/-! ## The request (R173) -/

theorem lanesIn_eq_zero {p : LaneState → Bool} : s.lanesIn p = 0#8 ↔ ∀ l, p (s.lane l).state = false := by
  refine ⟨fun h l => ?_, fun h => set_ext fun l => ?_⟩
  · rw [← inSet_setOf (fun l => p (s.lane l).state) l]
    exact (congrArg (inSet · l) h).trans (inSet_zero l)
  · rw [State.lanesIn, inSet_setOf, h l, inSet_zero]

/-- BAY_RESTART is refused while a transaction is open or a discharge in progress. -/
theorem bayBusy_eq_false :
    s.bayBusy = false ↔
      (∀ l, (s.lane l).state.isOpen = false) ∧ ∀ e ∈ s.deliveries.entries, e.state.discharging = false := by
  rw [State.bayBusy, Bool.or_eq_false_iff, bne_eq_false_iff_eq, lanesIn_eq_zero]
  simp

theorem bayRestart_accepted (h : s.takes f (.bayRestart f straps) = true) (hb : s.bayBusy = false) :
    exec (.bayRestart f straps) s = .next (s.restarted f straps) :=
  congrArg Host.Outcome.next (serve_accepts h rfl (if_neg (Bool.eq_false_iff.1 hb)))

theorem bayRestart_refused (h : s.takes f (.bayRestart f straps) = true) (hb : s.bayBusy = true) :
    ∃ t, exec (.bayRestart f straps) s = .next t ∧ s.onlyAnswers t f 0x60#8 .wrongState .nothing :=
  ⟨_, rfl, serve_refused h rfl (if_pos hb)⟩

end

/-- Settles O11: an accepted restart leaves the store as a power-on does, with the clock and the attention settings kept. -/
theorem bayRestartKeepsClockAndAttention : Obligations.BayRestartKeepsClockAndAttention := by
  intro s f straps h
  refine ⟨fun hl hd => ?_, fun hbusy => ?_⟩
  · refine ⟨_, bayRestart_accepted f straps h (bayBusy_eq_false.2 ⟨hl, hd⟩), restarted_answers s f straps,
      restarted_started s f straps, by rw [restarted_eq], by rw [restarted_eq], restarted_rate s f straps,
      fun i => ?_, restarted_keepsStore f straps, restarted_factoryStore f straps, fun hm hctx => ?_, fun hm e he hs => ?_⟩
    · have hset := restarted_settings s f straps i
      simp only [Port.settings, Prod.mk.injEq] at hset
      obtain ⟨-, -, hattention⟩ := hset
      exact hattention
    · exact (restarted_keepsStore f straps hm).of_no_context fun l =>
        Option.isNone_iff_eq_none.1 (Option.isSome_eq_false_iff.1 ((hctx l).trans (hl l)))
    · rw [restarted_eq, checkMarker_present hm]
      refine List.mem_map.2 ⟨e, he, if_pos ?_⟩
      rw [hs]
      rfl
  · have hb : s.bayBusy = true := by
      by_contra hb
      obtain ⟨hl, hd⟩ := bayBusy_eq_false.1 (Bool.eq_false_iff.2 hb)
      rcases hbusy with ⟨l, hopen⟩ | ⟨e, he, hdis⟩
      · exact Bool.false_ne_true ((hl l).symm.trans hopen)
      · exact Bool.false_ne_true ((hd e he).symm.trans hdis)
    obtain ⟨t, ht, hans, hsame, hother, -⟩ := bayRestart_refused f straps h hb
    exact ⟨t, ht, hans, hsame, hother⟩

end Sys2Proof.Machine
end

section
/-! SET_SOURCE: the values that it takes, the source that it leaves, and what a map change of a TRIPPED source ends and closes (R86,
R149 to R152). -/

namespace Sys2Proof.Machine

section

variable {i : SourceId} {v : SourceSetting} {x : Source}

/-! ## The values that SET_SOURCE takes (R152) -/

/-- The flags must be flags, whatever the source (R192). -/
theorem sourceSettingOk_flags (h : sourceSettingOk i v = true) : v.enable ≤ 1 ∧ v.clearCount ≤ 1 := by
  by_contra hf
  have hbeyond : 1 < v.enable ∨ 1 < v.clearCount := by omega
  unfold sourceSettingOk at h
  rcases hbeyond with hb | hb
  · rw [flagOf_gt hb] at h
    exact Bool.false_ne_true h
  · rw [flagOf_gt hb] at h
    cases he : flagOf v.enable <;> rw [he] at h <;> exact Bool.false_ne_true h

/-- A source with a debounce count of its own: flags, debounce count and, of a HOSE source, the limit in range. -/
theorem sourceSettingOk_iff (he : i ≠ .estop) (hm : i ≠ .manual) :
    sourceSettingOk i v = true ↔
      (v.enable ≤ 1 ∧ v.clearCount ≤ 1) ∧ (1 ≤ v.debounce ∧ v.debounce ≤ 255) ∧ ((∃ l, i = .hose l) → v.hoseLimit ≤ 9999) := by
  refine (and_iff_right_of_imp sourceSettingOk_flags).symm.trans (and_congr_right fun ⟨hen, hcl⟩ => ?_)
  cases i with
  | estop => exact absurd rfl he
  | manual => exact absurd rfl hm
  | hose l => simp [sourceSettingOk, flagOf_le hen, flagOf_le hcl, within]
  | _ => simp [sourceSettingOk, flagOf_le hen, flagOf_le hcl, within]

/-- ESTOP takes only the values it has (R143, R152). -/
theorem sourceSettingOk_estop :
    sourceSettingOk .estop v = true ↔
      (v.enable ≤ 1 ∧ v.clearCount ≤ 1) ∧ v.enable = 1 ∧ v.debounce = 1 ∧ v.lanes = 0xFF#8 ∧ v.inlets = 0xFF#8 := by
  refine (and_iff_right_of_imp sourceSettingOk_flags).symm.trans (and_congr_right fun ⟨hen, hcl⟩ => ?_)
  simp [sourceSettingOk, flagOf_le hen, flagOf_le hcl, and_assoc]

/-- MANUAL is always enabled (R152). -/
theorem sourceSettingOk_manual :
    sourceSettingOk .manual v = true ↔ (v.enable ≤ 1 ∧ v.clearCount ≤ 1) ∧ v.enable = 1 := by
  refine (and_iff_right_of_imp sourceSettingOk_flags).symm.trans (and_congr_right fun ⟨hen, hcl⟩ => ?_)
  simp [sourceSettingOk, flagOf_le hen, flagOf_le hcl]

theorem sourceOf_beyond {n : Nat} (h : 29 < n) : sourceOf n = none :=
  List.getElem?_eq_none (show allSources.length ≤ n from h)

/-! ## The source under its new values (R149, R152) -/

/-- A source after a SET_SOURCE: its values replaced, and blanked where one of them asks for it. -/
def Source.changed (x : Source) (i : SourceId) (v : SourceSetting) : Source :=
  if x.blanksAgainst (x.configure i v) then (x.configure i v).blank else x.configure i v

/-- Blanking leaves the values and the state alone. -/
theorem changed_values (x : Source) (i : SourceId) (v : SourceSetting) :
    (x.changed i v).isTripped = x.isTripped ∧ (x.changed i v).enabled = decide (v.enable = 1) ∧
      (x.changed i v).debounce = (if usesDebounce i then v.debounce else x.debounce) ∧
      (x.changed i v).hoseLimit = (if usesHoseLimit i then v.hoseLimit else x.hoseLimit) ∧
      (x.changed i v).lanes = v.lanes ∧ (x.changed i v).inlets = v.inlets ∧
      (x.changed i v).tripCount = (if v.clearCount = 1 then 0 else x.tripCount) := by
  unfold Source.changed
  split <;> exact ⟨rfl, rfl, rfl, rfl, rfl, rfl, rfl⟩

theorem changed_debounce (hm : i ≠ .manual) : (x.changed i v).debounce = v.debounce := by
  obtain ⟨-, -, hdebounce, -⟩ := changed_values x i v
  rw [hdebounce, if_pos ((usesDebounce_iff i).2 hm)]

theorem changed_hoseLimit (l : Lane) : (x.changed (.hose l) v).hoseLimit = v.hoseLimit := by
  obtain ⟨-, -, -, hlimit, -⟩ := changed_values x (.hose l) v
  exact hlimit

/-- What makes a change of values start blanking (R149). -/
theorem blanksAgainst_iff (hm : i ≠ .manual) :
    x.blanksAgainst (x.configure i v) = true ↔
      (x.enabled ≠ decide (v.enable = 1) ∨ x.debounce ≠ v.debounce) ∨ ((∃ l, i = .hose l) ∧ x.hoseLimit ≠ v.hoseLimit) := by
  rw [← usesHoseLimit_iff]
  have hd := (usesDebounce_iff i).2 hm
  cases hu : usesHoseLimit i <;> simp [Source.blanksAgainst, Source.configure, hd, hu]

theorem changed_blanked (h : x.blanksAgainst (x.configure i v) = true) :
    (x.changed i v).run = 0 ∧ (x.changed i v).blanking = 4 := by
  rw [Source.changed, if_pos h]
  exact ⟨rfl, rfl⟩

theorem changed_unblanked (h : x.blanksAgainst (x.configure i v) = false) :
    (x.changed i v).run = x.run ∧ (x.changed i v).blanking = x.blanking := by
  rw [Source.changed, if_neg (Bool.eq_false_iff.1 h)]
  exact ⟨rfl, rfl⟩

/-- What the reply carries of a source with a debounce count (R143, R152). -/
theorem changed_reply (hm : i ≠ .manual) :
    (x.changed i v).values i =
      { enabled := (x.changed i v).enabled, debounce := some v.debounce,
        hoseLimit := if ∃ l, i = .hose l then some v.hoseLimit else none, lanes := v.lanes, inlets := v.inlets,
        isTripped := x.isTripped } := by
  obtain ⟨htrip, -, hdebounce, hlimit, hlanes, hinlets, -⟩ := changed_values x i v
  have hd := (usesDebounce_iff i).2 hm
  simp only [← usesHoseLimit_iff]
  rw [Source.values, htrip, hdebounce, hlimit, hlanes, hinlets, hd]
  cases usesHoseLimit i <;> rfl

/-- What the reply carries of ESTOP and of MANUAL, which has no debounce count. -/
theorem changed_reply_fixed (hi : i = .manual ∨ (i = .estop ∧ v.debounce = 1)) (he : v.enable = 1) :
    (x.changed i v).values i =
      { enabled := true, debounce := if i = .manual then none else some 1, hoseLimit := none, lanes := v.lanes,
        inlets := v.inlets, isTripped := x.isTripped } := by
  obtain ⟨htrip, henabled, hdebounce, -, hlanes, hinlets, -⟩ := changed_values x i v
  rw [Source.values, htrip, henabled, hdebounce, hlanes, hinlets, he]
  rcases hi with rfl | ⟨rfl, hd⟩
  · rfl
  · rw [hd]
    rfl

end

section

variable {s : State} {f : Frame} {n : Nat} {i : SourceId} {v : SourceSetting}

/-! ## The bay after a SET_SOURCE (R151, R152) -/

theorem changeSource_tripped (h : (s.source i).isTripped = true) :
    changeSource i v s =
      blockAll (s.newlyBlocked (v.lanes &&& ~~~(s.source i).lanes)) (s.newlyBlockedInlets (v.inlets &&& ~~~(s.source i).inlets))
        (s.setSource i ((s.source i).changed i v)) := if_pos h

theorem changeSource_clear (h : (s.source i).isTripped = false) :
    changeSource i v s = s.setSource i ((s.source i).changed i v) := if_neg (Bool.eq_false_iff.1 h)

theorem changeSource_spill (i : SourceId) (v : SourceSetting) (s : State) :
    (changeSource i v s).spill = (s.setSource i ((s.source i).changed i v)).spill := by
  cases h : (s.source i).isTripped with
  | false => rw [changeSource_clear h]
  | true => rw [changeSource_tripped h, blockAll_spill]

theorem changeSource_source (i j : SourceId) (v : SourceSetting) (s : State) :
    (changeSource i v s).source j = if j = i then (s.source i).changed i v else s.source j :=
  source_of_sources (by rw [changeSource_spill]; rfl) j

theorem changeSource_self (i : SourceId) (v : SourceSetting) (s : State) :
    (changeSource i v s).source i = (s.source i).changed i v := by rw [changeSource_source, if_pos rfl]

/-- A close, an end of a lane and a block post no TRIP. -/
theorem closeLane_trip (l : Lane) (s : State) (j : PortId) :
    holdsKind ((closeLane l s).port j).pendingSet .trip = holdsKind (s.port j).pendingSet .trip := by
  cases hc : (s.lane l).ctx with
  | none => rw [closeLane_none hc]
  | some c =>
    rw [closeLane_holdsKind hc, closeOrder_holdsKind _ _ _ _ (by decide), closeBooking_holdsKind _ _ _ _ _ (by decide)]
    simp

theorem endLane_trip (l : Lane) (r : EndReason) (s : State) (j : PortId) :
    holdsKind ((endLane l r s).port j).pendingSet .trip = holdsKind (s.port j).pendingSet .trip := by
  rcases endLane_cases l r s with ⟨_, e⟩ | ⟨_, e⟩ | ⟨_, e⟩ <;> rw [e]
  · rw [closeLane_trip]; rfl
  · rw [State.port, dropDemand_ports]; rfl

theorem blockAll_trip (ls : LaneSet) (ts : TankSet) (s : State) (j : PortId) :
    holdsKind ((blockAll ls ts s).port j).pendingSet .trip = holdsKind (s.port j).pendingSet .trip := by
  rw [blockAll, State.port, blockInlets_ports]
  exact foldl_keeps (fun s => holdsKind (s.port j).pendingSet .trip) _
    (fun s l => by split <;> [exact endLane_trip l .spill s j; rfl]) _ s

theorem changeSource_trip (i : SourceId) (v : SourceSetting) (s : State) (j : PortId) :
    holdsKind ((changeSource i v s).port j).pendingSet .trip = holdsKind (s.port j).pendingSet .trip := by
  cases h : (s.source i).isTripped with
  | false => rw [changeSource_clear h]; rfl
  | true => rw [changeSource_tripped h, blockAll_trip]; rfl

/-! ## What a map change of a TRIPPED source newly blocks (R86, R151, R152) -/

section Tripped

variable (h : (s.source i).isTripped = true)

include h

/-- What was not blocked is not in the old map, so the sets that act are those of the new map less what is blocked. -/
theorem newlyBlocked_iff (l : Lane) :
    inSet (s.newlyBlocked (v.lanes &&& ~~~(s.source i).lanes)) l = (inSet v.lanes l && !s.laneBlocked l) := by
  have hold : inSet (s.source i).lanes l = true → s.laneBlocked l = true := fun hl => (laneBlocked_iff s l).2 ⟨i, h, hl⟩
  simp only [State.newlyBlocked, inSet_and, inSet_not, inSet_setOf]
  cases hl : inSet (s.source i).lanes l with
  | false => simp
  | true => simp [hold hl]

theorem newlyBlockedInlets_iff (k : Tank) :
    inSet (s.newlyBlockedInlets (v.inlets &&& ~~~(s.source i).inlets)) k = (inSet v.inlets k && !s.inletBlocked k) := by
  have hold : inSet (s.source i).inlets k = true → s.inletBlocked k = true := fun hk => (inletBlocked_iff s k).2 ⟨i, h, hk⟩
  simp only [State.newlyBlockedInlets, inSet_and, inSet_not, inSet_setOf]
  cases hk : inSet (s.source i).inlets k with
  | false => simp
  | true => simp [hold hk]

theorem changeSource_lane (l : Lane) :
    (changeSource i v s).lane l =
      if inSet v.lanes l && !s.laneBlocked l then (endLane l .spill s).lane l else s.lane l := by
  rw [changeSource_tripped h, blockAll_lane, newlyBlocked_iff h,
    endLane_lane_congr l .spill (show (s.setSource i ((s.source i).changed i v)).lane l = s.lane l from rfl)]
  rfl

theorem changeSource_records :
    ∃ xs, (changeSource i v s).records.completed = s.records.completed ++ xs ∧
      s.endsLanes (changeSource i v s) (fun l => inSet v.lanes l && !s.laneBlocked l) .spill xs := by
  obtain ⟨xs, hx, hends⟩ := endLanes_endsLanes (s.newlyBlocked (v.lanes &&& ~~~(s.source i).lanes)) .spill
    (s.setSource i ((s.source i).changed i v))
  rw [funext (newlyBlocked_iff h)] at hends
  rw [changeSource_tripped h]
  refine ⟨xs, ?_, endsLanes_congr rfl ?_ hends⟩
  · rw [blockAll, blockInlets_records]; exact hx
  · rw [blockAll, blockInlets_lanes]

theorem changeSource_deliveries :
    (changeSource i v s).deliveries =
      { s.deliveries with
        entries :=
          s.deliveries.entries.map
            (DeliveryEntry.interruptedAt (fun k => inSet v.inlets k && !s.inletBlocked k) s.stamp) } := by
  have hstamp : ∀ ls, (endLanes ls .spill (s.setSource i ((s.source i).changed i v))).stamp = s.stamp := fun ls => by
    simp only [State.stamp, endLanes_time]; rfl
  rw [changeSource_tripped h, blockAll, blockInlets_deliveries, endLanes_deliveries, hstamp, funext (newlyBlockedInlets_iff h)]
  rfl

theorem changeSource_inlet {k : Tank} (hk : inSet v.inlets k = true) (hb : s.inletBlocked k = false) :
    ((changeSource i v s).tank k).inlet = false := by
  rw [changeSource_tripped h]
  exact blockAll_closed _ _ (by rw [newlyBlockedInlets_iff h, hk, hb]; rfl)

/-- The source stays TRIPPED, so it blocks all that its new map names. -/
theorem changeSource_blocks :
    (∀ l, inSet v.lanes l = true → (changeSource i v s).laneBlocked l = true) ∧
      ∀ k, inSet v.inlets k = true → (changeSource i v s).inletBlocked k = true := by
  obtain ⟨htrip, -, -, -, hlanes, hinlets, -⟩ := changed_values (s.source i) i v
  have hself := changeSource_self i v s
  refine ⟨fun l hl => (laneBlocked_iff _ l).2 ⟨i, ?_, ?_⟩, fun k hk => (inletBlocked_iff _ k).2 ⟨i, ?_, ?_⟩⟩
  · rw [hself, htrip, h]
  · rw [hself, hlanes, hl]
  · rw [hself, htrip, h]
  · rw [hself, hinlets, hk]

end Tripped

/-! ## The requests served -/

theorem setSource_accepted (h : s.takes f (.setSource f n v) = true) (hn : sourceOf n = some i)
    (hok : sourceSettingOk i v = true) :
    exec (.setSource f n v) s =
      .next ((changeSource i v s).reply f 0x5A#8 .ok (.sourceSet (((s.source i).changed i v).values i))) := by
  refine congrArg Host.Outcome.next (serve_accepts h rfl ((onSource_of hn _).trans ((if_pos hok).trans ?_)))
  dsimp only
  rw [changeSource_self]

theorem setSource_refused (h : s.takes f (.setSource f n v) = true) (hn : sourceOf n = some i)
    (hok : sourceSettingOk i v ≠ true) :
    ∃ t, exec (.setSource f n v) s = .next t ∧ s.onlyAnswers t f 0x5A#8 .range .nothing :=
  ⟨_, rfl, serve_refused h rfl ((onSource_of hn _).trans (if_neg hok))⟩

theorem onSource_of_none (h : sourceOf n = none) (act : SourceId → State → Answer) : onSource n act s = .refuse s .range := by
  unfold onSource
  rw [h]

end

/-- Settles O51: the checks of each kind of source; then the changed source, and what its new map adds where it is TRIPPED. -/
theorem setSourceKeepsItsState : Obligations.SetSourceKeepsItsState := by
  intro s f
  refine ⟨fun n i v hn h => ⟨fun hes hma hen hcl hlo hhi hlim => ?_, fun hes hma hbad => ?_, fun hi hen hcl => ?_,
    fun hi hbad => ?_, fun hi hbad => ?_⟩, fun n v hn h => ?_, fun m h => ⟨fun hm => ?_, fun hm => ?_⟩⟩
  · have hok := (sourceSettingOk_iff hes hma).2 ⟨⟨hen, hcl⟩, ⟨hlo, hhi⟩, fun _ => hlim⟩
    have hself := changeSource_self i v s
    obtain ⟨htrip, henabled, -, -, hlanes, hinlets, hcount⟩ := changed_values (s.source i) i v
    have hblank := blanksAgainst_iff (x := s.source i) (v := v) hma
    obtain ⟨t, ht⟩ : ∃ t, t = (changeSource i v s).reply f 0x5A#8 .ok (.sourceSet (((s.source i).changed i v).values i)) :=
      ⟨_, rfl⟩
    have hsource : ∀ j, t.source j = (changeSource i v s).source j := fun j => by rw [ht]; rfl
    refine ⟨t, (setSource_accepted h hn hok).trans (by rw [ht]), ?_⟩
    rw [hsource i, hself]
    refine ⟨?_, htrip, henabled, changed_debounce hma, hlanes, hinlets, hcount, fun j hj => ?_, fun hc => ?_, fun l hl => ?_,
      fun h1 h2 h3 => ?_, fun hclear => ?_, ?_, fun j => ?_, fun htripped => ?_⟩
    · rw [ht, changed_reply hma]
      exact reply_answers _ _ _ _ _
    · rw [hsource, changeSource_source, if_neg hj]
    · exact changed_blanked (hblank.2 (Or.inl hc))
    · subst hl
      exact ⟨changed_hoseLimit l, fun hc => changed_blanked (hblank.2 (Or.inr ⟨⟨l, rfl⟩, hc⟩))⟩
    · refine changed_unblanked (Bool.eq_false_iff.2 fun hb => ?_)
      rcases hblank.1 hb with (hc | hc) | ⟨-, hc⟩
      · exact hc h1
      · exact hc h2
      · exact hc h3
    · rw [ht, changeSource_clear hclear]
      rfl
    · have hspill : t.spill = (changeSource i v s).spill := by rw [ht]; rfl
      rw [hspill, changeSource_spill]
      rfl
    · rw [ht, reply_pendingSet, changeSource_trip]
    · obtain ⟨hlb, hib⟩ := changeSource_blocks (v := v) htripped
      obtain ⟨xs, hx, hends⟩ := changeSource_records (v := v) htripped
      have hlane := changeSource_lane (v := v) htripped
      subst ht
      refine ⟨fun l hl hb => ⟨hlb l hl, ?_⟩, fun l hl => ?_, ⟨xs, hx, endsLanes_congr rfl rfl hends⟩,
        fun k hk hb => ⟨hib k hk, changeSource_inlet htripped hk hb⟩, changeSource_deliveries htripped⟩
      · rw [reply_lane, hlane, if_pos (by rw [hl, hb]; rfl)]
        exact endLane_not_endedByTrip _ _ _
      · rw [reply_lane, hlane, if_neg (by simpa using hl)]
  · refine setSource_refused h hn fun hok => ?_
    obtain ⟨⟨hen, hcl⟩, ⟨hlo, hhi⟩, hlim⟩ := (sourceSettingOk_iff hes hma).1 hok
    rcases hbad with hb | hb | hb | hb | ⟨hb, hl⟩
    · omega
    · omega
    · omega
    · omega
    · exact absurd (hlim hl) (Nat.not_le.2 hb)
  · have hok : sourceSettingOk i v = true := by
      rcases hi with rfl | ⟨rfl, hd, hl, hk⟩
      · exact sourceSettingOk_manual.2 ⟨⟨hen.le, hcl⟩, hen⟩
      · exact sourceSettingOk_estop.2 ⟨⟨hen.le, hcl⟩, hen, hd, hl, hk⟩
    have hself := changeSource_self i v s
    obtain ⟨htrip, -, -, -, hlanes, hinlets, hcount⟩ := changed_values (s.source i) i v
    refine ⟨_, setSource_accepted h hn hok, ?_, (congrArg Source.isTripped hself).trans htrip,
      (congrArg Source.lanes hself).trans hlanes, (congrArg Source.inlets hself).trans hinlets,
      (congrArg Source.tripCount hself).trans hcount, fun j hj => (changeSource_source i j v s).trans (if_neg hj)⟩
    rw [changed_reply_fixed (hi.imp_right fun ⟨hestop, hd, _⟩ => ⟨hestop, hd⟩) hen]
    exact reply_answers _ _ _ _ _
  · subst hi
    refine setSource_refused h hn fun hok => ?_
    obtain ⟨-, hen, hd, hl, hk⟩ := sourceSettingOk_estop.1 hok
    rcases hbad with hb | hb | hb | hb
    · omega
    · exact hb hd
    · exact hb hl
    · exact hb hk
  · subst hi
    refine setSource_refused h hn fun hok => ?_
    obtain ⟨-, hen⟩ := sourceSettingOk_manual.1 hok
    omega
  · exact ⟨_, rfl, serve_refused h rfl (onSource_of_none (sourceOf_beyond hn) _)⟩
  · exact ⟨_, congrArg Host.Outcome.next (serve_accepts h rfl (if_pos hm)), reply_answers _ _ _ _ _, (reply_ports rfl f _ _ _).1,
      rfl⟩
  · exact ⟨_, rfl, serve_refused h rfl (if_neg (Nat.not_le.2 hm))⟩

end Sys2Proof.Machine
end

section
/-! READ_ACCOUNTS and SET_CURSOR: where a walk of the account table stops, and the one cursor that it moves (R111, R112). -/

namespace Sys2Proof.Machine

/-! ## Where a walk stops (R111) -/

section

variable {met : List (Nat × Account)} {n : Nat} {more : Nat → Prop} {next : Nat → Nat} {home : Nat} {e : Nat × Account}

/-- A walk that met these entries goes on from the slot next to the last of them where it met its count with more slots to scan, and
else carries END and goes home. -/
def WalkStops (met : List (Nat × Account)) (n : Nat) (more : Nat → Prop) (next : Nat → Nat) (home : Nat)
    (w : List (Nat × Account) × Bool × Nat) : Prop :=
  w.1 = met ∧ (w.2.1 = false ↔ met.length = n ∧ ∃ e, met.getLast? = some e ∧ more e.1) ∧ (w.2.1 = true → w.2.2 = home) ∧
    (w.2.1 = false → ∀ e, met.getLast? = some e → w.2.2 = next e.1)

theorem walkStops_none (hlast : met.getLast? = none) : WalkStops met n more next home (met, true, home) := by
  refine ⟨rfl, iff_of_false (fun h => (nomatch h)) fun ⟨_, e, he, _⟩ => ?_, fun _ => rfl, fun h => (nomatch h)⟩
  rw [hlast] at he
  cases he

theorem walkStops_last [DecidablePred more] (hlast : met.getLast? = some e) :
    WalkStops met n more next home
      (if met.length = n ∧ more e.1 then (met, false, next e.1) else (met, true, home)) := by
  have hunique : ∀ d, met.getLast? = some d → d = e := fun d hd => Option.some.inj (hd.symm.trans hlast)
  split
  · rename_i h
    obtain ⟨hn, hmore⟩ := h
    exact ⟨rfl, iff_of_true rfl ⟨hn, e, hlast, hmore⟩, fun h => (nomatch h), fun _ d hd => hunique d hd ▸ rfl⟩
  · rename_i h
    exact ⟨rfl, iff_of_false (fun h => (nomatch h)) fun ⟨hn, d, hd, hmore⟩ => h ⟨hn, hunique d hd ▸ hmore⟩, fun _ => rfl,
      fun h => (nomatch h)⟩

theorem walkUp_stops (slots : List (Nat × Account)) (cursor n : Nat) :
    WalkStops ((slots.filter (fun e => decide (cursor ≤ e.1))).take n) n (fun i => i < 255) (fun i => i + 1) 0
      (walkUp slots cursor n) := by
  unfold walkUp
  dsimp only
  split
  · rename_i hlast
    exact walkStops_last hlast
  · rename_i hlast
    exact walkStops_none hlast

theorem walkDown_stops (slots : List (Nat × Account)) (cursor n : Nat) :
    WalkStops ((slots.filter (fun e => decide (e.1 ≤ cursor))).reverse.take n) n (fun i => 0 < i) (fun i => i - 1) 255
      (walkDown slots cursor n) := by
  unfold walkDown
  dsimp only
  split
  · rename_i hlast
    exact walkStops_last hlast
  · rename_i hlast
    exact walkStops_none hlast

end

/-! ## The cursor of a port (R112) -/

section

variable {s : State} {f : Frame} {d n : Nat}

/-- A cursor set and the reply after it change nothing else. -/
theorem setCursor_reply (s : State) (f : Frame) (cursor : Nat) (code : Byte) (st : Status) (p : Payload) :
    s.sameButPorts ((s.setCursor f.port cursor).reply f code st p) ∧
      s.otherPorts ((s.setCursor f.port cursor).reply f code st p) f.port ∧
      (((s.setCursor f.port cursor).reply f code st p).port f.port).cursor = cursor ∧
      ({ s.port f.port with cursor := cursor } : Port).replying (((s.setCursor f.port cursor).reply f code st p).port f.port) := by
  have hself : ((s.setCursor f.port cursor).reply f code st p).port f.port =
      ({ s.port f.port with cursor := cursor } : Port).send { seq := f.seq, code := code ||| 0x80#8, status := st, payload := p } := by
    rw [State.reply_port_same, State.setCursor, State.port_setPort_same]
  refine ⟨rfl, ⟨fun j hj => ?_, ?_⟩, ?_, ?_⟩
  · rw [State.reply_port_ne _ _ _ _ _ _ hj, State.setCursor, State.port_setPort_ne _ _ _ _ hj]
  · rw [State.reply_openLevel]
    exact Ports.set_openLevel _ _ _
  · rw [hself]
    rfl
  · rw [hself]
    rfl

/-- A walk leads to its reply and to the cursor that it stops with. -/
theorem readAccounts_walks {down : Bool} (hd : flagOf d = some down) (hlo : 1 ≤ n) (hhi : n ≤ 4)
    (h : s.takes f (.readAccounts f d n) = true) {w : List (Nat × Account) × Bool × Nat}
    (hw : w = if down then walkDown s.accounts.slots (s.port f.port).cursor n else walkUp s.accounts.slots (s.port f.port).cursor n) :
    exec (.readAccounts f d n) s = .next ((s.setCursor f.port w.2.2).reply f 0x09#8 .ok (.accounts w.1 w.2.1)) := by
  refine congrArg Host.Outcome.next (serve_accepts h rfl ?_)
  rw [readAccountsAnswer, hd, hw]
  exact if_pos ((within_iff _ _ _).2 ⟨hlo, hhi⟩)

/-- What a walk is answered with, and what it leaves, follow from where it stops. -/
theorem walk_answered {met : List (Nat × Account)} {more : Nat → Prop} {next : Nat → Nat} {home : Nat}
    {w : List (Nat × Account) × Bool × Nat} (hw : WalkStops met n more next home w) {c : Instr}
    (he : exec c s = .next ((s.setCursor f.port w.2.2).reply f 0x09#8 .ok (.accounts w.1 w.2.1))) :
    ∃ t es last, exec c s = .next t ∧ s.sameButPorts t ∧ s.otherPorts t f.port ∧
      ({ s.port f.port with cursor := (t.port f.port).cursor } : Port).replying (t.port f.port) ∧
      t.answers f 0x09#8 .ok (.accounts es last) ∧ es = met ∧
      (last = false ↔ es.length = n ∧ ∃ e, es.getLast? = some e ∧ more e.1) ∧
      (last = true → (t.port f.port).cursor = home) ∧
      (last = false → ∀ e, es.getLast? = some e → (t.port f.port).cursor = next e.1) := by
  obtain ⟨hmet, hlast, hend, hgo⟩ := hw
  obtain ⟨hports, hothers, hcursor, hown⟩ := setCursor_reply s f w.2.2 0x09#8 .ok (.accounts w.1 w.2.1)
  refine ⟨_, w.1, w.2.1, he, hports, hothers, by rw [hcursor]; exact hown, reply_answers _ _ _ _ _, hmet, ?_⟩
  rw [hcursor, hmet]
  exact ⟨hlast, hend, hgo⟩

/-- A direction or a count out of its range is refused (R111, R192). -/
theorem readAccountsAnswer_range (h : 1 < d ∨ n = 0 ∨ 4 < n) (i : PortId) : readAccountsAnswer i d n s = .refuse s .range := by
  unfold readAccountsAnswer
  split
  · rfl
  · rename_i down hd
    refine if_neg fun hin => ?_
    have hn := (within_iff _ _ _).1 hin
    rcases h with h | h | h
    · rw [flagOf_gt h] at hd
      cases hd
    · omega
    · omega

end

/-- Settles O36: the walk of each direction stops where `WalkStops` says, and its reply sets the cursor of its port alone. -/
theorem accountWalkMovesOneCursor : Obligations.AccountWalkMovesOneCursor := by
  intro s f
  refine ⟨fun n hlo hhi h => ?_, fun n hlo hhi h => ?_, fun n h => ⟨fun hn => ?_, fun hn => ?_⟩, fun d n h hbad => ?_⟩
  · exact walk_answered (walkUp_stops _ _ _) (readAccounts_walks rfl hlo hhi h rfl)
  · exact walk_answered (walkDown_stops _ _ _) (readAccounts_walks rfl hlo hhi h rfl)
  · obtain ⟨hports, hothers, -, hown⟩ := setCursor_reply s f n 0x0A#8 .ok .nothing
    exact ⟨_, congrArg Host.Outcome.next (serve_accepts h rfl (if_pos hn)), hports, hothers, reply_answers _ _ _ _ _, hown⟩
  · exact ⟨_, rfl, serve_refused h rfl (if_neg (Nat.not_le.2 hn))⟩
  · exact ⟨_, rfl, serve_refused h rfl (readAccountsAnswer_range hbad _)⟩

end Sys2Proof.Machine
end

section
/-! ENROL_MACHINE, RETIRE_MACHINE and SET_MACHINE: the values that they take, the slot that each writes or frees, and the service
items that SET_MACHINE leaves (R93, R95 to R99). -/

namespace Sys2Proof.Machine

/-! ## The values in range (R96) -/

section

variable {v : ItemSetting} {x : ServiceItem} {vs : List ItemSetting} {is : List ServiceItem}

theorem eightOf_eq_some {n : Nat} {k : Fin 8} (h : eightOf n = some k) : k.val = n := by
  unfold eightOf at h
  split at h
  · cases h; rfl
  · cases h

/-- The ranges of a service item (R93, R96). -/
def itemInRange (v : ItemSetting) : Prop :=
  v.tank ≤ 7 ∧ (10 ≤ v.interval ∧ v.interval ≤ 50000) ∧ (1 ≤ v.minimum ∧ v.minimum ≤ 2000000) ∧
    ∀ h, v.base = some h → h ≤ 9999999

theorem itemOf_eq_some (h : itemOf v = some x) : itemInRange v ∧ x.tank.val = v.tank ∧ x.due = false := by
  unfold itemOf at h
  split at h
  · cases h
  · rename_i k hk
    split at h
    · rename_i hin
      cases h
      simp only [Bool.and_eq_true, within_iff] at hin
      obtain ⟨⟨hinterval, hminimum⟩, hbase⟩ := hin
      have htank := eightOf_eq_some hk
      refine ⟨⟨by omega, hinterval, hminimum, fun b hb => ?_⟩, htank, rfl⟩
      rw [hb] at hbase
      exact of_decide_eq_true hbase
    · cases h

/-- A list of items read is read item by item. -/
theorem itemsRead_forall₂ (h : itemsRead vs = some is) : List.Forall₂ (fun v x => itemOf v = some x) vs is := by
  induction vs generalizing is with
  | nil => cases h; exact .nil
  | cons v rest ih =>
    unfold itemsRead at h
    split at h
    · rename_i x xs hx hxs
      cases h
      exact .cons hx (ih hxs)
    · cases h

theorem tanksDistinct_iff : tanksDistinct is = true ↔ (is.map (fun x => x.tank)).Nodup := by
  induction is with
  | nil => simp [tanksDistinct]
  | cons x rest ih => simp [tanksDistinct, ih]

/-- The items of a list that is read, and the tanks that they name. -/
theorem itemsRead_spec (h : List.Forall₂ (fun v x => itemOf v = some x) vs is) :
    (∀ v ∈ vs, itemInRange v) ∧ (∀ x ∈ is, x.due = false) ∧
      vs.map (fun v => v.tank) = (is.map (fun x => x.tank)).map (fun k => k.val) := by
  induction h with
  | nil => simp
  | cons hx _ ih =>
    obtain ⟨hv, htank, hdue⟩ := itemOf_eq_some hx
    obtain ⟨hvs, hdues, htanks⟩ := ih
    refine ⟨List.forall_mem_cons.2 ⟨hv, hvs⟩, List.forall_mem_cons.2 ⟨hdue, hdues⟩, ?_⟩
    rw [List.map_cons, List.map_cons, List.map_cons, htank, htanks]

theorem itemsOf_eq_some (h : itemsOf vs = some is) :
    (vs.length ≤ 4 ∧ (vs.map (fun v => v.tank)).Nodup ∧ ∀ v ∈ vs, itemInRange v) ∧ ∀ x ∈ is, x.due = false := by
  unfold itemsOf at h
  split at h
  · cases h
  · rename_i xs hxs
    split at h
    · rename_i hin
      cases h
      obtain ⟨hvs, hdue, htanks⟩ := itemsRead_spec (itemsRead_forall₂ hxs)
      simp only [Bool.and_eq_true, decide_eq_true_eq, tanksDistinct_iff] at hin
      obtain ⟨hlength, hnodup⟩ := hin
      refine ⟨⟨hlength, ?_, hvs⟩, hdue⟩
      rw [htanks]
      exact hnodup.map Fin.val_injective
    · cases h

theorem machineClassOf_none {cls : Nat} (h : 5 < cls) : machineClassOf cls = none := by
  obtain ⟨m, rfl⟩ : ∃ m, cls = m + 6 := ⟨cls - 6, by omega⟩
  rfl

/-- Values that pass step 1 of R96 lie in their ranges. -/
theorem machineValues_inRange {cls capacity : Nat} {y : MachineClass × List ServiceItem}
    (h : machineValues cls capacity vs = some y) :
    cls ≤ 5 ∧ (1 ≤ capacity ∧ capacity ≤ 2000000) ∧ vs.length ≤ 4 ∧ (vs.map (fun v => v.tank)).Nodup ∧ ∀ v ∈ vs, itemInRange v := by
  unfold machineValues at h
  split at h
  · rename_i c is hc his
    split at h
    · rename_i hcap
      obtain ⟨hitems, -⟩ := itemsOf_eq_some his
      refine ⟨Nat.le_of_not_lt fun hcls => ?_, (within_iff _ _ _).1 hcap, hitems⟩
      rw [machineClassOf_none hcls] at hc
      cases hc
    · cases h
  · cases h

/-- One value out of its range, and the values do not pass (R96, R98). -/
theorem machineValues_none {cls capacity : Nat}
    (h : 5 < cls ∨ capacity = 0 ∨ 2000000 < capacity ∨ 4 < vs.length ∨ ¬(vs.map (fun v => v.tank)).Nodup ∨
      ∃ v ∈ vs, 7 < v.tank ∨ v.interval < 10 ∨ 50000 < v.interval ∨ v.minimum = 0 ∨ 2000000 < v.minimum ∨
        ∃ h, v.base = some h ∧ 9999999 < h) :
    machineValues cls capacity vs = none := by
  refine Option.eq_none_iff_forall_ne_some.2 fun y hy => ?_
  obtain ⟨hcls, hcap, hlength, hnodup, hitems⟩ := machineValues_inRange hy
  rcases h with h | h | h | h | h | ⟨v, hv, h⟩
  · omega
  · omega
  · omega
  · omega
  · exact h hnodup
  · obtain ⟨htank, hinterval, hminimum, hbase⟩ := hitems v hv
    rcases h with h | h | h | h | h | ⟨b, hb, h⟩
    · omega
    · omega
    · omega
    · omega
    · omega
    · exact Nat.not_lt.2 (hbase b hb) h

theorem machineValues_eq {cls capacity : Nat} {c : MachineClass} (hc : machineClassOf cls = some c) (hi : itemsOf vs = some is)
    (hlo : 1 ≤ capacity) (hhi : capacity ≤ 2000000) : machineValues cls capacity vs = some (c, is) := by
  unfold machineValues
  rw [hc, hi]
  exact if_pos ((within_iff _ _ _).2 ⟨hlo, hhi⟩)

end

/-! ## One slot written (R93, R95, R96) -/

section

variable {i : Nat} {a : Account} {xs : List (Nat × Account)}

theorem mem_putSlot_self (i : Nat) (a : Account) (xs : List (Nat × Account)) : (i, a) ∈ putSlot i a xs := by
  induction xs with
  | nil => exact List.mem_singleton_self _
  | cons e rest ih =>
    unfold putSlot
    split
    · exact List.mem_cons_self
    · split
      · exact List.mem_cons_self
      · exact List.mem_cons_of_mem _ ih

/-- The entries of the other slots are those that were there. -/
theorem mem_putSlot_of_ne {e : Nat × Account} (h : e.1 ≠ i) : e ∈ putSlot i a xs ↔ e ∈ xs := by
  have hne : e ≠ (i, a) := fun he => h (congrArg Prod.fst he)
  induction xs with
  | nil => simp [putSlot, hne]
  | cons d rest ih =>
    unfold putSlot
    split
    · simp [hne]
    · split
      · rename_i hd
        have hne' : e ≠ d := fun he => h ((congrArg Prod.fst he).trans hd.symm)
        simp [hne, hne']
      · rw [List.mem_cons, List.mem_cons]
        exact or_congr_right ih

/-- A free slot written adds its entry to the table. -/
theorem mem_putSlot_of_free (h : ∀ e ∈ xs, e.1 ≠ i) (e : Nat × Account) : e ∈ putSlot i a xs ↔ e = (i, a) ∨ e ∈ xs := by
  induction xs with
  | nil => simp [putSlot]
  | cons d rest ih =>
    obtain ⟨hd, hrest⟩ := List.forall_mem_cons.1 h
    unfold putSlot
    split
    · exact List.mem_cons
    · rw [if_neg fun he => hd he.symm, List.mem_cons, ih hrest, List.mem_cons]
      exact or_left_comm

theorem slotTaken_iff : slotTaken xs i = true ↔ ∃ e ∈ xs, e.1 = i := by simp [slotTaken]

theorem slotTaken_eq_false : slotTaken xs i = false ↔ ∀ e ∈ xs, e.1 ≠ i := by simp [slotTaken]

/-- The free way of a bucket is the lowest of its four slots that no entry holds (R96). -/
theorem freeWay_eq_some {tag : Tag} {w : Nat} (hw : w < 4) (hfree : ∀ e ∈ xs, e.1 ≠ bucketOf tag * 4 + w)
    (htaken : ∀ v, v < w → ∃ e ∈ xs, e.1 = bucketOf tag * 4 + v) : freeWay xs tag = some (bucketOf tag * 4 + w) := by
  have hfind : (List.range 4).find? (fun v => !slotTaken xs (bucketOf tag * 4 + v)) = some w :=
    List.find?_range_eq_some.2 ⟨by rw [slotTaken_eq_false.2 hfree]; rfl, List.mem_range.2 hw, fun v hv => by
      rw [slotTaken_iff.2 (htaken v hv)]; rfl⟩
  show ((List.range 4).map (fun w => bucketOf tag * 4 + w)).find? _ = _
  rw [List.find?_map]
  exact congrArg (Option.map fun w => bucketOf tag * 4 + w) hfind

theorem freeWay_eq_none {tag : Tag} (h : ∀ w, w < 4 → ∃ e ∈ xs, e.1 = bucketOf tag * 4 + w) : freeWay xs tag = none := by
  refine List.find?_eq_none.2 fun i hi => ?_
  obtain ⟨w, hw, rfl⟩ := List.mem_map.1 hi
  have hlt : w < 4 := List.mem_range.1 (show w ∈ List.range 4 from hw)
  rw [slotTaken_iff.2 (h w hlt)]
  exact Bool.false_ne_true

end

/-! ## The items of a SET_MACHINE (R99) -/

section

variable {present : List ServiceItem} {x : ServiceItem}

@[simp] theorem mergeItem_tank (present : List ServiceItem) (x : ServiceItem) : (mergeItem present x).tank = x.tank := by
  unfold mergeItem
  split
  · rfl
  · split <;> rfl

theorem mergeItem_of_base (h : x.base.isSome = true) : mergeItem present x = x := by
  obtain ⟨b, hb⟩ := Option.isSome_iff_exists.1 h
  unfold mergeItem
  rw [hb]

theorem mergeItem_of_absent (hx : x.base = none) (h : ∀ y ∈ present, y.tank ≠ x.tank) : mergeItem present x = x := by
  have hfind : present.find? (fun y => decide (y.tank = x.tank)) = none :=
    List.find?_eq_none.2 fun y hy => by rw [decide_eq_true_eq]; exact h y hy
  unfold mergeItem
  rw [hx, hfind]

theorem mergeItem_of_present {y : ServiceItem} (hx : x.base = none) (hy : y ∈ present) (ht : y.tank = x.tank)
    (h : ∀ w ∈ present, w.tank = x.tank → w = y) : mergeItem present x = { x with base := y.base, due := y.due } := by
  have hfind : present.find? (fun y => decide (y.tank = x.tank)) = some y := by
    obtain ⟨w, hw⟩ := Option.isSome_iff_exists.1
      (List.find?_isSome (p := fun y : ServiceItem => decide (y.tank = x.tank)).2 ⟨y, hy, decide_eq_true ht⟩)
    rw [hw, h w (List.mem_of_find?_eq_some hw) (of_decide_eq_true (List.find?_some (p := fun y : ServiceItem =>
      decide (y.tank = x.tank)) hw))]
  unfold mergeItem
  rw [hx, hfind]

/-- The items of a changed entry: one for each that the request carries, in its place. -/
theorem change_items (a : Account) (c : MachineClass) (sus : Bool) (permits : TankSet) (capacity : Nat) (is : List ServiceItem) :
    (a.change c sus permits capacity is).items = is.map (mergeItem a.items) := rfl

/-- An item whose merger is known stands in the changed entry. -/
theorem mem_change_items {a : Account} {is : List ServiceItem} {z : ServiceItem} (hx : x ∈ is) (h : mergeItem a.items x = z)
    (c : MachineClass) (sus : Bool) (permits : TankSet) (capacity : Nat) : z ∈ (a.change c sus permits capacity is).items :=
  List.mem_map.2 ⟨x, hx, h⟩

end

/-! ## The answers (R96 to R98) -/

section

variable {s : State} {f : Frame} {tag : Tag} {cls state capacity : Nat} {permits : TankSet} {items : List ItemSetting}
  {c : MachineClass} {is : List ServiceItem}

theorem enrolAnswer_range (h : machineValues cls capacity items = none) :
    enrolAnswer tag cls permits capacity items s = .refuse s .range := by
  rw [enrolAnswer, h]

theorem setMachineAnswer_range (h : machineValues cls capacity items = none ∨ 1 < state) :
    setMachineAnswer tag cls state permits capacity items s = .refuse s .range := by
  unfold setMachineAnswer
  split
  · rename_i y sus hy hsus
    rcases h with h | h
    · rw [h] at hy; cases hy
    · rw [flagOf_gt h] at hsus; cases hsus
  · rfl

theorem flagOf_toNat (sus : Bool) : flagOf (if sus then 1 else 0) = some sus := by cases sus <;> rfl

section Values

variable (h : machineValues cls capacity items = some (c, is))

include h

theorem enrolAnswer_exists (ha : findAccount s.accounts.slots tag ≠ none) :
    enrolAnswer tag cls permits capacity items s = .refuse s .alreadyExists := by
  obtain ⟨e, he⟩ := Option.ne_none_iff_exists'.1 ha
  rw [enrolAnswer, h]
  dsimp only
  rw [he]

theorem enrolAnswer_full (ha : findAccount s.accounts.slots tag = none) (hw : freeWay s.accounts.slots tag = none) :
    enrolAnswer tag cls permits capacity items s = .refuse s .full := by
  rw [enrolAnswer, h]
  dsimp only
  rw [ha, hw]

theorem enrolAnswer_ok (ha : findAccount s.accounts.slots tag = none) {i : Nat} (hw : freeWay s.accounts.slots tag = some i) :
    enrolAnswer tag cls permits capacity items s =
      .ok (s.setSlots (putSlot i (Account.enrolled tag c permits capacity is) s.accounts.slots)) (.slot i) := by
  rw [enrolAnswer, h]
  dsimp only
  rw [ha, hw]

theorem setMachineAnswer_notFound (ha : findAccount s.accounts.slots tag = none) (sus : Bool) :
    setMachineAnswer tag cls (if sus then 1 else 0) permits capacity items s = .refuse s .notFound := by
  rw [setMachineAnswer, h, flagOf_toNat]
  dsimp only
  rw [ha]

theorem setMachineAnswer_ok {i : Nat} {a : Account} (ha : findAccount s.accounts.slots tag = some (i, a)) (sus : Bool) :
    setMachineAnswer tag cls (if sus then 1 else 0) permits capacity items s =
      .ok (s.setSlots (putSlot i (a.change c sus permits capacity is) s.accounts.slots)) .nothing := by
  rw [setMachineAnswer, h, flagOf_toNat]
  dsimp only
  rw [ha]

end Values

/-- Whether a lane fills the machine of a tag (R97). -/
theorem lanesFilling_eq_nil :
    s.lanesFilling tag = [] ↔ ∀ l d, (s.lane l).state.isOpen = true → (s.lane l).ctx = some d → d.tag ≠ tag := by
  unfold State.lanesFilling
  rw [List.filter_eq_nil_iff]
  refine forall_congr' fun l => ?_
  cases hc : (s.lane l).ctx <;> simp [mem_allEight, LaneUnit.fills, hc]

theorem retireAnswer_notFound (ha : findAccount s.accounts.slots tag = none) : retireAnswer tag s = .refuse s .notFound := by
  rw [retireAnswer, ha]

/-- What holds a machine in the table: a lane that fills it, or an order for it (R97). -/
theorem retire_blocked_iff :
    (!(s.lanesFilling tag).isEmpty || s.orders.orders.any (fun o => decide (o.tag = tag))) = true ↔
      ¬(s.lanesFilling tag = [] ∧ ∀ o ∈ s.orders.orders, o.tag ≠ tag) := by
  simp [imp_iff_not_or]

theorem retireAnswer_eq {i : Nat} {a : Account} (ha : findAccount s.accounts.slots tag = some (i, a)) :
    retireAnswer tag s =
      if s.lanesFilling tag = [] ∧ ∀ o ∈ s.orders.orders, o.tag ≠ tag then .ok (s.setSlots (freeSlot i s.accounts.slots)) .nothing
      else .refuse s .wrongState := by
  rw [retireAnswer, ha]
  dsimp only
  rw [if_congr retire_blocked_iff rfl rfl, ite_not]

end

/-- Settles O44: each request's answer by its values, its slot and its machine. -/
theorem machineRequestsChangeOneSlot : Obligations.MachineRequestsChangeOneSlot := by
  refine ⟨fun s f tag cls state permits capacity items bad hbad => ⟨fun hb h => ?_, fun hb h => ?_⟩,
    fun s f tag cls c permits capacity items is hc hi hlo hhi => ?_⟩
  · exact ⟨_, rfl, serve_refused h rfl (enrolAnswer_range (machineValues_none (hbad.1 hb)))⟩
  · exact ⟨_, rfl, serve_refused h rfl (setMachineAnswer_range (hb.imp_left fun hb => machineValues_none (hbad.1 hb)))⟩
  · have hv := machineValues_eq hc hi hlo hhi
    refine ⟨fun h => ⟨fun w hw ha hfree htaken => ?_, fun ha htaken => ?_, fun ha => ?_⟩,
      fun h => ⟨fun ha => ?_, fun i a ha => ⟨fun hl ho => ?_, fun hbusy => ?_⟩⟩, fun sus h => ⟨fun ha => ?_, fun i a ha => ?_⟩⟩
    · exact ⟨_, _, congrArg Host.Outcome.next (serve_accepts h rfl (enrolAnswer_ok hv ha (freeWay_eq_some hw hfree htaken))),
        reply_answers _ _ _ _ _, (reply_ports rfl f _ _ _).1, rfl, rfl, rfl, rfl, rfl, rfl, rfl, rfl,
        mem_putSlot_of_free hfree⟩
    · exact ⟨_, rfl, serve_refused h rfl (enrolAnswer_full hv ha (freeWay_eq_none htaken))⟩
    · exact ⟨_, rfl, serve_refused h rfl (enrolAnswer_exists hv ha)⟩
    · exact ⟨_, rfl, serve_refused h rfl (retireAnswer_notFound ha)⟩
    · have hok := (retireAnswer_eq ha).trans (if_pos ⟨lanesFilling_eq_nil.2 hl, ho⟩)
      exact ⟨_, congrArg Host.Outcome.next (serve_accepts h rfl hok), reply_answers _ _ _ _ _, (reply_ports rfl f _ _ _).1, rfl⟩
    · refine ⟨_, rfl, serve_refused h rfl ((retireAnswer_eq ha).trans (if_neg fun ⟨hl, ho⟩ => ?_))⟩
      rcases hbusy with ⟨l, d, hopen, hd, htag⟩ | ⟨o, hmem, htag⟩
      · exact lanesFilling_eq_nil.1 hl l d hopen hd htag
      · exact ho o hmem htag
    · exact ⟨_, rfl, serve_refused h rfl (setMachineAnswer_notFound hv ha sus)⟩
    · obtain ⟨-, hdue⟩ := itemsOf_eq_some hi
      refine ⟨_, a.change c sus permits capacity is, congrArg Host.Outcome.next (serve_accepts h rfl (setMachineAnswer_ok hv ha sus)),
        reply_answers _ _ _ _ _, (reply_ports rfl f _ _ _).1, rfl, rfl, mem_putSlot_self i _ _,
        fun e he hne => (mem_putSlot_of_ne hne).2 he, rfl, List.length_map _, ?_, fun x hx => ⟨hdue x hx, fun hb => ?_,
        fun hb habsent => ?_, fun y hy hb ht hone => ?_⟩⟩
      · rw [change_items, List.map_map]
        exact List.map_congr_left fun x _ => mergeItem_tank _ x
      · exact mem_change_items hx (mergeItem_of_base hb) _ _ _ _
      · exact mem_change_items hx (mergeItem_of_absent hb habsent) _ _ _ _
      · exact mem_change_items hx (mergeItem_of_present hb hy ht hone) _ _ _ _

end Sys2Proof.Machine
end

section
/-! SET_CLASS, SET_RECORD_POLICY, SET_CLOCK and SET_ACCESS: the values that each replaces (R100, R136, R137, R184, R190). -/

namespace Sys2Proof.Machine

/-! ## The class table (R100) -/

@[simp] theorem ClassTable.get_set_same (t : ClassTable) (k : MachineClass) (e : ClassEntry) : (t.set k e).get k = e := by
  cases k <;> rfl

theorem ClassTable.get_set_ne (t : ClassTable) {j k : MachineClass} (e : ClassEntry) (h : j ≠ k) : (t.set k e).get j = t.get j := by
  revert h
  cases k <;> cases j <;> simp [ClassTable.get, ClassTable.set]

section

variable {s : State} {f : Frame}

/-! ## SET_CLASS (R100) -/

section

variable {cls req ceiling : Nat} {c : MachineClass}

theorem setClassAnswer_ok (hc : machineClassOf cls = some c) (hreq : req ≤ 1) (hlo : 1 ≤ ceiling) (hhi : ceiling ≤ 10000000) :
    setClassAnswer cls req ceiling s =
      .ok { s with accounts := { s.accounts with classes := s.accounts.classes.set c ⟨decide (req = 1), ceiling⟩ } } .nothing := by
  rw [setClassAnswer, hc, flagOf_le hreq]
  exact if_pos ((within_iff _ _ _).2 ⟨hlo, hhi⟩)

theorem setClassAnswer_range (h : 1 < req ∨ ceiling = 0 ∨ 10000000 < ceiling) :
    setClassAnswer cls req ceiling s = .refuse s .range := by
  unfold setClassAnswer
  split
  · rename_i c b hc hb
    refine if_neg fun hin => ?_
    have hceiling := (within_iff _ _ _).1 hin
    rcases h with h | h | h
    · rw [flagOf_gt h] at hb
      cases hb
    · omega
    · omega
  · rfl

end

/-! ## SET_RECORD_POLICY (R136, R137) -/

section

variable {p threshold : Nat} {pol : RecordPolicy}

/-- The bay with its record policy and its threshold replaced. -/
def State.withPolicy (s : State) (pol : RecordPolicy) (threshold : Nat) : State :=
  { s with records := { s.records with policy := pol, threshold := threshold } }

theorem setPolicyAnswer_ok (hp : policyOf p = some pol) (hlo : 1 ≤ threshold) (hhi : threshold ≤ 64) :
    setPolicyAnswer p threshold s =
      .ok (postIf (decide (threshold ≤ s.records.completed.length)) .records (s.withPolicy pol threshold))
        (.policy pol threshold s.records.completed.length) := by
  rw [setPolicyAnswer, hp]
  exact if_pos ((within_iff _ _ _).2 ⟨hlo, hhi⟩)

theorem setPolicyAnswer_range (h : threshold = 0 ∨ 64 < threshold) : setPolicyAnswer p threshold s = .refuse s .range := by
  unfold setPolicyAnswer
  split
  · refine if_neg fun hin => ?_
    have hthreshold := (within_iff _ _ _).1 hin
    omega
  · rfl

/-- A posting changes the ports alone. -/
theorem postIf_sameButPorts (b : Bool) (k : EventKind) (s : State) : s.sameButPorts (postIf b k s) := by cases b <;> rfl

end

/-! ## SET_ACCESS (R184) -/

section

variable {v : AccessSetting} {d c r : DenialMap}

theorem levelsOk_iff :
    levelsOk v = true ↔
      (v.dispatchLevel ≤ 3 ∧ v.consoleLevel ≤ 3 ∧ v.receiptLevel ≤ 3 ∧ v.openLevel ≤ 3) ∧
        (v.dispatchLevel = 0 ∨ v.consoleLevel = 0 ∨ v.receiptLevel = 0) := by
  simp [levelsOk, and_assoc, or_assoc]

/-- The bay with the access settings of its ports replaced. -/
def State.withAccess (s : State) (v : AccessSetting) (d c r : DenialMap) : State :=
  { s with
    ports :=
      { dispatch := s.ports.dispatch.setAccess v.dispatchLevel d
        console := s.ports.console.setAccess v.consoleLevel c
        receipt := s.ports.receipt.setAccess v.receiptLevel r
        openLevel := v.openLevel } }

theorem setAccessAnswer_ok (hd : denialOf v.dispatchDenial = some d) (hc : denialOf v.consoleDenial = some c)
    (hr : denialOf v.receiptDenial = some r) (h : levelsOk v = true) :
    setAccessAnswer v s = .ok (s.withAccess v d c r) (.access v) := by
  rw [setAccessAnswer, hd, hc, hr]
  exact if_pos h

/-- Settings that leave no port at level 0 are refused, whatever their maps (R184). -/
theorem setAccessAnswer_range (h : levelsOk v ≠ true) : setAccessAnswer v s = .refuse s .range := by
  unfold setAccessAnswer
  split
  · exact if_neg h
  · rfl

theorem withAccess_pendingSet (s : State) (v : AccessSetting) (d c r : DenialMap) (i : PortId) :
    ((s.withAccess v d c r).port i).pendingSet = (s.port i).pendingSet := by cases i <;> rfl

theorem withAccess_mask (s : State) (v : AccessSetting) (d c r : DenialMap) (i : PortId) :
    ((s.withAccess v d c r).port i).mask = (s.port i).mask := by cases i <;> rfl

end

/-- A reply changes what a port is sending, and none of its settings (R178). -/
theorem reply_port_settings (s : State) (f : Frame) (code : Byte) (st : Status) (p : Payload) (i : PortId) :
    ((s.reply f code st p).port i).level = (s.port i).level ∧ ((s.reply f code st p).port i).denial = (s.port i).denial ∧
      ((s.reply f code st p).port i).mask = (s.port i).mask := by
  by_cases h : i = f.port
  · subst h
    rw [State.reply_port_same]
    exact ⟨rfl, rfl, rfl⟩
  · rw [State.reply_port_ne _ _ _ _ _ _ h]
    exact ⟨rfl, rfl, rfl⟩

end

/-- Settles O45: each setting replaces its values; the policy's posting and the access levels reach the ports alone. -/
theorem settingsReplaceTheirValues : Obligations.SettingsReplaceTheirValues := by
  intro s f
  refine ⟨fun cls c req ceiling hc h => ⟨fun hreq hlo hhi => ?_, fun hbad => ?_⟩,
    fun p pol threshold hp h => ⟨fun hlo hhi => ?_, fun hbad => ?_⟩, fun v h hv => ?_,
    fun v h => ⟨fun d c r hd hc hr hd3 hc3 hr3 ho3 hzero => ?_, fun hd0 hc0 hr0 => ?_⟩⟩
  · exact ⟨_, congrArg Host.Outcome.next (serve_accepts h rfl (setClassAnswer_ok hc hreq hlo hhi)), reply_answers _ _ _ _ _,
      (reply_ports rfl f _ _ _).1, rfl, ClassTable.get_set_same _ _ _, fun _ hd => ClassTable.get_set_ne _ _ hd⟩
  · exact ⟨_, rfl, serve_refused h rfl (setClassAnswer_range hbad)⟩
  · refine ⟨_, congrArg Host.Outcome.next (serve_accepts h rfl (setPolicyAnswer_ok hp hlo hhi)), reply_answers _ _ _ _ _, ?_,
      fun i => ⟨fun hreached => ?_, fun hbelow => ?_⟩⟩
    · rw [State.reply, postIf_sameButPorts (decide (threshold ≤ s.records.completed.length)) .records (s.withPolicy pol threshold)]
      rfl
    · rw [reply_pendingSet, holdsKind_postIf, decide_eq_true hreached]
      simp
    · rw [reply_pendingSet, decide_eq_false (Nat.not_le.2 hbelow)]
      rfl
  · exact ⟨_, rfl, serve_refused h rfl (setPolicyAnswer_range hbad)⟩
  · exact ⟨_, congrArg Host.Outcome.next (serve_accepts h rfl (if_pos hv)), reply_answers _ _ _ _ _, (reply_ports rfl f _ _ _).1,
      rfl⟩
  · have hok := setAccessAnswer_ok (s := s) hd hc hr (levelsOk_iff.2 ⟨⟨hd3, hc3, hr3, ho3⟩, hzero⟩)
    have hset := reply_port_settings (s.withAccess v d c r) f 0x5F#8 .ok (.access v)
    obtain ⟨hdispatch, hdispatchDenial, -⟩ := hset .dispatch
    obtain ⟨hconsole, hconsoleDenial, -⟩ := hset .console
    obtain ⟨hreceipt, hreceiptDenial, -⟩ := hset .receipt
    refine ⟨_, congrArg Host.Outcome.next (serve_accepts h rfl hok), reply_answers _ _ _ _ _, rfl, State.reply_openLevel _ _ _ _ _,
      hdispatch, hdispatchDenial, hconsole, hconsoleDenial, hreceipt, hreceiptDenial, fun i => ⟨?_, ?_⟩⟩
    · rw [reply_pendingSet, withAccess_pendingSet]
    · obtain ⟨-, -, hmask⟩ := hset i
      rw [hmask, withAccess_mask]
  · refine ⟨_, rfl, serve_refused h rfl (setAccessAnswer_range fun hok => ?_)⟩
    obtain ⟨-, hzero⟩ := levelsOk_iff.1 hok
    exact hzero.elim hd0 fun h => h.elim hc0 hr0

end Sys2Proof.Machine
end

section
/-! PLACE_ORDER and CANCEL_ORDER: the number that a new order takes, the checks of R116 in their order, and the order that a
cancellation removes (R114 to R116, R118). -/

namespace Sys2Proof.Machine

section

variable {s : State} {f : Frame}

/-! ## The number of a new order (R115) -/

theorem findOrder_isSome_iff {os : List Order} {n : Nat} : (findOrder os n).isSome = true ↔ ∃ o ∈ os, o.number = n := by
  simp [findOrder]

/-- While there is room in the list, a new order takes a number that no order carries. -/
theorem newOrder_number (q : OrderList) (h : q.orders.length < 16) (tag : Tag) (k : Tank) (volume : Nat) (pr : Bool)
    (expiry uptime : Nat) : ∀ p ∈ q.orders, p.number ≠ (q.newOrder tag k volume pr expiry uptime).number := by
  intro p hp he
  have hfree : (findOrder q.orders (q.newOrder tag k volume pr expiry uptime).number).isSome = false :=
    freeNumber_free (inUse := fun n => (findOrder q.orders n).isSome) (used := q.orders.map fun o => o.number)
      (fuel := Config.orderPlaces + 1) (fun _ hm => List.mem_map.2 (findOrder_isSome_iff.1 hm))
      (by rw [List.length_map]; exact Nat.le_of_lt (Nat.lt_succ_of_lt h)) (by decide) q.next
  exact Bool.false_ne_true (hfree.symm.trans (findOrder_isSome_iff.2 ⟨p, hp, he⟩))

/-! ## PLACE_ORDER (R116) -/

section

variable {tag : Tag} {k : Tank} {volume expiry i : Nat} {pr : Bool} {a : Account} {st : Status}

/-- Step 1 passed: the checks that follow decide. -/
theorem placeOrderAnswer_inRange (hlo : 1 ≤ volume) (hhi : volume ≤ 2000000) (hx : expiry ≤ 86400) :
    placeOrderAnswer tag k.val volume (if pr then 1 else 0) expiry s = placeChecked tag k volume pr expiry s := by
  rw [placeOrderAnswer, eightOf_val, flagOf_toNat]
  exact if_pos (Bool.and_eq_true_iff.2 ⟨(within_iff _ _ _).2 ⟨hlo, hhi⟩, decide_eq_true hx⟩)

/-- Step 1 failed. -/
theorem placeOrderAnswer_range (h : volume = 0 ∨ 2000000 < volume ∨ 86400 < expiry) :
    placeOrderAnswer tag k.val volume (if pr then 1 else 0) expiry s = .refuse s .range := by
  rw [placeOrderAnswer, eightOf_val, flagOf_toNat]
  refine if_neg fun hin => ?_
  obtain ⟨hvolume, hexpiry⟩ := Bool.and_eq_true_iff.1 hin
  obtain ⟨hlo, hhi⟩ := (within_iff _ _ _).1 hvolume
  have hmax : volume ≤ 2000000 := hhi
  have hexpiry := of_decide_eq_true hexpiry
  omega

/-- Steps 2 to 4 refuse with the status of the account's check. -/
theorem placeChecked_account (h : accountCheck (findAccount s.accounts.slots tag) k = some st) :
    placeChecked tag k volume pr expiry s = .refuse s st := by
  rw [placeChecked, h]

/-- An account that is not suspended and permits the tank passes steps 2 to 4. -/
theorem accountCheck_passes (hsus : a.suspended = false) (hperm : inSet a.permits k = true) :
    accountCheck (some (i, a)) k = none := by
  simp [accountCheck, hsus, hperm]

/-- Whether an order of the list is for a machine and a tank (R114, step 5 of R116). -/
def OrderList.holdsFor (q : OrderList) (tag : Tag) (k : Tank) : Bool :=
  q.orders.any (fun o => decide (o.tag = tag) && decide (o.tank = k))

theorem holdsFor_iff {q : OrderList} : q.holdsFor tag k = true ↔ ∃ o ∈ q.orders, o.tag = tag ∧ o.tank = k := by
  simp [OrderList.holdsFor]

theorem holdsFor_eq_false {q : OrderList} : q.holdsFor tag k = false ↔ ∀ o ∈ q.orders, ¬(o.tag = tag ∧ o.tank = k) := by
  simp [OrderList.holdsFor]

/-- Steps 5 and 6 and the acceptance, once the account has passed. -/
theorem placeChecked_list (h : accountCheck (findAccount s.accounts.slots tag) k = none) :
    placeChecked tag k volume pr expiry s =
      if s.orders.holdsFor tag k then .refuse s .alreadyExists
      else if 16 ≤ s.orders.orders.length then .refuse s .full
      else
        .ok { s with orders := s.orders.place (s.orders.newOrder tag k volume pr expiry s.time.uptime) }
          (.placed (s.orders.newOrder tag k volume pr expiry s.time.uptime).number s.time.uptime
            (if expiry = 0 then none else some (s.time.uptime + expiry))) := by
  rw [placeChecked, h]
  rfl

end

/-! ## CANCEL_ORDER (R118) -/

section

variable {n : Nat} {o : Order}

theorem cancelOrderAnswer_notFound (h : ∀ o ∈ s.orders.orders, o.number ≠ n) :
    cancelOrderAnswer n s = .refuse s .notFound := by
  have hnone : findOrder s.orders.orders n = none :=
    List.find?_eq_none.2 fun o ho => mt of_decide_eq_true (h o ho)
  rw [cancelOrderAnswer, hnone]

theorem cancelOrderAnswer_pending (h : findOrder s.orders.orders n = some o) (hc : o.claimedBy = none) :
    cancelOrderAnswer n s =
      .ok { s with orders := { s.orders with orders := removeOrder n s.orders.orders } } .nothing := by
  simp [cancelOrderAnswer, h, hc]

theorem cancelOrderAnswer_claimed (h : findOrder s.orders.orders n = some o) (hc : o.claimedBy.isSome = true) :
    cancelOrderAnswer n s = .refuse s .tooLate := by
  rw [cancelOrderAnswer, h]
  exact if_pos hc

/-- A port whose reply alone has changed keeps its pending set. -/
theorem Port.replying_pendingSet {p q : Port} (h : p.replying q) : q.pendingSet = p.pendingSet := by
  rw [h]

/-- A cancellation refused changes the reply of its port alone, and posts nothing. -/
theorem execCancelOrder_refused {st : Status} (h : s.takes f (.cancelOrder f n) = true)
    (hx : cancelOrderAnswer n s = .refuse s st) :
    ∃ t, exec (.cancelOrder f n) s = .next t ∧ t.answers f 0x21#8 st .nothing ∧ s.sameButPorts t ∧ s.otherPorts t f.port ∧
      (t.port f.port).pendingSet = (s.port f.port).pendingSet := by
  obtain ⟨t, ht, hans, hsame, hother, hport⟩ : ∃ t, exec (.cancelOrder f n) s = .next t ∧ s.onlyAnswers t f 0x21#8 st .nothing :=
    ⟨_, rfl, serve_refused h rfl hx⟩
  exact ⟨t, ht, hans, hsame, hother, Port.replying_pendingSet hport⟩

end

end

/-- Settles O37: a request that passes every check of R116 appends its order, and the first check that fails refuses it. -/
theorem placeOrderAppendsOneOrder : Obligations.PlaceOrderAppendsOneOrder := by
  intro s f tag k volume expiry pr h
  refine ⟨fun i a hlo hhi hx ha hsus hperm hnew hroom => ?_, fun st hst => ?_⟩
  · have hcheck : accountCheck (findAccount s.accounts.slots tag) k = none := ha ▸ accountCheck_passes hsus hperm
    have hok := (placeOrderAnswer_inRange (pr := pr) hlo hhi hx).trans (placeChecked_list hcheck)
    rw [if_neg (Bool.eq_false_iff.1 (holdsFor_eq_false.2 hnew)), if_neg (Nat.not_le.2 hroom)] at hok
    exact ⟨_, s.orders.newOrder tag k volume pr expiry s.time.uptime, congrArg Host.Outcome.next (serve_accepts h rfl hok), rfl,
      (reply_ports rfl f _ _ _).1, rfl, newOrder_number _ hroom _ _ _ _ _ _, rfl, rfl, rfl, rfl, rfl, rfl, rfl,
      reply_answers _ _ _ _ _⟩
  · have hrefuse : placeOrderAnswer tag k.val volume (if pr then 1 else 0) expiry s = .refuse s st := by
      rcases hst with ⟨hbad, rfl⟩ | ⟨hlo, hhi, hx, hst⟩
      · exact placeOrderAnswer_range hbad
      rw [placeOrderAnswer_inRange hlo hhi hx]
      rcases hst with ⟨ha, rfl⟩ | ⟨i, a, ha, ⟨hsus, rfl⟩ | ⟨hsus, hperm, rfl⟩ | ⟨hsus, hperm, hlist⟩⟩
      · exact placeChecked_account (by rw [ha]; rfl)
      · exact placeChecked_account (by simp [ha, accountCheck, hsus])
      · exact placeChecked_account (by simp [ha, accountCheck, hsus, hperm])
      · have hcheck : accountCheck (findAccount s.accounts.slots tag) k = none := ha ▸ accountCheck_passes hsus hperm
        rw [placeChecked_list hcheck]
        rcases hlist with ⟨hsame, rfl⟩ | ⟨hnew, hfull, rfl⟩
        · exact if_pos (holdsFor_iff.2 hsame)
        · rw [if_neg (Bool.eq_false_iff.1 (holdsFor_eq_false.2 hnew)), if_pos hfull]
    obtain ⟨t, ht, hans, hsame, hother, -⟩ : ∃ t, exec (.placeOrder f tag k.val volume (if pr then 1 else 0) expiry) s = .next t ∧
        s.onlyAnswers t f 0x20#8 st .nothing := ⟨_, rfl, serve_refused h rfl hrefuse⟩
    exact ⟨t, ht, hans, hsame, hother⟩

/-- Settles O38: the order that the number names, absent, PENDING or CLAIMED. -/
theorem cancelRemovesPendingOrder : Obligations.CancelRemovesPendingOrder := by
  intro s f n h
  refine ⟨fun hnone => execCancelOrder_refused h (cancelOrderAnswer_notFound hnone), fun o ho hn honly => ?_⟩
  have hfind := findOrder_only ho hn honly
  refine ⟨fun hc => ?_, fun hc => execCancelOrder_refused h (cancelOrderAnswer_claimed hfind hc)⟩
  exact ⟨_, congrArg Host.Outcome.next (serve_accepts h rfl (cancelOrderAnswer_pending hfind hc)), reply_answers _ _ _ _ _,
    (reply_ports rfl f _ _ _).1, reply_pendingSet _ _ _ _ _ _, rfl⟩

end Sys2Proof.Machine
end

section
/-! RELEASE_RECORDS, RELEASE_TRIPS and RELEASE_CAPTURE: the entries from the oldest through the one named, and the buffer that a
release empties (R139, R156, R158). -/

namespace Sys2Proof.Machine

/-! ## What a release leaves of a list whose oldest entry stands first (R139, R156) -/

/-- A release skips the entries that do not carry the number, and drops the one that does. -/
theorem releaseThrough_eq (n : Nat) (rs : List Record) :
    releaseThrough n rs = (rs.dropWhile fun r => decide (r.number ≠ n)).tail? := by
  induction rs with
  | nil => rfl
  | cons r rs ih => by_cases h : r.number = n <;> simp [releaseThrough, h, ih]

theorem tripsAfter_eq (n : Nat) (es : List TripEntry) :
    tripsAfter n es = (es.dropWhile fun e => decide (e.number ≠ n)).tail? := by
  induction es with
  | nil => rfl
  | cons e es ih => by_cases h : e.number = n <;> simp [tripsAfter, h, ih]

section

variable {α : Type} {number : α → Nat} {n : Nat}

/-- The first entry that carries the number goes with all before it, and those after it stay. -/
theorem tail?_dropWhile_named {pre post : List α} {x : α} (hx : number x = n) (hpre : ∀ p ∈ pre, number p ≠ n) :
    ((pre ++ x :: post).dropWhile fun y => decide (number y ≠ n)).tail? = some post := by
  rw [List.dropWhile_append_of_pos fun p hp => decide_eq_true (hpre p hp),
    List.dropWhile_cons_of_neg (by simp [hx])]
  rfl

theorem tail?_dropWhile_unnamed {xs : List α} (h : ∀ x ∈ xs, number x ≠ n) :
    (xs.dropWhile fun y => decide (number y ≠ n)).tail? = none := by
  rw [List.dropWhile_eq_nil_iff.2 fun x hx => decide_eq_true (h x hx)]
  rfl

end

/-- What is released and what stays make up the list. -/
theorem length_sub_of_split {α : Type} (pre post : List α) (x : α) :
    (pre ++ x :: post).length - post.length = pre.length + 1 := by
  rw [List.length_append, List.length_cons]
  omega

/-! ## The answers -/

/-- A request carried out with the ports untouched is answered on its own port, and otherwise leaves the state of its answer. -/
theorem serve_accepts_ports_kept {s t : State} {f : Frame} {cmd : Instr} {code : Byte} {a : Access} {p : Payload}
    {act : State → Answer} (h : s.takes f cmd = true) (ha : accessPasses s f.port a = s.permits f.port cmd)
    (hx : act s = .ok t p) (hports : t.ports = s.ports) :
    (serve f code a act s).answers f code .ok p ∧ s.otherPorts (serve f code a act s) f.port ∧
      t.sameButPorts (serve f code a act s) := by
  rw [serve_accepts h ha hx]
  exact ⟨reply_answers _ _ _ _ _, (reply_ports hports f _ _ _).1, rfl⟩

section

variable {s : State} {n : Nat}

theorem releaseAnswer_named {pre post : List Record} {r : Record} (h : s.records.completed = pre ++ r :: post)
    (hr : r.number = n) (hpre : ∀ p ∈ pre, p.number ≠ n) :
    releaseAnswer n s =
      .ok { s with records := { s.records with completed := post } } (.released (pre.length + 1) post.length) := by
  have hrest : releaseThrough n s.records.completed = some post := by
    rw [releaseThrough_eq, h, tail?_dropWhile_named hr hpre]
  rw [releaseAnswer, hrest, h]
  dsimp only
  rw [length_sub_of_split]

theorem releaseAnswer_notFound (h : ∀ r ∈ s.records.completed, r.number ≠ n) : releaseAnswer n s = .refuse s .notFound := by
  rw [releaseAnswer, releaseThrough_eq, tail?_dropWhile_unnamed h]

theorem releaseTripsAnswer_named {pre post : List TripEntry} {e : TripEntry} (h : s.spill.trips = pre ++ e :: post)
    (he : e.number = n) (hpre : ∀ p ∈ pre, p.number ≠ n) :
    releaseTripsAnswer n s = .ok { s with spill := { s.spill with trips := post } } (.tripsReleased (pre.length + 1)) := by
  have hrest : tripsAfter n s.spill.trips = some post := by
    rw [tripsAfter_eq, h, tail?_dropWhile_named he hpre]
  rw [releaseTripsAnswer, hrest, h]
  dsimp only
  rw [length_sub_of_split]

theorem releaseTripsAnswer_notFound (h : ∀ e ∈ s.spill.trips, e.number ≠ n) :
    releaseTripsAnswer n s = .refuse s .notFound := by
  rw [releaseTripsAnswer, tripsAfter_eq, tail?_dropWhile_unnamed h]

theorem releaseCaptureAnswer_full {c : CaptureData} (h : s.spill.capture = .full c) :
    releaseCaptureAnswer s = .ok { s with spill := { s.spill with capture := .empty } } .nothing := by
  rw [releaseCaptureAnswer, h]

theorem releaseCaptureAnswer_wrongState (h : ∀ c, s.spill.capture ≠ .full c) :
    releaseCaptureAnswer s = .refuse s .wrongState := by
  unfold releaseCaptureAnswer
  split
  · next c hc => exact absurd hc (h c)
  · rfl

end

/-- Settles O48: each release by the entry that carries the number, or by the state of the buffer. -/
theorem releasesRemoveFromTheOldest : Obligations.ReleasesRemoveFromTheOldest := by
  intro s f n
  refine ⟨fun pre r post h hsplit hr hpre => ?_, fun h hnone => ?_, fun pre e post h hsplit he hpre => ?_, fun h hnone => ?_,
    fun h => ⟨fun c hc => ?_, fun hc => ?_⟩⟩
  · exact ⟨_, rfl, serve_accepts_ports_kept h rfl (releaseAnswer_named hsplit hr hpre) rfl⟩
  · exact ⟨_, rfl, serve_refused h rfl (releaseAnswer_notFound hnone)⟩
  · exact ⟨_, rfl, serve_accepts_ports_kept h rfl (releaseTripsAnswer_named hsplit he hpre) rfl⟩
  · exact ⟨_, rfl, serve_refused h rfl (releaseTripsAnswer_notFound hnone)⟩
  · exact ⟨_, rfl, serve_accepts_ports_kept h rfl (releaseCaptureAnswer_full hc) rfl⟩
  · exact ⟨_, rfl, serve_refused h rfl (releaseCaptureAnswer_wrongState hc)⟩

end Sys2Proof.Machine
end

section
/-! A capture's sample, the end of an attention pulse, and the whole second (R157, R187, R190, R191). -/

namespace Sys2Proof.Machine

/-! ## The capture's sample (R157, R191) -/

section

variable {s : State} {c : CaptureData}

theorem captureSample_early (h : s.spill.captureTimer ≠ some 0) : captureSample s = s :=
  if_neg fun hx => h (of_decide_eq_true hx)

theorem captureSample_ended (h : s.spill.captureTimer = some 0) :
    captureSample s = { s with spill := s.spill.takeSample s.postSample } := if_pos (decide_eq_true h)

theorem postSample_levels (s : State) (k : Tank) : s.postSample.levels.get k = (s.tank k).level := Eight.get_map _ _ _

/-- A FILLING capture short of its M-th sample goes on, its timer started again. -/
theorem takeSample_goes_on (p : PostSample) (hc : s.spill.capture = .filling c) (h : c.samples.length + 1 < c.m) :
    s.spill.takeSample p =
      { s.spill with capture := .filling { c with samples := c.samples ++ [p] }, captureTimer := some 1 } := by
  have hadd : s.spill.capture.addSample p = .filling { c with samples := c.samples ++ [p] } := by
    rw [hc]
    exact if_pos (by rwa [List.length_append])
  rw [SpillUnit.takeSample, hadd]
  rfl

/-- A FILLING capture is FULL at its M-th sample, its timer stopped. -/
theorem takeSample_fills (p : PostSample) (hc : s.spill.capture = .filling c) (h : c.m ≤ c.samples.length + 1) :
    s.spill.takeSample p =
      { s.spill with capture := .full { c with samples := c.samples ++ [p] }, captureTimer := none } := by
  have hadd : s.spill.capture.addSample p = .full { c with samples := c.samples ++ [p] } := by
    rw [hc]
    exact if_neg (by rw [List.length_append]; exact Nat.not_lt.2 h)
  rw [SpillUnit.takeSample, hadd]
  rfl

/-! ## The pulse (R187) -/

theorem endPulse_of_running {p : Port} {w : Nat} (h : p.pulse = some w) : p.endPulse = { p with pulse := none, attn := false } := by
  rw [Port.endPulse, h]

/-! ## The whole second (R190, R191) -/

/-- The bay clock rises where it is set, and nothing else of the time does. -/
theorem clockSecond_eq (t : BayTime) :
    t.clockSecond = { t with clock := if t.isSet then min 4294967295 (t.clock + 1) else t.clock } := by
  unfold BayTime.clockSecond
  split <;> rfl

theorem wholeSecond_running (h : s.device.phase = .running) : wholeSecond s = runningSecond s := by
  rw [wholeSecond, h]

theorem wholeSecond_restoring (h : s.device.phase = .restoring) : wholeSecond s = { s with time := s.time.clockSecond } := by
  rw [wholeSecond, h]

theorem runningSecond_time (s : State) :
    (runningSecond s).time =
      { s.time with
        clock := if s.time.isSet then min 4294967295 (s.time.clock + 1) else s.time.clock
        uptime := min 4294967295 (s.time.uptime + 1) } := by
  rw [runningSecond, clockSecond_eq]
  rfl

theorem runningSecond_lane (s : State) (l : Lane) : (runningSecond s).lane l = (s.lane l).tick := Eight.get_map _ _ _

theorem runningSecond_tank (s : State) (k : Tank) :
    (runningSecond s).tank k =
      { s.tank k with pumpTimer := tick (s.tank k).pumpTimer, noGaugeTimer := tick (s.tank k).noGaugeTimer } :=
  Eight.get_map _ _ _

/-! ## The commands -/

theorem captureSampleTimerExpiry_exec (h : s.device.phase = .running) :
    exec .captureSampleTimerExpiry s = .next (captureSample s) :=
  congrArg Host.Outcome.next (State.whenRunning_running _ h)

theorem attentionPulseExpiry_exec (i : PortId) (h : s.device.phase = .running) :
    exec (.attentionPulseExpiry i) s = .next (s.setPort i (s.port i).endPulse) :=
  congrArg Host.Outcome.next (State.whenRunning_running _ h)

end

/-- Settles O28: each command by what has run out, and a second by the phase of the device. -/
theorem capturePulseAndSecond : Obligations.CapturePulseAndSecond := by
  intro s
  refine ⟨fun hp ht => ?_, fun c hp hc ht => ?_, fun i w hp hw => ?_, fun hp => ?_, fun hp => ?_⟩
  · rw [captureSampleTimerExpiry_exec hp, captureSample_early ht]
  · rw [captureSampleTimerExpiry_exec hp, captureSample_ended ht]
    refine ⟨_, s.postSample, rfl, rfl, postSample_levels s, rfl, rfl, fun hm => ?_, fun hm => ?_⟩
    · simp [takeSample_goes_on _ hc hm]
    · simp [takeSample_fills _ hc hm]
  · exact ⟨_, attentionPulseExpiry_exec i hp, by rw [endPulse_of_running hw]⟩
  · have htime := runningSecond_time s
    exact ⟨_, congrArg Host.Outcome.next (wholeSecond_running hp), by rw [htime], by rw [htime], by rw [htime], rfl,
      runningSecond_lane s, rfl, runningSecond_tank s⟩
  · refine ⟨_, congrArg Host.Outcome.next (wholeSecond_restoring hp), ?_⟩
    rw [clockSecond_eq]
    exact ⟨rfl, rfl, rfl⟩

end Sys2Proof.Machine
end

section
/-! REARM, REARM ALL and MANUAL_TRIP: when a TRIPPED source is judged to be at rest, the sources that a re-arm leaves TRIPPED and what
they block, and the trip by request (R148, R150, R151, R153, R154). -/

namespace Sys2Proof.Machine

/-! ## The judgement of a TRIPPED source (R149, R153) -/

/-- A source is held TRIPPED by its blanking, or by its debounced condition. -/
theorem Source.not_rearmable (x : Source) :
    (!x.rearmable) = (decide (0 < x.blanking) || (x.enabled && decide (x.debounce ≤ x.run))) := by
  simp [Source.rearmable, Source.debounced, Nat.pos_iff_ne_zero]

theorem Source.rearmable_eq_false_iff (x : Source) :
    x.rearmable = false ↔ 0 < x.blanking ∨ (x.enabled = true ∧ x.debounce ≤ x.run) := by
  have h : x.rearmable = false ↔ (!x.rearmable) = true := by simp
  rw [h, x.not_rearmable]
  simp

theorem Source.rearmable_iff (x : Source) :
    x.rearmable = true ↔ x.blanking = 0 ∧ (x.enabled = false ∨ x.run < x.debounce) := by
  simp [Source.rearmable, Source.debounced]

/-- REARM ALL leaves a source TRIPPED exactly where it is held so (R154). -/
theorem Source.judgeRearm_eq (x : Source) :
    x.judgeRearm =
      { x with
        isTripped :=
          x.isTripped && (decide (0 < x.blanking) || (x.enabled && decide (x.debounce ≤ x.run))) } := by
  have hstays : (x.isTripped && !x.rearmable) = if x.isTripped && x.rearmable then false else x.isTripped := by
    cases x.isTripped <;> cases x.rearmable <;> rfl
  rw [← x.not_rearmable, hstays, Source.judgeRearm]
  split <;> rfl

section

variable {s t : State} {f : Frame} {i : SourceId}

/-! ## REARM (R153) -/

theorem rearmAnswer_clear (h : (s.source i).isTripped = false) : rearmAnswer i s = .refuse s .wrongState := by
  simp [rearmAnswer, h]

theorem rearmAnswer_active (h : (s.source i).isTripped = true) (hr : (s.source i).rearmable = false) :
    rearmAnswer i s = .refuse s .stillActive := by
  simp [rearmAnswer, h, hr]

theorem rearmAnswer_cleared (h : (s.source i).isTripped = true) (hr : (s.source i).rearmable = true) :
    rearmAnswer i s = .ok (s.setSource i { s.source i with isTripped := false }) .nothing := by
  simp [rearmAnswer, h, hr]

/-- Where one source alone has been cleared, the other sources block as before. -/
theorem tripped_of_cleared (hi : (t.source i).isTripped = false) (hx : ∀ j, j ≠ i → t.source j = s.source j)
    (p : Source → Prop) :
    (∃ j, (t.source j).isTripped = true ∧ p (t.source j)) ↔
      ∃ j, j ≠ i ∧ (s.source j).isTripped = true ∧ p (s.source j) := by
  refine exists_congr fun j => ?_
  by_cases hj : j = i
  · simp [hj, hi]
  · simp [hj, hx j hj]

/-! ## REARM ALL (R154) -/

theorem mem_trippedSources : i ∈ s.trippedSources ↔ (s.source i).isTripped = true := by
  simp [State.trippedSources, mem_allSources]

theorem rearmAllAnswer_source (i : SourceId) (s : State) :
    (rearmAllAnswer s).state.source i = (s.source i).judgeRearm := Sources.get_map _ _ _

/-- The sources that remain TRIPPED are those that block, under the maps that they had. -/
theorem tripped_of_rearmed (i : SourceId) (s : State) (p : Source → Prop) (hp : ∀ x : Source, p x.judgeRearm ↔ p x) :
    ((rearmAllAnswer s).state.source i).isTripped = true ∧ p ((rearmAllAnswer s).state.source i) ↔
      i ∈ (rearmAllAnswer s).state.trippedSources ∧ p (s.source i) := by
  rw [mem_trippedSources, rearmAllAnswer_source, hp]

theorem rearmAll_exec (h : s.takes f (.rearmAll f) = true) :
    exec (.rearmAll f) s =
      .next ((rearmAllAnswer s).state.reply f 0x51#8 (rearmAllAnswer s).status (rearmAllAnswer s).payload) :=
  congrArg Host.Outcome.next (serve_of_takes h rfl)

theorem rearmAllAnswer_status (s : State) :
    (rearmAllAnswer s).status = if (rearmAllAnswer s).state.trippedSources = [] then .ok else .stillActive := by
  simp [rearmAllAnswer, List.isEmpty_iff]

/-! ## MANUAL_TRIP (R148) -/

theorem manualTripAnswer_clear (h : (s.source .manual).isTripped = false) :
    manualTripAnswer s = .ok (tripSource .manual s) (.manual true (some s.spill.nextTrip)) := by
  simp [manualTripAnswer, riseSource, h]

theorem manualTripAnswer_counts (h : (s.source .manual).isTripped = true) :
    manualTripAnswer s = .ok (s.setSource .manual (s.source .manual).trip) (.manual false none) := by
  simp [manualTripAnswer, riseSource_tripped h, h]

/-- The entry of a trip stands in the list after it, a full list having lost its oldest (R155). -/
theorem tripEntry_mem (i : SourceId) (s : State) : s.tripEntry i ∈ (tripSource i s).spill.trips := by
  rw [tripSource_spill]
  exact List.mem_append_right _ (List.mem_singleton.2 rfl)

/-- A source that trips blocks every lane of its map, and no such lane goes on (R150, R151). -/
theorem tripSource_blocks {l : Lane} (hl : inSet (s.source i).lanes l = true) :
    (tripSource i s).laneBlocked l = true ∧ ((tripSource i s).lane l).state.endedByTrip = false := by
  refine ⟨(laneBlocked_iff _ l).2 ⟨i, ?_⟩, ?_⟩
  · rw [tripSource_source, if_pos rfl]
    exact ⟨rfl, hl⟩
  · rw [tripSource_lane, if_pos hl]
    exact endLane_not_endedByTrip _ _ _

theorem trip_of_tripped {x : Source} (h : x.isTripped = true) : x.trip = { x with tripCount := min 255 (x.tripCount + 1) } := by
  rw [Source.trip, ← h]
  rfl

end

/-- Settles O49: REARM by the judgement of the source named, MANUAL_TRIP by the state of MANUAL. -/
theorem rearmAndManualTrip : Obligations.RearmAndManualTrip := by
  intro s f
  refine ⟨fun n i hn h => ⟨fun ht => ?_, fun ht ha => ?_, fun ht hb hc => ?_⟩, fun n hn h => ?_, fun h => ⟨fun ht => ?_, fun ht => ?_⟩⟩
  · exact ⟨_, rfl, serve_refused h rfl ((onSource_of hn _).trans (rearmAnswer_clear ht))⟩
  · have hr := (s.source i).rearmable_eq_false_iff.2 ha
    exact ⟨_, rfl, serve_refused h rfl ((onSource_of hn _).trans (rearmAnswer_active ht hr))⟩
  · have hr := (s.source i).rearmable_iff.2 ⟨hb, hc⟩
    obtain ⟨t, he⟩ : ∃ t, t = (s.setSource i { s.source i with isTripped := false }).reply f 0x50#8 .ok .nothing := ⟨_, rfl⟩
    have hself : t.source i = { s.source i with isTripped := false } := by
      rw [he]
      exact State.source_setSource_same _ _ _
    have hother : ∀ j, j ≠ i → t.source j = s.source j := fun j hj => by
      rw [he]
      exact State.source_setSource_ne _ _ _ _ hj
    have hclear : (t.source i).isTripped = false := by rw [hself]
    refine ⟨t, ?_, ?_, ?_, ?_, hself, hother, fun l => ?_, fun k => ?_⟩
    · rw [he]
      exact congrArg Host.Outcome.next (serve_accepts h rfl ((onSource_of hn _).trans (rearmAnswer_cleared ht hr)))
    · rw [he]
      exact reply_answers _ _ _ _ _
    · rw [he]
      exact (reply_ports rfl f _ _ _).1
    · rw [he]
      rfl
    · exact (laneBlocked_iff t l).trans (tripped_of_cleared hclear hother fun x => inSet x.lanes l = true)
    · exact (inletBlocked_iff t k).trans (tripped_of_cleared hclear hother fun x => inSet x.inlets k = true)
  · exact ⟨_, rfl, serve_refused h rfl (onSource_of_none (sourceOf_beyond hn) _)⟩
  · refine ⟨_, s.tripEntry .manual, congrArg Host.Outcome.next (serve_accepts h rfl (manualTripAnswer_clear ht)),
      reply_answers _ _ _ _ _, ?_, tripEntry_mem _ s, rfl, rfl, fun l hl => tripSource_blocks hl, fun k hk => ?_, fun j => ?_⟩
    · exact congrArg Source.isTripped ((tripSource_source .manual s .manual).trans (if_pos rfl))
    · exact tripSource_inlet hk
    · rw [tripSource_eq]
      exact reply_post_holds _ _ _ _ _ _ _
  · refine ⟨_, congrArg Host.Outcome.next (serve_accepts h rfl (manualTripAnswer_counts ht)), reply_answers _ _ _ _ _,
      (reply_ports rfl f _ _ _).1, rfl, ?_, fun j hj => State.source_setSource_ne _ _ _ _ hj⟩
    exact (State.source_setSource_same _ _ _).trans (trip_of_tripped ht)

/-- Settles O50: every source judged alike, and the blocks read off the sources that remain TRIPPED. -/
theorem rearmAllJudgesEverySource : Obligations.RearmAllJudgesEverySource := by
  intro s f h
  refine ⟨_, (rearmAllAnswer s).state.trippedSources, rearmAll_exec h, ?_, rfl, fun i => ?_, fun l => ?_, fun k => ?_,
    (reply_ports rfl f _ _ _).1, reply_pendingSet _ _ _ _ _ _, rfl⟩
  · rw [← rearmAllAnswer_status]
    exact reply_answers _ _ _ _ _
  · exact (rearmAllAnswer_source i s).trans (s.source i).judgeRearm_eq
  · exact (laneBlocked_iff _ l).trans (exists_congr fun i =>
      tripped_of_rearmed i s (fun x => inSet x.lanes l = true) fun x => by rw [x.judgeRearm_eq])
  · exact (inletBlocked_iff _ k).trans (exists_congr fun i =>
      tripped_of_rearmed i s (fun x => inSet x.inlets k = true) fun x => by rw [x.judgeRearm_eq])

end Sys2Proof.Machine
end

section
/-! What no command changes while the calibration lock is shut, under the operations of the model: the calibration parameters, the state
of the lock, and the queue (R163, R166, R170). -/

namespace Sys2Proof.Machine

/-! ## The view -/

/-- The calibration parameters (R166), the state of the lock (R163) and the queue: what only start-up without the marker, a guarded
request and the two requests of the lock may change. -/
def State.underSeal (s : State) : (Lane → MeterParams) × (Tank → Nat × List (Nat × Nat)) × LockState × List Instr :=
  (fun l => (s.lane l).meter.params, fun k => ((s.tank k).alpha, (s.tank k).points), s.cal.lock, s.pending)

theorem underSeal_eq_iff {s t : State} :
    t.underSeal = s.underSeal ↔ s.sameCalibration t ∧ t.cal.lock = s.cal.lock ∧ t.pending = s.pending := by
  simp only [State.underSeal, State.sameCalibration, Prod.mk.injEq, funext_iff, and_assoc]

/-- What ends, faults, trims and trips leave alone holds all that is under the seal but the lock and the queue. -/
theorem underSeal_of_figures {s t : State} (h : KeepsFigures s t) (hc : t.cal = s.cal) (hp : t.pending = s.pending) :
    t.underSeal = s.underSeal :=
  underSeal_eq_iff.2 ⟨⟨fun l => congrArg Meter.params (h.meter l), fun k =>
    ⟨(congrArg TankUnit.alpha (h.tank k) :), (congrArg TankUnit.points (h.tank k) :)⟩⟩, congrArg CalLock.lock hc, hp⟩

section

variable {s : State}

/-! ## The units of the state -/

theorem setLane_underSeal {l : Lane} {u : LaneUnit} (h : u.meter.params = (s.lane l).meter.params) :
    (s.setLane l u).underSeal = s.underSeal := by
  refine underSeal_eq_iff.2 ⟨⟨fun j => ?_, fun _ => ⟨rfl, rfl⟩⟩, rfl, rfl⟩
  by_cases hj : j = l
  · rw [hj, State.lane_setLane_same, h]
  · rw [State.lane_setLane_ne _ _ _ _ hj]

theorem setTank_underSeal {k : Tank} {u : TankUnit} (h : u.alpha = (s.tank k).alpha ∧ u.points = (s.tank k).points) :
    (s.setTank k u).underSeal = s.underSeal := by
  refine underSeal_eq_iff.2 ⟨⟨fun _ => rfl, fun j => ?_⟩, rfl, rfl⟩
  by_cases hj : j = k
  · rw [hj, State.tank_setTank_same]; exact h
  · rw [State.tank_setTank_ne _ _ _ _ hj]; exact ⟨rfl, rfl⟩

/-- All lanes may be replaced by lanes of the same meter parameters. -/
theorem lanes_underSeal {v : Eight LaneUnit} (h : ∀ l, (v.get l).meter.params = (s.lane l).meter.params) :
    State.underSeal { s with lanes := v } = s.underSeal :=
  underSeal_eq_iff.2 ⟨⟨h, fun _ => ⟨rfl, rfl⟩⟩, rfl, rfl⟩

/-- All tanks may be replaced by tanks of the same α and strapping table. -/
theorem tanks_underSeal {v : Eight TankUnit} (h : ∀ k, (v.get k).alpha = (s.tank k).alpha ∧ (v.get k).points = (s.tank k).points) :
    State.underSeal { s with tanks := v } = s.underSeal :=
  underSeal_eq_iff.2 ⟨⟨fun _ => rfl, h⟩, rfl, rfl⟩

theorem post_underSeal (k : EventKind) (s : State) : (post k s).underSeal = s.underSeal := rfl

theorem postIf_underSeal (c : Bool) (k : EventKind) (s : State) : (postIf c k s).underSeal = s.underSeal := by cases c <;> rfl

theorem mapDeliveries_underSeal (p : DeliveryEntry → Bool) (f : DeliveryEntry → DeliveryEntry) (s : State) :
    (mapDeliveries p f s).underSeal = s.underSeal := rfl

theorem setPump_underSeal (k : Tank) (p : PumpState) (timer : Timer) (s : State) :
    (s.setTank k ((s.tank k).setPump p timer)).underSeal = s.underSeal := setTank_underSeal ⟨rfl, rfl⟩

theorem blankIf_underSeal (c : Bool) (i : SourceId) (s : State) : (blankIf c i s).underSeal = s.underSeal := by cases c <;> rfl

/-! ## Ends, faults and trips (R38, R43 to R51, R66, R86, R144 to R151) -/

theorem closeLane_underSeal (l : Lane) (s : State) : (closeLane l s).underSeal = s.underSeal :=
  underSeal_of_figures (closeLane_figures l (.refl s)) (closeLane_cal l s) (closeLane_pending l s)

theorem endLane_underSeal (l : Lane) (r : EndReason) (s : State) : (endLane l r s).underSeal = s.underSeal :=
  underSeal_of_figures (endLane_figures l r (.refl s)) (endLane_cal l r s) (endLane_pending l r s)

theorem endLanes_underSeal (ls : LaneSet) (r : EndReason) (s : State) : (endLanes ls r s).underSeal = s.underSeal :=
  underSeal_of_figures (endLanes_figures ls r (.refl s)) (endLanes_cal ls r s) (endLanes_pending ls r s)

theorem faultIf_underSeal (c : Bool) (l : Lane) (f : LaneFault) (s : State) : (faultIf c l f s).underSeal = s.underSeal :=
  underSeal_of_figures (faultIf_figures c l f (.refl s)) (faultIf_cal c l f s) (faultIf_pending c l f s)

theorem trimTank_underSeal (k : Tank) (s : State) : (trimTank k s).underSeal = s.underSeal :=
  underSeal_of_figures (trimTank_figures k (.refl s)) (trimTank_cal k s) (trimTank_pending k s)

theorem endDischarge_underSeal (k : Tank) (b : Bool) (s : State) : (endDischarge k b s).underSeal = s.underSeal :=
  underSeal_of_figures (endDischarge_figures k b (.refl s)) (endDischarge_cal k b s) (endDischarge_pending k b s)

theorem blockAll_underSeal (ls : LaneSet) (ts : TankSet) (s : State) : (blockAll ls ts s).underSeal = s.underSeal :=
  underSeal_of_figures (blockAll_figures ls ts (.refl s)) (blockAll_cal ls ts s) (blockAll_pending ls ts s)

theorem riseSource_underSeal (i : SourceId) (s : State) : (riseSource i s).underSeal = s.underSeal :=
  underSeal_of_figures (riseSource_figures i (.refl s)) (riseSource_cal i s) (riseSource_pending i s)

theorem sampleSource_underSeal (i : SourceId) (c : Bool) (s : State) : (sampleSource i c s).underSeal = s.underSeal :=
  underSeal_of_figures (sampleSource_figures i c (.refl s)) (sampleSource_cal i c s) (sampleSource_pending i c s)

theorem sampleHose_underSeal (l : Lane) (s : State) : (sampleHose l s).underSeal = s.underSeal :=
  underSeal_of_figures (sampleHose_figures l (.refl s)) (sampleHose_cal l s) (sampleHose_pending l s)

/-! ## The meter (R2 to R22) -/

theorem Meter.miscount_params (m : Meter) (b : Bool) : (m.miscount b).params = m.params := by rw [Meter.miscount_eq]

theorem miscountEvent_underSeal (l : Lane) (s : State) : (miscountEvent l s).underSeal = s.underSeal :=
  (faultIf_underSeal _ _ _ _).trans (setLane_underSeal (Meter.miscount_params _ _))

/-- A miscount event of a lane whose meter has been changed, its parameters kept. -/
theorem miscountAfter_underSeal {l : Lane} {u : LaneUnit} (h : u.meter.params = (s.lane l).meter.params) :
    (miscountEvent l (s.setLane l u)).underSeal = s.underSeal :=
  (miscountEvent_underSeal _ _).trans (setLane_underSeal h)

theorem illegalPair_underSeal (l : Lane) (a b : Bool) (s : State) : (illegalPair l a b s).underSeal = s.underSeal :=
  miscountAfter_underSeal rfl

theorem missingIndex_underSeal (l : Lane) (s : State) : (missingIndex l s).underSeal = s.underSeal := miscountAfter_underSeal rfl

theorem decoderSample_underSeal (l : Lane) (a b : Bool) (s : State) : (decoderSample l a b s).underSeal = s.underSeal := by
  unfold decoderSample
  split
  · rfl
  · rename_i sign _
    have hedge : (s.setLane l ({ s.lane l with meter := (s.lane l).meter.countEdge a b sign }.hearEdge)).underSeal = s.underSeal :=
      setLane_underSeal (by rw [LaneUnit.hearEdge_meter, Meter.countEdge_eq])
    unfold countedEdge
    dsimp only
    split
    · exact (missingIndex_underSeal _ _).trans hedge
    · exact hedge
  · exact illegalPair_underSeal l a b s

theorem meterFault_underSeal (l : Lane) (s : State) : (meterFault l s).underSeal = s.underSeal := by
  unfold meterFault
  dsimp only
  split
  · exact miscountAfter_underSeal rfl
  · rfl

theorem indexPulse_underSeal (l : Lane) (s : State) : (indexPulse l s).underSeal = s.underSeal := by
  unfold indexPulse
  dsimp only
  split
  · rfl
  · split
    · exact setLane_underSeal rfl
    · exact setLane_underSeal rfl
    · exact miscountAfter_underSeal rfl

theorem Meter.takeSample_params (m : Meter) (b : Bool) : (m.takeSample b).params = m.params := by rw [Meter.takeSample_eq]

theorem deduct_underSeal (k : TankUnit) (dN : Int) : (k.deduct dN).alpha = k.alpha ∧ (k.deduct dN).points = k.points := by
  unfold TankUnit.deduct
  split
  · exact ⟨rfl, rfl⟩
  · split <;> exact ⟨rfl, rfl⟩

theorem countDrawn_underSeal (k : Tank) (dN : Int) (s : State) : (countDrawn k dN s).underSeal = s.underSeal := by
  unfold countDrawn
  rw [mapDeliveries_underSeal]
  exact setTank_underSeal ⟨rfl, rfl⟩

theorem booked_underSeal (l : Lane) (dN : Int) (s : State) : (s.booked l dN).underSeal = s.underSeal :=
  (setTank_underSeal (s := countDrawn (s.lane l).cfg.tank dN s) (by
    rw [show (countDrawn (s.lane l).cfg.tank dN s).tank (s.lane l).cfg.tank = _ from State.tank_setTank_same _ _ _]
    exact deduct_underSeal _ _)).trans (countDrawn_underSeal _ _ _)

theorem meterSample_underSeal (l : Lane) (s : State) : (meterSample l s).underSeal = s.underSeal := by
  unfold meterSample
  dsimp only
  rw [sampleHose_underSeal]
  split
  · have hfig := testOverrun_figures l (testPreset_figures l (sampleFaults_figures l (s.lane l).meter
      (trimTank_figures (s.lane l).cfg.tank (.refl (s.txnSampled l)))))
    rw [txnSample_eq]
    exact (underSeal_of_figures hfig (by simp [sampleFaults]) (by simp [sampleFaults])).trans
      ((booked_underSeal _ _ _).trans (setLane_underSeal (Meter.takeSample_params _ _)))
  · exact setLane_underSeal (Meter.takeSample_params _ _)

/-! ## Lanes and pumps (R30, R35 to R37, R42, R45, R68) -/

theorem LaneUnit.hearRunning_meter (u : LaneUnit) (k : Tank) : (u.hearRunning k).meter = u.meter := by
  unfold LaneUnit.hearRunning; split <;> rfl

theorem pumpRunning_underSeal (k : Tank) (s : State) : (pumpRunning k s).underSeal = s.underSeal :=
  (lanes_underSeal (s := s.setTank k ((s.tank k).setPump .running none)) fun l => by
    rw [Eight.get_map, LaneUnit.hearRunning_meter]; rfl).trans (setPump_underSeal _ _ _ _)

theorem startLane_underSeal (l : Lane) (s : State) : (startLane l s).underSeal = s.underSeal := by
  have hjoin : ∀ t : State, (joinDemand l t).underSeal = t.underSeal := fun t => by
    unfold joinDemand
    dsimp only
    split
    · exact setLane_underSeal rfl
    · rfl
    · split
      · exact pumpRunning_underSeal _ _
      · exact setPump_underSeal _ _ _ _
  exact (hjoin _).trans (setLane_underSeal rfl)

theorem hookSample_underSeal (l : Lane) (b : Bool) (s : State) : (hookSample l b s).underSeal = s.underSeal := by
  have hevent : ∀ (c : Bool) (t : State), (hookEvent l c t).underSeal = t.underSeal := fun c t => by
    unfold hookEvent
    split
    · exact startLane_underSeal _ _
    · exact endLane_underSeal _ _ _
    · exact endLane_underSeal _ _ _
    · rfl
  have hlane : (s.setLane l { s.lane l with hook := (s.lane l).hook.sample b }).underSeal = s.underSeal := setLane_underSeal rfl
  unfold hookSample
  dsimp only
  split
  · exact (hevent _ _).trans hlane
  · exact hlane

theorem pumpRdySample_underSeal (k : Tank) (b : Bool) (s : State) : (pumpRdySample k b s).underSeal = s.underSeal := by
  have hevent : ∀ (c : Bool) (t : State), (pumpRdyEvent k c t).underSeal = t.underSeal := fun c t => by
    unfold pumpRdyEvent
    split
    · exact pumpRunning_underSeal _ _
    · exact setPump_underSeal _ _ _ _
    · rfl
  have htank : (s.setTank k { s.tank k with rdy := (s.tank k).rdy.sample b }).underSeal = s.underSeal :=
    setTank_underSeal ⟨rfl, rfl⟩
  unfold pumpRdySample
  dsimp only
  split
  · exact htank
  · exact (hevent _ _).trans htank

theorem pumpExpiry_underSeal (k : Tank) (s : State) : (pumpExpiry k s).underSeal = s.underSeal := by
  unfold pumpExpiry
  split
  · split
    · exact (setPump_underSeal _ _ _ _).trans (endLanes_underSeal _ _ _)
    · rfl
  · rfl

theorem authorizationExpiry_underSeal (l : Lane) (s : State) : (authorizationExpiry l s).underSeal = s.underSeal := by
  unfold authorizationExpiry
  split
  · split <;> [exact endLane_underSeal _ _ _; rfl]
  · split <;> [exact endLane_underSeal _ _ _; rfl]
  · rfl

theorem noFlowExpiry_underSeal (l : Lane) (s : State) : (noFlowExpiry l s).underSeal = s.underSeal := by
  unfold noFlowExpiry
  split
  · split <;> [exact endLane_underSeal _ _ _; rfl]
  · rfl

theorem settleEnd_underSeal (l : Lane) (s : State) : (settleEnd l s).underSeal = s.underSeal := by
  unfold settleEnd
  split
  · split <;> [exact closeLane_underSeal _ _; rfl]
  · rfl

/-! ## Gauge samples and discrete inputs (R57 to R75, R87, R144) -/

/-- A tank with the α and the strapping table of another. -/
def TankUnit.sameTable (u v : TankUnit) : Prop := v.alpha = u.alpha ∧ v.points = u.points

theorem TankUnit.takeReading_sameTable (k : TankUnit) (r : Option GaugeReading) : k.sameTable (k.takeReading r).computeNet := by
  have h : k.sameTable (k.takeReading r) := by cases r <;> exact ⟨rfl, rfl⟩
  unfold TankUnit.computeNet
  split <;> exact h

theorem TankUnit.restartWindow_sameTable (k : TankUnit) (n : Nat) : k.sameTable (k.restartWindow n) := by
  unfold TankUnit.restartWindow
  split <;> exact ⟨rfl, rfl⟩

theorem TankUnit.testLoss_sameTable (k : TankUnit) (valid d : Bool) (n : Nat) : k.sameTable (k.testLoss valid d n) := by
  unfold TankUnit.testLoss
  split
  · exact ⟨rfl, rfl⟩
  · split
    · exact ⟨rfl, rfl⟩
    · split
      · exact ⟨rfl, rfl⟩
      · exact k.restartWindow_sameTable n
      · exact ⟨rfl, rfl⟩

theorem TankUnit.ageWindow_sameTable (k : TankUnit) (valid : Bool) (n : Nat) : k.sameTable (k.ageWindow valid n) := by
  unfold TankUnit.ageWindow
  split
  · exact ⟨rfl, rfl⟩
  · split
    · exact k.restartWindow_sameTable n
    · exact ⟨rfl, rfl⟩

theorem TankUnit.latch_sameTable (k : TankUnit) (z : Zone) : k.sameTable (k.latch z) := by
  unfold TankUnit.latch
  split <;> exact ⟨rfl, rfl⟩

theorem zoneSample_underSeal (k : Tank) (level : Nat) (s : State) : (zoneSample k level s).underSeal = s.underSeal := by
  have hz : (s.zoned k level).underSeal = s.underSeal :=
    (postIf_underSeal _ _ _).trans ((setTank_underSeal (TankUnit.latch_sameTable _ _)).trans (setTank_underSeal ⟨rfl, rfl⟩))
  rw [zoneSample_eq]
  split
  · exact ((setPump_underSeal _ _ _ _).trans (endLanes_underSeal _ _ _)).trans hz
  · exact hz

theorem closingGauge_underSeal (k : Tank) (s : State) : (closingGauge k s).underSeal = s.underSeal := by
  unfold closingGauge
  split
  · split
    · rfl
    · exact (post_underSeal _ _).trans (setTank_underSeal ⟨rfl, rfl⟩)
  · rfl

theorem gaugeTaken_underSeal (k : Tank) (r : Option GaugeReading) (s : State) : (gaugeTaken k r s).underSeal = s.underSeal := by
  have hread : State.underSeal { s.setTank k ((s.tank k).takeReading r).computeNet with bus := .polled k } = s.underSeal :=
    setTank_underSeal ((s.tank k).takeReading_sameTable r)
  cases r with
  | none => exact ((postIf_underSeal _ _ _).trans (mapDeliveries_underSeal _ _ _)).trans hread
  | some g => exact ((closingGauge_underSeal _ _).trans (zoneSample_underSeal _ _ _)).trans hread

theorem gaugeHanded_underSeal (k : Tank) (valid : Bool) (s : State) : (gaugeHanded k valid s).underSeal = s.underSeal := by
  have hloss : (testAndHand k valid s).underSeal = s.underSeal := setTank_underSeal (TankUnit.testLoss_sameTable _ _ _ _)
  have hsources : (tankSources k (testAndHand k valid s)).underSeal = s.underSeal :=
    ((sampleSource_underSeal _ _ _).trans (sampleSource_underSeal _ _ _)).trans hloss
  exact (setTank_underSeal (TankUnit.ageWindow_sameTable _ _ _)).trans hsources

theorem gaugeEvent_underSeal (k : Tank) (r : Option GaugeReading) (s : State) : (gaugeEvent k r s).underSeal = s.underSeal := by
  rw [gaugeEvent_eq]
  exact (gaugeHanded_underSeal _ _ _).trans (gaugeTaken_underSeal _ _ _)

theorem gaugeSample_underSeal (k : Tank) (r : Option GaugeReading) (s : State) : (gaugeSample k r s).underSeal = s.underSeal := by
  unfold gaugeSample
  split <;> [exact gaugeEvent_underSeal _ _ _; rfl]

theorem gaugeStale_underSeal (k : Tank) (s : State) : (gaugeStale k s).underSeal = s.underSeal := by
  unfold gaugeStale
  dsimp only
  split
  · exact (gaugeEvent_underSeal _ _ _).trans (setTank_underSeal ⟨rfl, rfl⟩)
  · rfl

theorem staleEnd_underSeal (k : Tank) (s : State) : (staleEnd k s).underSeal = s.underSeal := by
  unfold staleEnd
  split
  · exact (gaugeEvent_underSeal _ _ _).trans (mapDeliveries_underSeal _ _ _)
  · rfl

theorem noGaugeSample_underSeal (k : Tank) (s : State) : (noGaugeSample k s).underSeal = s.underSeal := by
  unfold noGaugeSample
  split
  · exact ((sampleSource_underSeal _ _ _).trans (sampleSource_underSeal _ _ _)).trans (setTank_underSeal ⟨rfl, rfl⟩)
  · rfl

theorem discreteSample_underSeal (low : BitVec 4) (c : Bool) (s : State) : (discreteSample low c s).underSeal = s.underSeal := by
  unfold discreteSample
  simp only [sampleSource_underSeal]

theorem sourceTrip_underSeal (i : SourceId) (s : State) : (sourceTrip i s).underSeal = s.underSeal := by
  unfold sourceTrip
  split
  · exact riseSource_underSeal _ _
  · dsimp only
    split
    · exact (riseSource_underSeal _ _).trans rfl
    · rfl

/-! ## Deadlines, the capture and the whole second (R81, R117, R157, R190, R191) -/

theorem orderDeadline_underSeal (n : Nat) (s : State) : (orderDeadline n s).underSeal = s.underSeal := by
  unfold orderDeadline
  split
  · split <;> rfl
  · rfl

theorem captureSample_underSeal (s : State) : (captureSample s).underSeal = s.underSeal := by
  unfold captureSample
  split <;> rfl

theorem wholeSecond_underSeal (s : State) : (wholeSecond s).underSeal = s.underSeal := by
  unfold wholeSecond
  split
  · exact underSeal_eq_iff.2 ⟨⟨fun l => by simp [runningSecond, State.lane, LaneUnit.tick], fun k => by
      simp [runningSecond, State.tank]⟩, rfl, rfl⟩
  · rfl
  · rfl

end

end Sys2Proof.Machine
end

section
/-! No command changes a calibration parameter while the lock is shut, and every command leaves the queue alone: start-up, the requests,
and every command of the table (R163 to R166, R169 to R173, R178, R197). -/

namespace Sys2Proof.Machine

/-- From s to t the queue is as it was and, where the marker is present and the lock shut, so are the calibration parameters and a
PERMANENT lock (R163, R166, R170). -/
structure KeepsSeal (s t : State) : Prop where
  pending : t.pending = s.pending
  shut : s.device.formatMarker = true → s.cal.lock ≠ .unlocked →
    s.sameCalibration t ∧ (s.cal.lock = .permanent → t.cal.lock = .permanent)

theorem keepsSeal_of_same {s t : State} (h : t.underSeal = s.underSeal) : KeepsSeal s t :=
  have ⟨hcal, hlock, hpending⟩ := underSeal_eq_iff.1 h
  ⟨hpending, fun _ _ => ⟨hcal, hlock.trans⟩⟩

section

variable {s : State}

/-! ## Supply, reset and start-up (R169 to R173, R197) -/

theorem hold_underSeal (s : State) : (hold s).underSeal = s.underSeal :=
  underSeal_eq_iff.2 ⟨⟨fun l => by simp [hold, State.lane, LaneUnit.releaseOutputs], fun k => by
    simp [hold, State.tank, TankUnit.releaseOutputs]⟩, rfl, rfl⟩

theorem startUp_pending (cause : StartCause) (straps : BitVec 2) (s : State) : (startUp cause straps s).pending = s.pending := by
  rw [startUp_eq]
  show (checkMarker s).pending = s.pending
  unfold checkMarker
  split <;> rfl

/-- A start-up that finds the marker keeps the calibration and its lock (R163, R170). -/
theorem startUp_underSeal (cause : StartCause) (straps : BitVec 2) (h : s.device.formatMarker = true) :
    (startUp cause straps s).underSeal = s.underSeal := by
  refine underSeal_eq_iff.2 ⟨⟨fun l => ?_, fun k => ?_⟩, ?_, startUp_pending _ _ _⟩ <;> rw [startUp_eq, checkMarker_present h]
  · simp [State.lane, LaneUnit.atStartUp, Meter.atStartUp]
  · exact resetVolatile_tank cause straps s k ▸ ⟨rfl, rfl⟩
  · rfl

theorem startUp_seal (cause : StartCause) (straps : BitVec 2) (s : State) : KeepsSeal s (startUp cause straps s) :=
  ⟨startUp_pending _ _ _, fun hm => (keepsSeal_of_same (startUp_underSeal cause straps hm)).shut hm⟩

/-- A start-up after a change of the supply or of the RESET pin, neither of which reaches the marker (R170). -/
theorem powerUp_seal (straps : BitVec 2) {d : Device} (hd : d.formatMarker = s.device.formatMarker) :
    KeepsSeal s (powerUp straps { s with device := d }) := by
  unfold powerUp
  split
  · have h := startUp_seal .powerOrPin straps { s with device := d }
    exact ⟨h.pending, fun hm => h.shut (hd.trans hm)⟩
  · exact keepsSeal_of_same rfl

theorem enterRunning_underSeal (a b : LaneSet) (s : State) : (enterRunning a b s).underSeal = s.underSeal :=
  underSeal_eq_iff.2 ⟨⟨fun l => by rw [enterRunning_lane]; rfl, fun k => by rw [enterRunning_tank]; exact ⟨rfl, rfl⟩⟩,
    by simp [enterRunning], by simp [enterRunning]⟩

theorem bayRestartAnswer_seal (i : PortId) (straps : BitVec 2) (s : State) : KeepsSeal s (bayRestartAnswer i straps s).state := by
  unfold bayRestartAnswer
  split
  · exact keepsSeal_of_same rfl
  · have h := startUp_seal .bayRestart straps s
    exact ⟨h.pending, h.shut⟩

/-! ## The ports, the clock, the accounts and the orders (R96 to R122, R184 to R190) -/

theorem clearEventsAnswer_underSeal (i : PortId) (kinds : BitVec 16) (s : State) :
    (clearEventsAnswer i kinds s).state.underSeal = s.underSeal := by
  unfold clearEventsAnswer
  split <;> rfl

theorem setAttentionAnswer_underSeal (i : PortId) (mask : BitVec 16) (mode width : Nat) (s : State) :
    (setAttentionAnswer i mask mode width s).state.underSeal = s.underSeal := by
  unfold setAttentionAnswer
  split
  · split <;> rfl
  · rfl

theorem setAccessAnswer_underSeal (v : AccessSetting) (s : State) : (setAccessAnswer v s).state.underSeal = s.underSeal := by
  unfold setAccessAnswer
  split
  · split <;> rfl
  · rfl

theorem setClockAnswer_underSeal (value : Nat) (s : State) : (setClockAnswer value s).state.underSeal = s.underSeal := by
  unfold setClockAnswer
  split <;> rfl

theorem enrolAnswer_underSeal (tag : Tag) (cls : Nat) (permits : TankSet) (capacity : Nat) (items : List ItemSetting) (s : State) :
    (enrolAnswer tag cls permits capacity items s).state.underSeal = s.underSeal := by
  unfold enrolAnswer
  split
  · rfl
  · split <;> rfl

theorem retireAnswer_underSeal (tag : Tag) (s : State) : (retireAnswer tag s).state.underSeal = s.underSeal := by
  unfold retireAnswer
  split
  · rfl
  · split <;> rfl

theorem setMachineAnswer_underSeal (tag : Tag) (cls state : Nat) (permits : TankSet) (capacity : Nat) (items : List ItemSetting)
    (s : State) : (setMachineAnswer tag cls state permits capacity items s).state.underSeal = s.underSeal := by
  unfold setMachineAnswer
  split
  · split <;> rfl
  · rfl

theorem setClassAnswer_underSeal (cls hours ceiling : Nat) (s : State) :
    (setClassAnswer cls hours ceiling s).state.underSeal = s.underSeal := by
  unfold setClassAnswer
  split
  · split <;> rfl
  · rfl

theorem readAccountAnswer_underSeal (tag : Tag) (s : State) : (readAccountAnswer tag s).state.underSeal = s.underSeal := by
  unfold readAccountAnswer
  split <;> rfl

theorem readAccountsAnswer_underSeal (i : PortId) (direction count : Nat) (s : State) :
    (readAccountsAnswer i direction count s).state.underSeal = s.underSeal := by
  unfold readAccountsAnswer
  split
  · rfl
  · split <;> rfl

theorem setCursorAnswer_underSeal (i : PortId) (slot : Nat) (s : State) :
    (setCursorAnswer i slot s).state.underSeal = s.underSeal := by
  unfold setCursorAnswer
  split <;> rfl

theorem placeOrderAnswer_underSeal (tag : Tag) (tank volume priority expiry : Nat) (s : State) :
    (placeOrderAnswer tag tank volume priority expiry s).state.underSeal = s.underSeal := by
  unfold placeOrderAnswer
  split
  · split
    · unfold placeChecked
      split
      · rfl
      · split
        · rfl
        · split <;> rfl
    · rfl
  · rfl

theorem cancelOrderAnswer_underSeal (n : Nat) (s : State) : (cancelOrderAnswer n s).state.underSeal = s.underSeal := by
  unfold cancelOrderAnswer
  split
  · rfl
  · split <;> rfl

/-! ## The lanes (R31 to R34, R50) -/

theorem grantOpen_underSeal (r : OpenRequest) (g : OpenGrant) (s : State) : (grantOpen r g s).underSeal = s.underSeal :=
  (setTank_underSeal (s := s.setLane r.lane ((s.lane r.lane).authorize r g s.stamp (s.tank (s.lane r.lane).cfg.tank).t10))
    (k := (s.lane r.lane).cfg.tank)
    (u := { s.tank (s.lane r.lane).cfg.tank with
      draws := (s.tank (s.lane r.lane).cfg.tank).draws ++ [{ lane := r.lane, alloc := g.preset, remaining := g.preset }] })
    ⟨rfl, rfl⟩).trans (setLane_underSeal rfl)

theorem openLaneAnswer_underSeal (i : PortId) (lane : Nat) (tag : Tag) (order : Nat) (preset hours : Option Nat) (override : Nat)
    (s : State) : (openLaneAnswer i lane tag order preset hours override s).state.underSeal = s.underSeal := by
  unfold openLaneAnswer
  split
  · unfold openAnswer
    split
    · rfl
    · unfold acceptOpen
      dsimp only
      split
      · exact (startLane_underSeal _ _).trans (grantOpen_underSeal _ _ _)
      · exact grantOpen_underSeal _ _ _
  · rfl

theorem stopAnswer_underSeal (l : Lane) (s : State) : (stopAnswer l s).state.underSeal = s.underSeal := by
  unfold stopAnswer
  split
  · rfl
  · rfl
  · exact endLane_underSeal _ _ _

theorem setLaneAnswer_underSeal (v : LaneSetting) (l : Lane) (s : State) : (setLaneAnswer v l s).state.underSeal = s.underSeal := by
  unfold setLaneAnswer
  dsimp only
  split
  · rfl
  · split
    · rfl
    · exact (blankIf_underSeal _ _ _).trans (setLane_underSeal rfl)

/-! ## The tanks (R55, R56, R63, R73) -/

theorem setTankAnswer_underSeal (v : TankSetting) (k : Tank) (s : State) : (setTankAnswer v k s).state.underSeal = s.underSeal := by
  unfold setTankAnswer
  dsimp only
  split
  · rfl
  · rename_i c _
    split
    · rfl
    · obtain ⟨_, _, _, htable⟩ := configure_store (s.tank k) c
      exact ((blankIf_underSeal _ _ _).trans (blankIf_underSeal _ _ _)).trans (setTank_underSeal htable)

theorem setReserveAnswer_underSeal (n : Nat) (k : Tank) (s : State) : (setReserveAnswer n k s).state.underSeal = s.underSeal := by
  unfold setReserveAnswer
  dsimp only
  split
  · rfl
  · exact setTank_underSeal ⟨rfl, rfl⟩

theorem TankUnit.adjust_sameTable (k : TankUnit) (book : Nat) (clear d : Bool) (n : Nat) : k.sameTable (k.adjust book clear d n) := by
  unfold TankUnit.adjust
  generalize (if clear = true then 0 else k.shortage) = shortage
  dsimp only
  split
  · exact TankUnit.restartWindow_sameTable { k with book := book, shortage := shortage } n
  · exact ⟨rfl, rfl⟩

theorem adjustAnswer_underSeal (book clear : Nat) (k : Tank) (s : State) :
    (adjustAnswer book clear k s).state.underSeal = s.underSeal := by
  unfold adjustAnswer
  split
  · rfl
  · split
    · rfl
    · exact (trimTank_underSeal _ _).trans (setTank_underSeal (TankUnit.adjust_sameTable _ _ _ _ _))

theorem ackAnswer_underSeal (k : Tank) (s : State) : (ackAnswer k s).state.underSeal = s.underSeal := setTank_underSeal ⟨rfl, rfl⟩

theorem ackAllAnswer_underSeal (s : State) : (ackAllAnswer s).state.underSeal = s.underSeal :=
  tanks_underSeal fun k => by rw [Eight.get_map]; exact ⟨rfl, rfl⟩

/-! ## The deliveries (R80 to R91) -/

theorem announceAnswer_underSeal (tank : Nat) (identity : BitVec 64) (docket : Nat) (s : State) :
    (announceAnswer tank identity docket s).state.underSeal = s.underSeal := by
  unfold announceAnswer
  split
  · rfl
  · split
    · rfl
    · split
      · rfl
      · split <;> rfl

theorem confirmAnswer_underSeal (settle fixedTol propTol : Option Nat) (e : DeliveryEntry) (s : State) :
    (confirmAnswer settle fixedTol propTol e s).state.underSeal = s.underSeal := by
  unfold confirmAnswer
  dsimp only
  split
  · rfl
  · split
    · rfl
    · split
      · rfl
      · split
        · rfl
        · exact setTank_underSeal (s := mapDeliveries _ _ s) ⟨rfl, rfl⟩

theorem endDeliveryAnswer_underSeal (e : DeliveryEntry) (s : State) : (endDeliveryAnswer e s).state.underSeal = s.underSeal := by
  unfold endDeliveryAnswer
  split
  · exact endDischarge_underSeal _ _ _
  · rfl
  · rfl

theorem withdrawAnswer_underSeal (e : DeliveryEntry) (s : State) : (withdrawAnswer e s).state.underSeal = s.underSeal := by
  unfold withdrawAnswer
  split <;> rfl

theorem releaseDeliveryAnswer_underSeal (e : DeliveryEntry) (s : State) :
    (releaseDeliveryAnswer e s).state.underSeal = s.underSeal := by
  unfold releaseDeliveryAnswer
  split <;> rfl

/-! ## The records, the trips and the sources (R137 to R140, R148 to R160) -/

theorem setPolicyAnswer_underSeal (policy threshold : Nat) (s : State) :
    (setPolicyAnswer policy threshold s).state.underSeal = s.underSeal := by
  unfold setPolicyAnswer
  split
  · split
    · exact postIf_underSeal _ _ _
    · rfl
  · rfl

theorem collectAnswer_underSeal (n : Nat) (s : State) : (collectAnswer n s).state.underSeal = s.underSeal := by
  unfold collectAnswer
  split <;> rfl

theorem releaseAnswer_underSeal (n : Nat) (s : State) : (releaseAnswer n s).state.underSeal = s.underSeal := by
  unfold releaseAnswer
  split <;> rfl

theorem recordStatusAnswer_underSeal (n : Nat) (s : State) : (recordStatusAnswer n s).state.underSeal = s.underSeal := by
  unfold recordStatusAnswer
  split
  · rfl
  · dsimp only [Answer.ok]
    split <;> rfl

theorem readTripsAnswer_underSeal (n : Nat) (s : State) : (readTripsAnswer n s).state.underSeal = s.underSeal := by
  unfold readTripsAnswer
  split
  · rfl
  · dsimp only [Answer.ok]
    split <;> rfl

theorem readCaptureAnswer_underSeal (n : Nat) (s : State) : (readCaptureAnswer n s).state.underSeal = s.underSeal := by
  unfold readCaptureAnswer
  split <;> rfl

theorem releaseTripsAnswer_underSeal (n : Nat) (s : State) : (releaseTripsAnswer n s).state.underSeal = s.underSeal := by
  unfold releaseTripsAnswer
  split <;> rfl

theorem releaseCaptureAnswer_underSeal (s : State) : (releaseCaptureAnswer s).state.underSeal = s.underSeal := by
  unfold releaseCaptureAnswer
  split <;> rfl

theorem rearmAnswer_underSeal (i : SourceId) (s : State) : (rearmAnswer i s).state.underSeal = s.underSeal := by
  unfold rearmAnswer
  dsimp only
  split
  · rfl
  · split <;> rfl

theorem setSourceAnswer_underSeal (v : SourceSetting) (i : SourceId) (s : State) :
    (setSourceAnswer v i s).state.underSeal = s.underSeal := by
  unfold setSourceAnswer
  split
  · show (changeSource i v s).underSeal = s.underSeal
    unfold changeSource
    dsimp only
    split
    · exact (blockAll_underSeal _ _ _).trans rfl
    · rfl
  · rfl

theorem setUnitAnswer_underSeal (n : Nat) (s : State) : (setUnitAnswer n s).state.underSeal = s.underSeal := by
  unfold setUnitAnswer
  split <;> rfl

/-! ## The calibration lock (R163 to R166) -/

/-- A shut lock refuses every guarded request, and whatever it does under an open one the queue is left alone (R166). -/
theorem guarded_seal {busy : Bool} {act : State → State} (h : (act s).pending = s.pending) :
    KeepsSeal s (guarded busy act s).state where
  pending := by
    unfold guarded
    split
    · rfl
    · split
      · rfl
      · exact h
  shut := fun _ hl => by
    rw [guarded_locked hl]
    exact ⟨⟨fun _ => rfl, fun _ => ⟨rfl, rfl⟩⟩, id⟩

theorem setMeterAnswer_seal (v : MeterSetting) (l : Lane) (s : State) : KeepsSeal s (setMeterAnswer v l s).state := by
  unfold setMeterAnswer
  split
  · exact guarded_seal rfl
  · exact keepsSeal_of_same rfl

theorem setProductAnswer_seal (alpha : Nat) (k : Tank) (s : State) : KeepsSeal s (setProductAnswer alpha k s).state := by
  unfold setProductAnswer
  split
  · exact guarded_seal rfl
  · exact keepsSeal_of_same rfl

theorem setStrappingAnswer_seal (points : List (Nat × Nat)) (k : Tank) (s : State) :
    KeepsSeal s (setStrappingAnswer points k s).state := by
  unfold setStrappingAnswer
  split
  · exact guarded_seal rfl
  · exact keepsSeal_of_same rfl

/-- LOCK_CAL shuts an open lock, and is refused by a shut one (R164). -/
theorem lockAnswer_seal (code : Nat) (s : State) : KeepsSeal s (lockAnswer code s).state := by
  unfold lockAnswer
  split
  · rename_i hl
    exact ⟨rfl, fun _ h => absurd hl h⟩
  · exact keepsSeal_of_same rfl

/-- UNLOCK_CAL opens no PERMANENT lock, and reaches no parameter (R165). -/
theorem unlockAnswer_seal (code : Nat) (s : State) : KeepsSeal s (unlockAnswer code s).state := by
  unfold unlockAnswer
  split
  · exact keepsSeal_of_same rfl
  · exact keepsSeal_of_same rfl
  · rename_i c hl
    split
    · exact keepsSeal_of_same rfl
    · split
      · exact ⟨rfl, fun _ _ => ⟨⟨fun _ => rfl, fun _ => ⟨rfl, rfl⟩⟩, fun hp => nomatch hl.symm.trans hp⟩⟩
      · exact keepsSeal_of_same rfl

/-! ## Serving (R171, R176 to R178) -/

theorem serve_seal {f : Frame} {code : Byte} {a : Access} {act : State → Answer} (h : KeepsSeal s (act s).state) :
    KeepsSeal s (serve f code a act s) := by
  rcases serve_cases f code a act s with ⟨_, e⟩ | ⟨_, _, e⟩ | ⟨_, _, e⟩ | ⟨_, _, _, e⟩ | ⟨_, _, _, e⟩ <;> rw [e]
  · exact keepsSeal_of_same rfl
  · exact keepsSeal_of_same rfl
  · exact keepsSeal_of_same rfl
  · exact keepsSeal_of_same rfl
  · exact ⟨h.pending, h.shut⟩

/-- A request whose owning block reaches nothing under the seal. -/
theorem serve_sealed {f : Frame} {code : Byte} {a : Access} {act : State → Answer} (h : (act s).state.underSeal = s.underSeal) :
    KeepsSeal s (serve f code a act s) := serve_seal (keepsSeal_of_same h)

theorem whenRunning_seal {f : State → State} (h : (f s).underSeal = s.underSeal) : KeepsSeal s (s.whenRunning f) := by
  unfold State.whenRunning
  split
  · exact keepsSeal_of_same h
  · exact keepsSeal_of_same rfl

theorem onLine_seal {f : State → State} (h : (f s).underSeal = s.underSeal) : KeepsSeal s (s.onLine f) := by
  unfold State.onLine
  split
  · exact keepsSeal_of_same rfl
  · exact keepsSeal_of_same h

theorem onLane_seal {n : Nat} {act : Lane → State → Answer} (h : ∀ l, KeepsSeal s (act l s).state) :
    KeepsSeal s (onLane n act s).state := by
  unfold onLane
  split
  · exact h _
  · exact keepsSeal_of_same rfl

theorem onTank_seal {n : Nat} {act : Tank → State → Answer} (h : ∀ k, KeepsSeal s (act k s).state) :
    KeepsSeal s (onTank n act s).state := by
  unfold onTank
  split
  · exact h _
  · exact keepsSeal_of_same rfl

theorem serve_lane_sealed {f : Frame} {code : Byte} {a : Access} {n : Nat} {act : Lane → State → Answer}
    (h : ∀ l, (act l s).state.underSeal = s.underSeal) : KeepsSeal s (serve f code a (onLane n act) s) :=
  serve_seal (onLane_seal fun l => keepsSeal_of_same (h l))

theorem serve_tank_sealed {f : Frame} {code : Byte} {a : Access} {n : Nat} {act : Tank → State → Answer}
    (h : ∀ k, (act k s).state.underSeal = s.underSeal) : KeepsSeal s (serve f code a (onTank n act) s) :=
  serve_seal (onTank_seal fun k => keepsSeal_of_same (h k))

theorem onSource_underSeal {n : Nat} {act : SourceId → State → Answer} (h : ∀ i, (act i s).state.underSeal = s.underSeal) :
    (onSource n act s).state.underSeal = s.underSeal := by
  unfold onSource
  split
  · exact h _
  · rfl

theorem onDelivery_underSeal {n : Nat} {act : DeliveryEntry → State → Answer} (h : ∀ e, (act e s).state.underSeal = s.underSeal) :
    (onDelivery n act s).state.underSeal = s.underSeal := by
  unfold onDelivery
  split
  · exact h _
  · rfl

theorem readDeliveryAnswer_underSeal (n : Nat) (s : State) : (readDeliveryAnswer n s).state.underSeal = s.underSeal := by
  unfold readDeliveryAnswer
  split
  · rfl
  · exact onDelivery_underSeal fun _ => rfl

end

/-! ## Every command -/

theorem execUnknownRequest_seal (f : Frame) (code : Byte) (payload : List Byte) (s : State) :
    ∃ t, execUnknownRequest f code payload s = .next t ∧ KeepsSeal s t := by
  refine ⟨_, rfl, onLine_seal ?_⟩
  split
  · rfl
  · split <;> rfl

/-- Every command completes, leaves the queue alone, and keeps what a shut lock guards. -/
theorem exec_seal (c : Instr) (s : State) : ∃ t, exec c s = .next t ∧ KeepsSeal s t := by
  cases c with
  | powerOn straps => exact ⟨_, rfl, powerUp_seal straps rfl⟩
  | resetAsserted cause =>
    cases cause with
    | pin => exact ⟨_, rfl, keepsSeal_of_same (hold_underSeal _)⟩
    | lowSupply => exact ⟨_, rfl, keepsSeal_of_same (hold_underSeal _)⟩
  | resetReleased straps => exact ⟨_, rfl, powerUp_seal straps rfl⟩
  | powerLoss => exact ⟨_, rfl, keepsSeal_of_same (hold_underSeal _)⟩
  | restoreComplete a b =>
    refine ⟨_, rfl, ?_⟩
    split
    · exact keepsSeal_of_same (enterRunning_underSeal a b s)
    · exact keepsSeal_of_same rfl
  | quadratureEdge l a b => exact ⟨_, rfl, whenRunning_seal (decoderSample_underSeal l a b s)⟩
  | illegalTransition l => exact ⟨_, rfl, whenRunning_seal (illegalPair_underSeal l _ _ s)⟩
  | meterFault l => exact ⟨_, rfl, whenRunning_seal (meterFault_underSeal l s)⟩
  | indexPulse l => exact ⟨_, rfl, whenRunning_seal (indexPulse_underSeal l s)⟩
  | meterSample l => exact ⟨_, rfl, whenRunning_seal (meterSample_underSeal l s)⟩
  | hookSample l level => exact ⟨_, rfl, whenRunning_seal (hookSample_underSeal l level s)⟩
  | pumpRdySample k level => exact ⟨_, rfl, whenRunning_seal (pumpRdySample_underSeal k level s)⟩
  | pumpTimerExpiry k => exact ⟨_, rfl, whenRunning_seal (pumpExpiry_underSeal k s)⟩
  | authorizationTimerExpiry l => exact ⟨_, rfl, whenRunning_seal (authorizationExpiry_underSeal l s)⟩
  | noFlowTimerExpiry l => exact ⟨_, rfl, whenRunning_seal (noFlowExpiry_underSeal l s)⟩
  | settlePeriodEnd l => exact ⟨_, rfl, whenRunning_seal (settleEnd_underSeal l s)⟩
  | attentionPulseExpiry p => exact ⟨_, rfl, whenRunning_seal rfl⟩
  | gaugeSample k reply => exact ⟨_, rfl, whenRunning_seal (gaugeSample_underSeal k _ s)⟩
  | gaugeStale k => exact ⟨_, rfl, whenRunning_seal (gaugeStale_underSeal k s)⟩
  | staleEnd k => exact ⟨_, rfl, whenRunning_seal (staleEnd_underSeal k s)⟩
  | noGaugeTankTimer k => exact ⟨_, rfl, whenRunning_seal (noGaugeSample_underSeal k s)⟩
  | discreteInputSample low c => exact ⟨_, rfl, whenRunning_seal (discreteSample_underSeal low c s)⟩
  | sourceTrip src => exact ⟨_, rfl, whenRunning_seal (sourceTrip_underSeal src s)⟩
  | captureSampleTimerExpiry => exact ⟨_, rfl, whenRunning_seal (captureSample_underSeal s)⟩
  | announcementTimerExpiry n => exact ⟨_, rfl, whenRunning_seal (postIf_underSeal _ _ _)⟩
  | deliverySettleTimerExpiry n => exact ⟨_, rfl, whenRunning_seal rfl⟩
  | orderDeadline n => exact ⟨_, rfl, whenRunning_seal (orderDeadline_underSeal n s)⟩
  | frameRejected p bytes stopLow => exact ⟨_, rfl, onLine_seal rfl⟩
  | frameGapTimeout p => exact ⟨_, rfl, onLine_seal rfl⟩
  | overlappingFrame p => exact ⟨_, rfl, onLine_seal rfl⟩
  | shunningIdleEnd p => exact ⟨_, rfl, onLine_seal rfl⟩
  | replyComplete p => exact ⟨_, rfl, onLine_seal rfl⟩
  | unknownRequest f code payload => exact execUnknownRequest_seal f code payload s
  | readEvents f => exact ⟨_, rfl, serve_sealed rfl⟩
  | clearEvents f kinds => exact ⟨_, rfl, serve_sealed (clearEventsAnswer_underSeal _ _ s)⟩
  | setAttention f mask mode width => exact ⟨_, rfl, serve_sealed (setAttentionAnswer_underSeal _ _ _ _ s)⟩
  | readPort f => exact ⟨_, rfl, serve_sealed rfl⟩
  | readLane f lane => exact ⟨_, rfl, serve_lane_sealed fun _ => setLane_underSeal rfl⟩
  | readStock f => exact ⟨_, rfl, serve_sealed rfl⟩
  | readTank f tank => exact ⟨_, rfl, serve_tank_sealed fun _ => rfl⟩
  | readAccount f tag => exact ⟨_, rfl, serve_sealed (readAccountAnswer_underSeal tag s)⟩
  | readAccounts f direction count => exact ⟨_, rfl, serve_sealed (readAccountsAnswer_underSeal _ _ _ s)⟩
  | setCursor f slot => exact ⟨_, rfl, serve_sealed (setCursorAnswer_underSeal _ _ s)⟩
  | listOrders f => exact ⟨_, rfl, serve_sealed rfl⟩
  | readDelivery f number => exact ⟨_, rfl, serve_sealed (readDeliveryAnswer_underSeal _ s)⟩
  | readTrips f clear => exact ⟨_, rfl, serve_sealed (readTripsAnswer_underSeal _ s)⟩
  | readTripsSource f index => exact ⟨_, rfl, serve_sealed (onSource_underSeal fun _ => rfl)⟩
  | readCapture f start => exact ⟨_, rfl, serve_sealed (readCaptureAnswer_underSeal _ s)⟩
  | readCal f => exact ⟨_, rfl, serve_sealed rfl⟩
  | readRecordStatus f clear => exact ⟨_, rfl, serve_sealed (recordStatusAnswer_underSeal _ s)⟩
  | placeOrder f tag tank volume priority expiry => exact ⟨_, rfl, serve_sealed (placeOrderAnswer_underSeal _ _ _ _ _ s)⟩
  | cancelOrder f number => exact ⟨_, rfl, serve_sealed (cancelOrderAnswer_underSeal _ s)⟩
  | openLane f lane tag order preset hours override =>
    exact ⟨_, rfl, serve_sealed (openLaneAnswer_underSeal _ _ _ _ _ _ _ s)⟩
  | stopLane f lane => exact ⟨_, rfl, serve_lane_sealed fun l => stopAnswer_underSeal l s⟩
  | enableLane f lane => exact ⟨_, rfl, serve_lane_sealed fun _ => setLane_underSeal (by rw [LaneUnit.enable_meter])⟩
  | disableLane f lane => exact ⟨_, rfl, serve_lane_sealed fun _ => setLane_underSeal (by rw [LaneUnit.disable_meter])⟩
  | setTankReserve f tank reserve => exact ⟨_, rfl, serve_tank_sealed fun k => setReserveAnswer_underSeal _ k s⟩
  | adjustStock f tank book clear => exact ⟨_, rfl, serve_tank_sealed fun k => adjustAnswer_underSeal _ _ k s⟩
  | ackAlarms f tank => exact ⟨_, rfl, serve_tank_sealed fun k => ackAnswer_underSeal k s⟩
  | ackAlarmsAll f => exact ⟨_, rfl, serve_sealed (ackAllAnswer_underSeal s)⟩
  | enrolMachine f tag cls permits capacity items => exact ⟨_, rfl, serve_sealed (enrolAnswer_underSeal _ _ _ _ _ s)⟩
  | retireMachine f tag => exact ⟨_, rfl, serve_sealed (retireAnswer_underSeal _ s)⟩
  | setMachine f tag cls state permits capacity items =>
    exact ⟨_, rfl, serve_sealed (setMachineAnswer_underSeal _ _ _ _ _ _ s)⟩
  | announceDelivery f tank identity docket => exact ⟨_, rfl, serve_sealed (announceAnswer_underSeal _ _ _ s)⟩
  | confirmDelivery f number settle fixedTol propTol =>
    exact ⟨_, rfl, serve_sealed (onDelivery_underSeal fun e => confirmAnswer_underSeal _ _ _ e s)⟩
  | endDelivery f number => exact ⟨_, rfl, serve_sealed (onDelivery_underSeal fun e => endDeliveryAnswer_underSeal e s)⟩
  | withdrawDelivery f number => exact ⟨_, rfl, serve_sealed (onDelivery_underSeal fun e => withdrawAnswer_underSeal e s)⟩
  | releaseDelivery f number => exact ⟨_, rfl, serve_sealed (onDelivery_underSeal fun e => releaseDeliveryAnswer_underSeal e s)⟩
  | collectRecords f count => exact ⟨_, rfl, serve_sealed (collectAnswer_underSeal _ s)⟩
  | releaseRecords f number => exact ⟨_, rfl, serve_sealed (releaseAnswer_underSeal _ s)⟩
  | rearm f index => exact ⟨_, rfl, serve_sealed (onSource_underSeal fun i => rearmAnswer_underSeal i s)⟩
  | rearmAll f => exact ⟨_, rfl, serve_sealed rfl⟩
  | manualTrip f => exact ⟨_, rfl, serve_sealed (riseSource_underSeal _ s)⟩
  | releaseTrips f number => exact ⟨_, rfl, serve_sealed (releaseTripsAnswer_underSeal _ s)⟩
  | releaseCapture f => exact ⟨_, rfl, serve_sealed (releaseCaptureAnswer_underSeal s)⟩
  | setLane f lane v => exact ⟨_, rfl, serve_lane_sealed fun l => setLaneAnswer_underSeal v l s⟩
  | setTank f tank v => exact ⟨_, rfl, serve_tank_sealed fun k => setTankAnswer_underSeal v k s⟩
  | setSource f index v => exact ⟨_, rfl, serve_sealed (onSource_underSeal fun i => setSourceAnswer_underSeal v i s)⟩
  | setSourceUnit f count => exact ⟨_, rfl, serve_sealed (setUnitAnswer_underSeal _ s)⟩
  | setClass f cls hours ceiling => exact ⟨_, rfl, serve_sealed (setClassAnswer_underSeal _ _ _ s)⟩
  | setRecordPolicy f policy threshold => exact ⟨_, rfl, serve_sealed (setPolicyAnswer_underSeal _ _ s)⟩
  | setClock f value => exact ⟨_, rfl, serve_sealed (setClockAnswer_underSeal _ s)⟩
  | setAccess f v => exact ⟨_, rfl, serve_sealed (setAccessAnswer_underSeal v s)⟩
  | bayRestart f straps => exact ⟨_, rfl, serve_seal (bayRestartAnswer_seal _ _ s)⟩
  | setMeter f lane v => exact ⟨_, rfl, serve_seal (onLane_seal fun l => setMeterAnswer_seal v l s)⟩
  | setProduct f tank alpha => exact ⟨_, rfl, serve_seal (onTank_seal fun k => setProductAnswer_seal alpha k s)⟩
  | setStrapping f tank points => exact ⟨_, rfl, serve_seal (onTank_seal fun k => setStrappingAnswer_seal points k s)⟩
  | lockCal f code => exact ⟨_, rfl, serve_seal (lockAnswer_seal _ s)⟩
  | unlockCal f code => exact ⟨_, rfl, serve_seal (unlockAnswer_seal _ s)⟩
  | wholeSecond => exact ⟨_, rfl, keepsSeal_of_same (wholeSecond_underSeal s)⟩

/-- Settles O59: every command keeps what a shut lock guards; only the guarded requests reach a parameter, and it refuses them. -/
theorem shutLockGuardsCalibration : Obligations.ShutLockGuardsCalibration := by
  intro c s t h
  obtain ⟨u, hu, hk⟩ := exec_seal c s
  rw [hu] at h
  cases h
  exact hk.shut

/-- Settles O2: the same lemma of every command gives the next state and the queue. -/
theorem everyCommandCompletes : Obligations.EveryCommandCompletes := fun c s =>
  have ⟨t, ht, hk⟩ := exec_seal c s
  ⟨t, ht, hk.pending⟩

end Sys2Proof.Machine
end

section
/-! Requests refused by their port, commands without effect outside RUNNING, the device held (R169, R171, R177, R178, R181,
R197). -/

namespace Sys2Proof.Machine

section

variable {s : State} {f : Frame} {c : Instr}

/-! ## What each kind of command is served by (R171, R177, R181) -/

/-- Each request is served under the code that names it and the access check of the tables of R180 to R182. -/
theorem request_exec (s : State) (h : c.requestFrame = some f) :
    ∃ code a act, requestCode c = some code ∧ exec c s = .next (serve f code a act s) ∧
      accessPasses s f.port a = s.permits f.port c := by
  cases c <;> cases h <;> exact ⟨_, _, _, rfl, rfl, rfl⟩

/-- Each field sample, condition and expiry acts under the guard of RUNNING (R171). -/
theorem fieldOrTimer_exec (s : State) (h : c.fieldOrTimer = true) : ∃ act, exec c s = .next (s.whenRunning act) := by
  cases c <;> cases h <;> exact ⟨_, rfl⟩

/-! ## STARTING and DENIED (R171, R177, R181) -/

theorem serve_starting {code : Byte} {a : Access} {act : State → Answer} (hp : s.device.phase = .restoring)
    (hr : (s.port f.port).ready = true) : serve f code a act s = s.reply f code .starting .nothing := by
  simp [serve, hp, hr]

theorem serve_denied {code : Byte} {a : Access} {act : State → Answer} (hp : s.device.phase = .running)
    (hr : (s.port f.port).ready = true) (ha : accessPasses s f.port a = false) :
    serve f code a act s = s.reply f code .denied .nothing := by
  simp [serve, hp, hr, ha]

theorem serve_held {code : Byte} {a : Access} {act : State → Answer} (hp : s.device.phase = .held) : serve f code a act s = s := by
  simp [serve, hp]

theorem onLine_held {act : State → State} (hp : s.device.phase = .held) : s.onLine act = s := by simp [State.onLine, hp]

theorem onLine_powered {act : State → State} (hp : s.device.phase ≠ .held) : s.onLine act = act s := by
  cases h : s.device.phase <;> simp_all [State.onLine]

end

/-- Settles O3: every request is served, and a refusal by its port is a reply and nothing else. -/
theorem refusedRequestChangesNothing : Obligations.RefusedRequestChangesNothing := by
  intro c s f code hf hc hr
  obtain ⟨code', a, act, hc', he, ha⟩ := request_exec s hf
  obtain rfl : code' = code := Option.some.inj (hc'.symm.trans hc)
  have hreply : ∀ st, (s.reply f code' st .nothing).answers f code' st .nothing ∧ s.sameButPorts (s.reply f code' st .nothing) ∧
      s.otherPorts (s.reply f code' st .nothing) f.port := fun st =>
    have ⟨hanswers, hbut, hother, _⟩ := reply_onlyAnswers s f code' st .nothing
    ⟨hanswers, hbut, hother⟩
  refine ⟨fun hp => ⟨_, ?_, hreply .starting⟩, fun hp hd => ⟨_, ?_, hreply .denied⟩⟩
  · rw [he, serve_starting hp hr]
  · rw [he, serve_denied hp hr (ha.trans hd)]

/-! ## No sample outside RUNNING, no event in a held device (R171, R197) -/

/-- A device held takes no command but those of its supply and its RESET pin. -/
theorem exec_held {c : Instr} {s : State} (h : c.supplyOrReset = false) (hp : s.device.phase = .held) : exec c s = .next s := by
  have hrun : s.device.phase ≠ .running := by simp [hp]
  cases hf : c.requestFrame with
  | some f =>
    obtain ⟨_, _, _, _, he, _⟩ := request_exec s hf
    rw [he, serve_held hp]
  | none =>
    cases ht : c.fieldOrTimer with
    | true =>
      obtain ⟨act, he⟩ := fieldOrTimer_exec s ht
      rw [he, State.whenRunning_other act hrun]
    | false =>
      cases c with
      | restoreComplete a b =>
        refine congrArg Host.Outcome.next ?_
        rw [hp]
      | frameRejected p bytes stopLow => exact congrArg Host.Outcome.next (onLine_held hp)
      | frameGapTimeout p => exact congrArg Host.Outcome.next (onLine_held hp)
      | overlappingFrame p => exact congrArg Host.Outcome.next (onLine_held hp)
      | shunningIdleEnd p => exact congrArg Host.Outcome.next (onLine_held hp)
      | replyComplete p => exact congrArg Host.Outcome.next (onLine_held hp)
      | unknownRequest f code payload => exact congrArg Host.Outcome.next (onLine_held hp)
      | wholeSecond => exact congrArg Host.Outcome.next (by simp [wholeSecond, hp])
      | _ => simp [Instr.supplyOrReset, Instr.requestFrame, Instr.fieldOrTimer] at h hf ht

/-- Settles O5: the guard of RUNNING, and what a held device does with each kind of command. -/
theorem nothingIsSampledOutsideRunning : Obligations.NothingIsSampledOutsideRunning := by
  refine fun c s => ⟨fun h hp => ?_, exec_held⟩
  obtain ⟨act, he⟩ := fieldOrTimer_exec s h
  rw [he, State.whenRunning_other act hp]

/-! ## The device held (R169, R171, R197) -/

theorem hold_lane (s : State) (l : Lane) : (hold s).lane l = { s.lane l with vlo := false, vhi := false } :=
  Eight.get_map LaneUnit.releaseOutputs _ _

theorem hold_tank (s : State) (k : Tank) : (hold s).tank k = { s.tank k with pumpRun := false, inlet := false } :=
  Eight.get_map TankUnit.releaseOutputs _ _

theorem hold_port (s : State) (i : PortId) : (hold s).port i = (s.port i).release := Ports.get_map Port.release _ _

/-- What a device held after a change of its supply or its RESET pin releases, and what it keeps. -/
theorem hold_releases {s t : State} {d : Device} (h : t = hold { s with device := d }) :
    (∀ l, t.lane l = { s.lane l with vlo := false, vhi := false }) ∧
      (∀ k, t.tank k = { s.tank k with pumpRun := false, inlet := false }) ∧
      (∀ i, (t.port i).tx = .high ∧ (t.port i).de = false ∧ (t.port i).attn = false ∧ (t.port i).reply = none ∧
        (t.port i).level = (s.port i).level ∧ (t.port i).denial = (s.port i).denial) ∧
      t.ports.openLevel = s.ports.openLevel ∧ t.bus = .released ∧
      t = { s with device := t.device, ports := t.ports, lanes := t.lanes, tanks := t.tanks, bus := t.bus } := by
  subst h
  refine ⟨hold_lane _, hold_tank _, fun i => ?_, rfl, rfl, rfl⟩
  rw [hold_port]
  exact ⟨rfl, rfl, rfl, rfl, rfl, rfl⟩

/-- Settles O9: a power loss, a RESET pin held low and a low supply differ only in what they write of the device before it is held. -/
theorem heldDeviceReleasesOutputs : Obligations.HeldDeviceReleasesOutputs := by
  rintro s _ (rfl | ⟨cause, rfl⟩)
  · exact ⟨_, rfl, rfl, fun h => (nomatch h), fun _ => ⟨rfl, rfl⟩, hold_releases rfl⟩
  · cases cause with
    | pin => exact ⟨_, rfl, rfl, fun _ => ⟨rfl, rfl⟩, fun h => absurd rfl h, hold_releases rfl⟩
    | lowSupply => exact ⟨_, rfl, rfl, fun h => (nomatch h), fun _ => ⟨rfl, rfl⟩, hold_releases rfl⟩

end Sys2Proof.Machine
end

section
/-! Frames whose code or length the device does not know (R171, R177, R178, R192, R194). -/

namespace Sys2Proof.Machine

/-! ## The length of a payload (R192, R194) -/

/-- A payload is cut into its fields exactly when its length is the sum of their widths (R192). -/
theorem fieldsOf_isSome_iff (ws : List Nat) (p : List Byte) : (fieldsOf ws p).isSome = true ↔ p.length = ws.sum := by
  induction ws generalizing p with
  | nil => cases p <;> simp [fieldsOf]
  | cons w ws ih =>
    unfold fieldsOf
    have ih := ih (p.drop w)
    rw [List.length_drop] at ih
    rw [List.sum_cons]
    split
    · simp; omega
    · cases hd : fieldsOf ws (p.drop w) <;> simp [hd] at ih ⊢ <;> omega

/-- There are as many fields as widths (R192). -/
theorem fieldsOf_length {ws : List Nat} {p : List Byte} {vs : List Nat} (h : fieldsOf ws p = some vs) : vs.length = ws.length := by
  induction ws generalizing p vs with
  | nil =>
    cases p with
    | nil => cases h; rfl
    | cons b p => cases h
  | cons w ws ih =>
    unfold fieldsOf at h
    split at h
    · cases h
    · split at h
      · rename_i hd
        cases h
        simp [ih hd]
      · cases h

/-! ## The codes (R177, R194) -/

/-- R194: 0x28 needs a payload of 16 bytes. -/
theorem decodeRequest_openLane (straps : BitVec 2) (f : Frame) (p : List Byte) :
    (decodeRequest straps f 0x28#8 p).isSome = true ↔ p.length = 16 := by
  refine Iff.trans ?_ (fieldsOf_isSome_iff [1, 6, 2, 3, 3, 1] p)
  show (match fieldsOf [1, 6, 2, 3, 3, 1] p with
    | some [l, g, o, pr, h, ov] => some (Instr.openLane f l (BitVec.ofNat 48 g) o (optField 3 pr) (optField 3 h) ov)
    | _ => none).isSome = true ↔ _
  cases hv : fieldsOf [1, 6, 2, 3, 3, 1] p with
  | none => simp
  | some vs =>
    match vs, fieldsOf_length hv with
    | [_, _, _, _, _, _], _ => simp

/-- R194: no code from 0x80 on is a request's. -/
theorem decodeRequest_unknown (straps : BitVec 2) (f : Frame) {code : Byte} (p : List Byte) (h : code.msb = true) :
    decodeRequest straps f code p = none := by
  have hcode : 128 ≤ code.toNat := by simpa [BitVec.msb_eq_decide] using h
  unfold decodeRequest
  split
  case h_57 => rfl
  all_goals omega

/-- Settles O31: the reply, the codes, and the widths of 0x28. -/
theorem unknownRequestIsBadRequest : Obligations.UnknownRequestIsBadRequest := by
  refine ⟨fun s f code payload hp hr hd => ?_, fun straps f code payload h => decodeRequest_unknown straps f payload h,
    decodeRequest_openLane⟩
  obtain ⟨hanswers, hbut, hother, _⟩ := reply_onlyAnswers s f code .badRequest .nothing
  refine ⟨_, congrArg Host.Outcome.next ?_, hanswers, hbut, hother⟩
  rw [onLine_powered hp]
  simp [requestKnown, hd, hr]

end Sys2Proof.Machine
end

section
/-! UNLOCK_CAL by the state of the lock, the failed attempts and the code (R165). -/

namespace Sys2Proof.Machine

section

variable {s : State} {c code : Nat}

theorem unlockAnswer_unlocked (h : s.cal.lock = .unlocked) : unlockAnswer code s = .refuse s .wrongState := by
  simp [unlockAnswer, h]

theorem unlockAnswer_permanent (h : s.cal.lock = .permanent) : unlockAnswer code s = .refuse s .locked := by
  simp [unlockAnswer, h]

/-- R165: after three failures even the right code is refused. -/
theorem unlockAnswer_barred (h : s.cal.lock = .locked c) (hf : 3 ≤ s.cal.failed) : unlockAnswer code s = .refuse s .locked := by
  simp [unlockAnswer, h, hf]

theorem unlockAnswer_opens (h : s.cal.lock = .locked c) (hf : s.cal.failed ≤ 2) (hc : code = c) (h0 : code ≠ 0) :
    unlockAnswer code s = .ok (post .cal { s with cal := { s.cal with lock := .unlocked, failed := 0 } }) .nothing := by
  have hbar : ¬ 3 ≤ s.cal.failed := by omega
  simp only [unlockAnswer, h]
  rw [if_neg hbar, if_pos ⟨hc, h0⟩]

/-- R165: another code, and a code of 0 whatever is stored, counts as a failure. -/
theorem unlockAnswer_fails (h : s.cal.lock = .locked c) (hf : s.cal.failed ≤ 2) (hc : code ≠ c ∨ code = 0) :
    unlockAnswer code s = keepShut (s.cal.failed + 1) s := by
  have hbar : ¬ 3 ≤ s.cal.failed := by omega
  have hcode : ¬ (code = c ∧ code ≠ 0) := fun ⟨he, h0⟩ => hc.elim (fun hne => hne he) h0
  simp only [unlockAnswer, h]
  rw [if_neg hbar, if_neg hcode]

end

/-- Settles O54: the lock's answer by its state, its count and the code, and the access check of a port above level 0. -/
theorem unlockCalNeedsTheCode : Obligations.UnlockCalNeedsTheCode := by
  intro s f code
  refine ⟨fun h => ⟨fun hl => ?_, fun hl => ?_, fun c hl => ⟨fun hf hc h0 => ?_, fun hf hc => ?_, fun hf => ?_⟩⟩, fun hp hr hlevel => ?_⟩
  · exact ⟨_, rfl, serve_refused h rfl (unlockAnswer_unlocked hl)⟩
  · exact ⟨_, rfl, serve_refused h rfl (unlockAnswer_permanent hl)⟩
  · exact ⟨_, congrArg Host.Outcome.next (serve_accepts h rfl (unlockAnswer_opens hl hf hc h0)), reply_answers _ _ _ _ _, rfl,
      reply_post_cal _ _ _ _ _⟩
  · refine ⟨(keepShut (s.cal.failed + 1) s).state.reply f 0x6C#8 .locked .nothing,
      congrArg Host.Outcome.next ((serve_of_takes h rfl).trans ?_), reply_answers _ _ _ _ _, (reply_ports rfl f _ _ _).1, rfl⟩
    rw [unlockAnswer_fails hl hf hc]
    rfl
  · exact ⟨_, rfl, serve_refused h rfl (unlockAnswer_barred hl hf)⟩
  · exact ⟨_, congrArg Host.Outcome.next (serve_denied hp hr (decide_eq_false hlevel)), reply_onlyAnswers _ _ _ _ _⟩

end Sys2Proof.Machine
end

section
/-! One port among three: a change of one port, a request lost at a port that is answering, and an event posted to every port (R171,
R176, R185 to R187; log 6). -/

namespace Sys2Proof.Machine

/-! ## A change of one port -/

/-- Every other port and the open level are as they were after a change of one port. -/
theorem setPort_otherPorts (s : State) (i : PortId) (p : Port) : s.otherPorts (s.setPort i p) i :=
  ⟨fun _ hj => State.port_setPort_ne _ _ _ _ hj, Ports.set_openLevel _ _ _⟩

/-! ## Overlapping frames (R176) -/

section

variable {p : Port}

/-- The first frame begun during a reply marks the port and counts (R176). -/
theorem Port.overlap_of_unmarked (hb : p.rx = .busy) (hm : p.overlapMark = false) :
    p.overlap = { p with overlapMark := true, overlapCount := min 255 (p.overlapCount + 1) } := by
  simp [Port.overlap, hb, hm, satAdd_eq]

/-- A further frame begun during the same reply counts no more (R176). -/
theorem Port.overlap_of_marked (hb : p.rx = .busy) (hm : p.overlapMark = true) : p.overlap = p := by
  simp [Port.overlap, hb, hm]

@[simp] theorem Port.overlap_reply (p : Port) : p.overlap.reply = p.reply := by
  unfold Port.overlap
  split
  · split <;> rfl
  · rfl

end

/-- A request at a port that takes no frame overlaps its reply, in RESTORING as in RUNNING (R176; log 6). -/
theorem serve_overlaps {s : State} {f : Frame} {code : Byte} {a : Access} {act : State → Answer} (hp : s.device.phase ≠ .held)
    (hr : (s.port f.port).ready = false) : serve f code a act s = s.overlapAt f.port := by
  unfold serve
  cases h : s.device.phase with
  | held => exact absurd h hp
  | restoring => simp [hr]
  | running => simp [hr]

/-- Settles O4: every request is served, and what a port that is not ready makes of it is an overlap of its own reply. -/
theorem requestAtBusyPortIsLost : Obligations.RequestAtBusyPortIsLost := by
  intro c s f hf hp hr
  obtain ⟨code, a, act, -, he, -⟩ := request_exec s hf
  have hport : (s.overlapAt f.port).port f.port = (s.port f.port).overlap := State.port_setPort_same _ _ _
  refine ⟨_, he.trans (congrArg Host.Outcome.next (serve_overlaps hp hr)), rfl, setPort_otherPorts _ _ _, ?_, fun hb hm => ?_⟩
  · rw [hport, Port.overlap_reply]
  · rw [hport, Port.overlap_of_unmarked hb hm]
    exact ⟨rfl, rfl⟩

/-! ## The line and the pulse (R186, R187) -/

section

variable {p : Port} {k : EventKind}

/-- In READ and WRITE the line follows the set and the mask (R186). -/
theorem Port.followSet_attn (h : p.mode ≠ .pulse) : p.followSet.attn = true ↔ p.pendingSet &&& p.mask ≠ 0#16 := by
  unfold Port.followSet
  split
  · next hm => exact absurd hm h
  · exact decide_eq_true_iff

theorem Port.post_of_latched (h : p.mode ≠ .pulse) : p.post k = { p with pendingSet := p.pendingSet ||| k.bit }.followSet := by
  unfold Port.post
  split
  · next hm => exact absurd hm h
  · rfl

/-- A kind newly added that the mask includes starts a pulse when none runs (R187). -/
theorem Port.post_starts_pulse (h : p.mode = .pulse) (hset : holdsKind p.pendingSet k = false) (hmask : holdsKind p.mask k = true)
    (hpulse : p.pulse = none) :
    p.post k = { p with pendingSet := p.pendingSet ||| k.bit, pulse := some p.width, attn := true } := by
  simp [Port.post, h, hset, hmask, hpulse]

/-- Any other posting in PULSE changes the set alone (R187). -/
theorem Port.post_leaves_line (h : p.mode = .pulse)
    (hno : holdsKind p.pendingSet k = true ∨ holdsKind p.mask k = false ∨ p.pulse ≠ none) :
    p.post k = { p with pendingSet := p.pendingSet ||| k.bit } := by
  have hcond : (!holdsKind p.pendingSet k && holdsKind p.mask k && p.pulse.isNone) = false := by
    rcases hno with hset | hmask | hpulse
    · simp [hset]
    · simp [hmask]
    · simp [Option.isNone_eq_false_iff, Option.isSome_iff_ne_none, hpulse]
  simp [Port.post, h, hcond]

end

/-- Settles O33: a posting is the posting at each port, whose line depends on the mode and, in PULSE, on what starts a pulse. -/
theorem postingReachesEveryPort : Obligations.PostingReachesEveryPort := by
  intro s k i
  simp only [post_port]
  refine ⟨rfl, Port.post_pendingSet _ _, Port.post_mask _ _, Port.post_reply _ _, fun h => ?_,
    fun h => ⟨fun hset hmask hpulse => ?_, fun hno => ?_⟩⟩
  · rw [Port.post_of_latched h]
    exact Port.followSet_attn h
  · rw [Port.post_starts_pulse h hset hmask hpulse]
    exact ⟨rfl, rfl⟩
  · rw [Port.post_leaves_line h hno]
    exact ⟨rfl, rfl⟩

end Sys2Proof.Machine
end

section
/-! READ_EVENTS, CLEAR_EVENTS and SET_ATTENTION: the set, the settings and the line of the requesting port (R185 to R189, R195). -/

namespace Sys2Proof.Machine

/-! ## A request that its own port carries out (R176 to R178) -/

section

variable {s : State} {f : Frame} {cmd : Instr} {code : Byte} {a : Access} {act : State → Answer}

/-- A request whose answer changes its own port leaves that port, so changed, sending the reply, and moves no other. -/
theorem exec_at_port {p : Port} {payload : Payload} (h : s.takes f cmd = true) (he : exec cmd s = .next (serve f code a act s))
    (ha : accessPasses s f.port a = s.permits f.port cmd) (hx : act s = .ok (s.setPort f.port p) payload) :
    ∃ t r, exec cmd s = .next t ∧ s.sameButPorts t ∧ s.otherPorts t f.port ∧ t.answers f code .ok payload ∧
      t.port f.port = p.send r := by
  refine ⟨_, { seq := f.seq, code := code ||| 0x80#8, status := .ok, payload := payload },
    he.trans (congrArg Host.Outcome.next (serve_accepts h ha hx)), rfl, ?_, reply_answers _ _ _ _ _, ?_⟩
  · rw [State.reply, State.setPort_setPort]
    exact setPort_otherPorts _ _ _
  · rw [State.reply_port_same, State.port_setPort_same]

/-- A request that its block refuses leaves a state that differs in the reply of its port alone. -/
theorem exec_refused {st : Status} (h : s.takes f cmd = true) (he : exec cmd s = .next (serve f code a act s))
    (ha : accessPasses s f.port a = s.permits f.port cmd) (hx : act s = .refuse s st) :
    ∃ t, exec cmd s = .next t ∧ s.onlyAnswers t f code st .nothing :=
  ⟨_, he, serve_refused h ha hx⟩

/-- A reply keeps the pending set, the mask and the mode of its port. -/
theorem Port.replying.attention {p q : Port} (h : p.replying q) :
    q.pendingSet = p.pendingSet ∧ q.mask = p.mask ∧ q.mode = p.mode := by
  unfold Port.replying at h
  rw [h]
  exact ⟨rfl, rfl, rfl⟩

end

section

variable {p : Port} {m : LatchMode}

/-! ## The set read and cleared (R186, R188) -/

theorem Port.takeEvents_of_write (h : p.mode = .write) : p.takeEvents = p := by
  simp [Port.takeEvents, h]

theorem Port.takeEvents_of_read (h : p.mode = .read) : p.takeEvents = { p with pendingSet := 0#16, attn := false } := by
  simp [Port.takeEvents, Port.followSet, h]

theorem Port.takeEvents_of_pulse (h : p.mode = .pulse) : p.takeEvents = { p with pendingSet := 0#16 } := by
  simp [Port.takeEvents, Port.followSet, h]

theorem Port.takeEvents_pendingSet (h : p.mode ≠ .write) : p.takeEvents.pendingSet = 0#16 := by
  cases hm : p.mode with
  | read => rw [Port.takeEvents_of_read hm]
  | write => exact absurd hm h
  | pulse => rw [Port.takeEvents_of_pulse hm]

@[simp] theorem Port.removeKinds_pendingSet (kinds : EventSet) (p : Port) :
    (p.removeKinds kinds).pendingSet = p.pendingSet &&& ~~~kinds := Port.followSet_pendingSet _

theorem Port.removeKinds_attn (kinds : EventSet) (h : p.mode ≠ .pulse) :
    (p.removeKinds kinds).attn = true ↔ (p.removeKinds kinds).pendingSet &&& (p.removeKinds kinds).mask ≠ 0#16 := by
  simp only [Port.removeKinds, Port.followSet_pendingSet, Port.followSet_mask]
  exact Port.followSet_attn h

theorem kindsOnly_iff (w : EventSet) : kindsOnly w = true ↔ w &&& 0xF800#16 = 0#16 := decide_eq_true_iff

theorem clearEventsAnswer_ok {s : State} {i : PortId} {kinds : BitVec 16} (h : kinds &&& 0xF800#16 = 0#16) :
    clearEventsAnswer i kinds s =
      .ok (s.setPort i ((s.port i).removeKinds kinds)) (.eventsLeft ((s.port i).removeKinds kinds).pendingSet) :=
  if_pos ((kindsOnly_iff kinds).2 h)

theorem clearEventsAnswer_range {s : State} {i : PortId} {kinds : BitVec 16} (h : kinds &&& 0xF800#16 ≠ 0#16) :
    clearEventsAnswer i kinds s = .refuse s .range :=
  if_neg fun hk => h ((kindsOnly_iff kinds).1 hk)

/-! ## The attention settings (R189) -/

/-- SET_ATTENTION replaces the three settings and keeps the set. -/
theorem Port.setAttention_settings (mask : EventSet) (m : LatchMode) (width : Nat) (p : Port) :
    (p.setAttention mask m width).mask = mask ∧ (p.setAttention mask m width).mode = m ∧
      (p.setAttention mask m width).width = width ∧ (p.setAttention mask m width).pendingSet = p.pendingSet := by
  unfold Port.setAttention
  dsimp only
  split
  · exact ⟨rfl, rfl, rfl, rfl⟩
  · exact ⟨rfl, rfl, rfl, rfl⟩
  · simp

/-- In READ and WRITE no pulse runs and the line follows the set. -/
theorem Port.setAttention_of_latched (mask : EventSet) (width : Nat) (h : m ≠ .pulse) :
    p.setAttention mask m width = { p with mask := mask, mode := m, width := width, pulse := none }.followSet := by
  cases m with
  | pulse => exact absurd rfl h
  | read => rfl
  | write => rfl

/-- Entering PULSE releases the line. -/
theorem Port.setAttention_enters_pulse (mask : EventSet) (width : Nat) (h : p.mode ≠ .pulse) :
    p.setAttention mask .pulse width = { p with mask := mask, mode := .pulse, width := width, pulse := none, attn := false } := by
  cases hm : p.mode with
  | pulse => exact absurd hm h
  | read => simp [Port.setAttention, hm]
  | write => simp [Port.setAttention, hm]

/-- Where PULSE is kept the line is left to a running pulse. -/
theorem Port.setAttention_keeps_pulse (mask : EventSet) (width : Nat) (h : p.mode = .pulse) :
    p.setAttention mask .pulse width = { p with mask := mask, mode := .pulse, width := width } := by
  simp [Port.setAttention, h]

/-- A number above 2 stands for no mode (R195). -/
theorem modeOf_beyond {n : Nat} (h : 2 < n) : modeOf n = none := by
  obtain ⟨k, rfl⟩ : ∃ k, n = k + 3 := ⟨n - 3, by omega⟩
  rfl

variable {s : State} {i : PortId} {mask : BitVec 16} {mode width : Nat}

theorem setAttentionAnswer_ok (hm : modeOf mode = some m) (hw : width ∈ pulseWidths) (hk : mask &&& 0xF800#16 = 0#16) :
    setAttentionAnswer i mask mode width s =
      .ok (s.setPort i ((s.port i).setAttention mask m width)) (.attention mask mode width) := by
  simp [setAttentionAnswer, hm, hw, (kindsOnly_iff mask).2 hk]

/-- Another mode, another width and a bit that stands for no kind are each out of range (R189, R195). -/
theorem setAttentionAnswer_range (h : 2 < mode ∨ width ∉ pulseWidths ∨ mask &&& 0xF800#16 ≠ 0#16) :
    setAttentionAnswer i mask mode width s = .refuse s .range := by
  unfold setAttentionAnswer
  split
  · next m hm =>
    refine if_neg fun hc => ?_
    obtain ⟨hk, hw⟩ := Bool.and_eq_true_iff.1 hc
    rcases h with h | h | h
    · rw [modeOf_beyond h] at hm
      cases hm
    · exact h (of_decide_eq_true hw)
    · exact h ((kindsOnly_iff mask).1 hk)
  · rfl

end

/-- Settles O32: each request is carried out at its own port, by the mode of the port and the one that is set. -/
theorem eventRequestsOnOnePort : Obligations.EventRequestsOnOnePort := by
  intro s f
  refine ⟨fun h => ?_, fun kinds h => ⟨fun hk => ?_, fun hk => ?_⟩,
    fun mask mode width m h => ⟨fun hm hw hk => ?_, fun hbad => ?_⟩⟩
  · obtain ⟨t, r, he, hbut, hother, hanswers, hport⟩ := exec_at_port h rfl rfl rfl
    refine ⟨t, he, hbut, hother, hanswers, ?_⟩
    rw [hport]
    refine ⟨fun hm => ?_, fun hm => Port.takeEvents_pendingSet hm, fun hm => ?_, fun hm => ?_⟩
    · rw [Port.takeEvents_of_write hm]; rfl
    · rw [Port.takeEvents_of_read hm]; rfl
    · rw [Port.takeEvents_of_pulse hm]; exact ⟨rfl, rfl⟩
  · obtain ⟨t, r, he, hbut, hother, hanswers, hport⟩ := exec_at_port h rfl rfl (clearEventsAnswer_ok hk)
    refine ⟨t, he, hbut, hother, ?_⟩
    rw [hport]
    exact ⟨Port.removeKinds_pendingSet _ _, hanswers, Port.removeKinds_attn kinds⟩
  · obtain ⟨t, he, hanswers, hbut, hother, hreply⟩ := exec_refused h rfl rfl (clearEventsAnswer_range hk)
    obtain ⟨hset, -, -⟩ := hreply.attention
    exact ⟨t, he, hbut, hother, hanswers, hset⟩
  · obtain ⟨t, r, he, hbut, hother, hanswers, hport⟩ := exec_at_port h rfl rfl (setAttentionAnswer_ok hm hw hk)
    obtain ⟨hmask, hmode, hwidth, hset⟩ := Port.setAttention_settings mask m width (s.port f.port)
    refine ⟨t, he, hbut, hother, hanswers, ?_⟩
    rw [hport]
    refine ⟨hmask, hmode, hwidth, hset, fun hl => ?_, ?_, ?_⟩
    · rw [Port.setAttention_of_latched mask width hl]
      exact ⟨Port.followSet_pulse _, Port.followSet_attn hl⟩
    · rintro rfl hold
      rw [Port.setAttention_enters_pulse mask width hold]
      exact ⟨rfl, rfl⟩
    · rintro rfl hold
      rw [Port.setAttention_keeps_pulse mask width hold]
      exact ⟨rfl, rfl⟩
  · obtain ⟨t, he, hanswers, hbut, hother, hreply⟩ := exec_refused h rfl rfl (setAttentionAnswer_range hbad)
    obtain ⟨-, hmask, hmode⟩ := hreply.attention
    exact ⟨t, he, hbut, hother, hanswers, hmask, hmode⟩

end Sys2Proof.Machine
end

section
/-! The line of a port, character by character: characters heard, gaps, overlaps, the ends of replies and of shunning (R174 to R176;
log 7, log 23). -/

namespace Sys2Proof.Machine

/-! ## The judgement of a frame (R175) -/

/-- After the start byte and a length byte a frame is rejected exactly where the length is out of range. -/
theorem charsVerdict_length (len : Byte) : charsVerdict [0xC3#8, len] = .rejected ↔ len.toNat < 2 ∨ 242 < len.toNat := by
  simp only [charsVerdict]
  split
  · next h => exact iff_of_true rfl h
  · next h => exact iff_of_false (by simp) h

/-- A frame with all its characters, whose length byte is in range, is judged by its CRC. -/
theorem charsVerdict_complete {len seq code : Byte} {payload : List Byte} (hi lo : Byte) (h2 : 2 ≤ len.toNat) (h242 : len.toNat ≤ 242)
    (hlen : (seq :: code :: payload).length = len.toNat) :
    charsVerdict (0xC3#8 :: len :: ((seq :: code :: payload) ++ [hi, lo])) =
      if charsVerdict.valueOf16 [hi, lo] = crc16 (len :: seq :: code :: payload) then .accepted seq code payload else .rejected := by
  have hrange : ¬ (len.toNat < 2 ∨ 242 < len.toNat) := by omega
  have hwhole : ¬ ((seq :: code :: payload) ++ [hi, lo]).length < len.toNat + 2 := by simp [← hlen]
  rw [charsVerdict]
  dsimp only
  rw [if_neg hrange, if_neg hwhole, List.take_left' hlen, List.drop_left' hlen]
  rfl

/-- The check value is its two bytes, the high one first (R193). -/
theorem valueOf16_toNat (hi lo : Byte) : (charsVerdict.valueOf16 [hi, lo]).toNat = hi.toNat * 256 + lo.toNat := by
  simp only [charsVerdict.valueOf16, valueOf, List.foldl, BitVec.toNat_ofNat]
  omega

/-- Such a frame is rejected exactly where its check value is another than the CRC of its length byte and its body. -/
theorem charsVerdict_complete_rejected {len : Byte} {body : List Byte} (hi lo : Byte) (h2 : 2 ≤ len.toNat) (h242 : len.toNat ≤ 242)
    (hbody : body.length = len.toNat) :
    charsVerdict (0xC3#8 :: len :: (body ++ [hi, lo])) = .rejected ↔
      hi.toNat * 256 + lo.toNat ≠ (crc16 (len :: body)).toNat := by
  obtain ⟨seq, code, payload, rfl⟩ : ∃ seq code payload, body = seq :: code :: payload := by
    match body, hbody with
    | [], h => rw [← h] at h2; cases h2
    | [_], h => rw [← h] at h2; simp at h2
    | seq :: code :: payload, _ => exact ⟨seq, code, payload, rfl⟩
  rw [charsVerdict_complete hi lo h2 h242 hbody, ← valueOf16_toNat, ne_eq, BitVec.toNat_inj]
  split
  · next h => simp [h]
  · next h => simp [h]

/-! ## One character (R175) -/

section

variable {buffer : List Byte} {byte : Byte} {stopLow : Bool}

theorem receiveChars_one_discarded (h : byte ≠ 0xC3#8 ∨ stopLow = true) : receiveChars [] [byte] stopLow = some ([], 0) := by
  have hchar : receiveChar [] byte stopLow = .discarded := by
    rcases h with h | h <;> simp [receiveChar, h]
  simp [receiveChars, hchar]

theorem receiveChars_one_rejected (hb : buffer ≠ []) (h : stopLow = true ∨ charsVerdict (buffer ++ [byte]) = .rejected) :
    receiveChars buffer [byte] stopLow = some ([], 1) := by
  have hchar : receiveChar buffer byte stopLow = .rejected := by
    cases buffer with
    | nil => exact absurd rfl hb
    | cons b bs =>
      cases stopLow with
      | true => rfl
      | false =>
        rcases h with h | h
        · cases h
        · simp only [receiveChar, h, Bool.false_eq_true, if_false]
  simp [receiveChars, hchar]

theorem receiveChars_one_goes_on (hb : buffer ≠ []) (h : charsVerdict (buffer ++ [byte]) = .incomplete) :
    receiveChars buffer [byte] false = some (buffer ++ [byte], 0) := by
  have hchar : receiveChar buffer byte false = .receiving (buffer ++ [byte]) := by
    cases buffer with
    | nil => exact absurd rfl hb
    | cons b bs => simp only [receiveChar, h, Bool.false_eq_true, if_false]
  simp [receiveChars, hchar]

/-- Characters are taken one by one: the rest meets the buffer that the first leaves, and the rejections add up (log 23). -/
theorem receiveChars_cons {rest : List Byte} (hrest : rest ≠ []) :
    receiveChars buffer (byte :: rest) stopLow =
      (receiveChars buffer [byte] false).bind fun r => (receiveChars r.1 rest stopLow).map fun q => (q.1, r.2 + q.2) := by
  have hlast : (stopLow && rest.isEmpty) = false := by simp [hrest]
  cases hchar : receiveChar buffer byte false with
  | discarded => simp [receiveChars, hlast, hchar]
  | rejected => simp [receiveChars, hlast, hchar, Nat.add_comm]
  | receiving buffer' => simp [receiveChars, hlast, hchar]
  | accepted => simp [receiveChars, hlast, hchar]

end

/-! ## The port that hears (R175) -/

section

variable {p : Port} {bytes : List Byte} {stopLow : Bool}

theorem Port.hear_of_receiveChars {r : List Byte × Nat} (hr : p.ready = true) (h : receiveChars p.heard bytes stopLow = some r) :
    p.hear bytes stopLow = p.withBuffer r.1 r.2 := by
  simp [Port.hear, hr, h]

/-- A port over a buffer can take a frame, and hears on with that buffer. -/
theorem Port.withBuffer_ready (buffer : List Byte) (n : Nat) (p : Port) : (p.withBuffer buffer n).ready = true := by
  cases buffer <;> rfl

theorem Port.withBuffer_heard (buffer : List Byte) (n : Nat) (p : Port) : (p.withBuffer buffer n).heard = buffer := by
  cases buffer <;> rfl

/-- Rejections counted one after another are counted together. -/
theorem Port.withBuffer_withBuffer (b b' : List Byte) (n m : Nat) (p : Port) :
    (p.withBuffer b n).withBuffer b' m = p.withBuffer b' (n + m) := by
  have hcount : satAdd 255 (satAdd 255 p.crcCount n) m = satAdd 255 p.crcCount (n + m) := by
    simp only [satAdd_eq]
    omega
  simp only [Port.withBuffer, hcount]

/-- A port hears characters one by one, where none of them ends an accepted frame (log 23). -/
theorem Port.hear_cons {byte : Byte} {rest : List Byte} (hr : p.ready = true) (hrest : rest ≠ [])
    (h : receiveChars p.heard (byte :: rest) stopLow ≠ none) :
    p.hear (byte :: rest) stopLow = (p.hear [byte] false).hear rest stopLow := by
  have hcons := receiveChars_cons (buffer := p.heard) (byte := byte) (stopLow := stopLow) hrest
  obtain ⟨r, hall⟩ := Option.ne_none_iff_exists'.1 h
  obtain ⟨a, hfirst, hmap⟩ := Option.bind_eq_some_iff.1 (hcons.symm.trans hall)
  obtain ⟨b, hthen, rfl⟩ := Option.map_eq_some_iff.1 hmap
  rw [Port.hear_of_receiveChars hr hall, Port.hear_of_receiveChars hr hfirst,
    Port.hear_of_receiveChars (Port.withBuffer_ready _ _ _) (by rw [Port.withBuffer_heard]; exact hthen),
    Port.withBuffer_withBuffer]

/-- With nothing rejected the CRC counter is as it was. -/
theorem Port.withBuffer_zero (hlaw : p.meetsReceiveLaw) (buffer : List Byte) :
    p.withBuffer buffer 0 = { p with rx := rxOver buffer, rxBuffer := buffer } := by
  obtain ⟨-, -, hcrc, -⟩ := hlaw
  simp [Port.withBuffer, satAdd_eq, hcrc]

/-- A HUNTING port has an empty buffer. -/
theorem Port.withBuffer_of_hunting (hlaw : p.meetsReceiveLaw) (h : p.rx = .hunting) : p.withBuffer [] 0 = p := by
  rw [Port.withBuffer_zero hlaw]
  obtain ⟨hbuffer, -⟩ := hlaw
  have hempty : p.rxBuffer = [] := by
    by_contra hne
    rw [hbuffer.2 hne] at h
    cases h
  show { p with rx := .hunting, rxBuffer := [] } = p
  rw [← h, ← hempty]

theorem Port.ready_of_hunting (h : p.rx = .hunting) : p.ready = true := by simp [Port.ready, h]

theorem Port.ready_of_receiving (h : p.rx = .receiving) : p.ready = true := by simp [Port.ready, h]

theorem Port.heard_of_hunting (h : p.rx = .hunting) : p.heard = [] := by simp [Port.heard, h]

theorem Port.heard_of_receiving (h : p.rx = .receiving) : p.heard = p.rxBuffer := by simp [Port.heard, h]

/-! ## The character heard in HUNTING and in RECEIVING (R175) -/

variable {byte : Byte}

/-- In HUNTING all but a start byte with its stop bit high is discarded. -/
theorem Port.hear_discards (hlaw : p.meetsReceiveLaw) (h : p.rx = .hunting) (hb : byte ≠ 0xC3#8 ∨ stopLow = true) :
    p.hear [byte] stopLow = p := by
  have hone : receiveChars p.heard [byte] stopLow = some ([], 0) := by
    rw [Port.heard_of_hunting h, receiveChars_one_discarded hb]
  exact (Port.hear_of_receiveChars (Port.ready_of_hunting h) hone).trans (Port.withBuffer_of_hunting hlaw h)

/-- A start byte begins a frame. -/
theorem Port.hear_start (hlaw : p.meetsReceiveLaw) (h : p.rx = .hunting) :
    p.hear [0xC3#8] false = { p with rx := .receiving, rxBuffer := [0xC3#8] } := by
  have hone : receiveChars p.heard [0xC3#8] false = some ([0xC3#8], 0) := by
    rw [Port.heard_of_hunting h]
    rfl
  exact (Port.hear_of_receiveChars (Port.ready_of_hunting h) hone).trans (Port.withBuffer_zero hlaw _)

/-- In RECEIVING a low stop bit and a frame judged bad reject the frame. -/
theorem Port.hear_rejects (hlaw : p.meetsReceiveLaw) (h : p.rx = .receiving)
    (hb : stopLow = true ∨ charsVerdict (p.rxBuffer ++ [byte]) = .rejected) :
    p.hear [byte] stopLow = { p with rx := .hunting, rxBuffer := [], crcCount := min 255 (p.crcCount + 1) } := by
  obtain ⟨hbuffer, -⟩ := hlaw
  have hone : receiveChars p.heard [byte] stopLow = some ([], 1) := by
    rw [Port.heard_of_receiving h, receiveChars_one_rejected (hbuffer.1 h) hb]
  exact Port.hear_of_receiveChars (Port.ready_of_receiving h) hone

/-- In RECEIVING a character of a frame that is not whole is appended. -/
theorem Port.hear_appends (hlaw : p.meetsReceiveLaw) (h : p.rx = .receiving)
    (hb : charsVerdict (p.rxBuffer ++ [byte]) = .incomplete) :
    p.hear [byte] false = { p with rx := .receiving, rxBuffer := p.rxBuffer ++ [byte] } := by
  have ⟨hbuffer, _⟩ := hlaw
  have hone : receiveChars p.heard [byte] false = some (p.rxBuffer ++ [byte], 0) := by
    rw [Port.heard_of_receiving h, receiveChars_one_goes_on (hbuffer.1 h) hb]
  have hover : rxOver (p.rxBuffer ++ [byte]) = .receiving := by simp [rxOver]
  rw [Port.hear_of_receiveChars (Port.ready_of_receiving h) hone, Port.withBuffer_zero hlaw, hover]

/-! ## Gaps, replies and shunning (R175, R176) -/

theorem Port.gapFrame_of_hunting (h : p.rx = .hunting) : p.gapFrame = p := by simp [Port.gapFrame, h]

theorem Port.gapFrame_of_receiving (h : p.rx = .receiving) :
    p.gapFrame = { p with rx := .hunting, rxBuffer := [], gapCount := min 255 (p.gapCount + 1) } := by
  simp [Port.gapFrame, Port.hunt, h, satAdd_eq]

theorem Port.endShunning_of_shunning (h : p.rx = .shunning) : p.endShunning = { p with rx := .hunting, rxBuffer := [] } := by
  simp [Port.endShunning, Port.hunt, h]

/-- The end of a reply releases DE and TX (R174), and counts nothing. -/
theorem Port.endReply_releases (rate : BitVec 2) (h : p.rx = .busy) :
    (p.endReply rate).de = false ∧ (p.endReply rate).tx = .high ∧ (p.endReply rate).reply = none ∧
      (p.endReply rate).overlapCount = p.overlapCount := by
  rw [Port.endReply, h]
  dsimp only
  split
  · exact ⟨rfl, rfl, rfl, rfl⟩
  · split <;> exact ⟨rfl, rfl, rfl, rfl⟩

/-- A reply that has not crossed a restart ends at its rate, in SHUNNING if it was overlapped (R176). -/
theorem Port.endReply_of_not_crossing (rate : BitVec 2) (h : p.rx = .busy) (hc : p.crossing = false) :
    (p.endReply rate).rate = p.rate ∧ (p.endReply rate).rx = if p.overlapMark then .shunning else .hunting := by
  cases hm : p.overlapMark <;> simp [Port.endReply, h, hc, hm]

/-- A reply that has crossed a restart ends in HUNTING at the new rate (log 7). -/
theorem Port.endReply_of_crossing (rate : BitVec 2) (h : p.rx = .busy) (hc : p.crossing = true) :
    (p.endReply rate).rx = .hunting ∧ (p.endReply rate).rate = rate := by
  simp [Port.endReply, h, hc]

end

/-! ## The commands (R171, R174 to R176) -/

section

variable {s : State} (i : PortId)

theorem frameRejected_exec (bytes : List Byte) (stopLow : Bool) (h : s.device.phase ≠ .held) :
    exec (.frameRejected i bytes stopLow) s = .next (s.setPort i ((s.port i).hear bytes stopLow)) :=
  congrArg Host.Outcome.next (onLine_powered h)

theorem frameGapTimeout_exec (h : s.device.phase ≠ .held) :
    exec (.frameGapTimeout i) s = .next (s.setPort i (s.port i).gapFrame) :=
  congrArg Host.Outcome.next (onLine_powered h)

theorem overlappingFrame_exec (h : s.device.phase ≠ .held) :
    exec (.overlappingFrame i) s = .next (s.setPort i (s.port i).overlap) :=
  congrArg Host.Outcome.next (onLine_powered h)

theorem replyComplete_exec (h : s.device.phase ≠ .held) :
    exec (.replyComplete i) s = .next (s.setPort i ((s.port i).endReply s.device.lineRate)) :=
  congrArg Host.Outcome.next (onLine_powered h)

theorem shunningIdleEnd_exec (h : s.device.phase ≠ .held) :
    exec (.shunningIdleEnd i) s = .next (s.setPort i (s.port i).endShunning) :=
  congrArg Host.Outcome.next (onLine_powered h)

/-- Several characters in one command are the first in a command of its own and the rest in another (log 23). -/
theorem frameRejected_cons {first : Byte} {rest : List Byte} {stopLow : Bool} {u : State} (h : s.device.phase ≠ .held)
    (hrest : rest ≠ []) (hr : (s.port i).ready = true) (hall : receiveChars (s.port i).heard (first :: rest) stopLow ≠ none)
    (hu : exec (.frameRejected i [first] false) s = .next u) :
    exec (.frameRejected i (first :: rest) stopLow) s = exec (.frameRejected i rest stopLow) u := by
  rw [frameRejected_exec i [first] false h] at hu
  obtain rfl : s.setPort i ((s.port i).hear [first] false) = u := Host.Outcome.next.inj hu
  have hthen := frameRejected_exec (s := s.setPort i ((s.port i).hear [first] false)) i rest stopLow h
  rw [hthen, frameRejected_exec i (first :: rest) stopLow h, State.port_setPort_same, State.setPort_setPort,
    Port.hear_cons hr hrest hall]

end

/-- Settles O30: each command changes its port alone, and what becomes of that port is said above by its receive state. -/
theorem framingEventsMoveOnePort : Obligations.FramingEventsMoveOnePort := by
  intro s i hp
  refine ⟨fun hlaw hrx => ⟨fun byte stopLow hb => ?_, ?_, ?_⟩, fun hlaw hrx => ⟨fun byte stopLow hb => ?_, fun byte hb => ?_, ?_⟩,
    charsVerdict_length, fun len body hi lo h2 h242 hbody => charsVerdict_complete_rejected hi lo h2 h242 hbody,
    fun first rest stopLow u hrest hr hall _ hu => frameRejected_cons i hp hrest hr hall hu, fun hrx hm => ?_, fun hrx hm => ?_,
    fun hrx => ?_, fun hrx => ?_⟩
  · rw [frameRejected_exec i _ _ hp, Port.hear_discards (hlaw i) hrx hb, State.setPort_port_self]
  · rw [frameRejected_exec i _ _ hp, Port.hear_start (hlaw i) hrx]
  · rw [frameGapTimeout_exec i hp, Port.gapFrame_of_hunting hrx, State.setPort_port_self]
  · rw [frameRejected_exec i _ _ hp, Port.hear_rejects (hlaw i) hrx hb]
  · rw [frameRejected_exec i _ _ hp, Port.hear_appends (hlaw i) hrx hb]
  · rw [frameGapTimeout_exec i hp, Port.gapFrame_of_receiving hrx]
  · exact ⟨_, overlappingFrame_exec i hp, by rw [Port.overlap_of_unmarked hrx hm]⟩
  · rw [overlappingFrame_exec i hp, Port.overlap_of_marked hrx hm, State.setPort_port_self]
  · obtain ⟨hde, htx, hreply, hcount⟩ := Port.endReply_releases s.device.lineRate hrx
    refine ⟨_, replyComplete_exec i hp, rfl, setPort_otherPorts _ _ _, ?_⟩
    rw [State.port_setPort_same]
    exact ⟨hde, htx, hreply, hcount, Port.endReply_of_not_crossing _ hrx, Port.endReply_of_crossing _ hrx⟩
  · exact ⟨_, shunningIdleEnd_exec i hp, by rw [Port.endShunning_of_shunning hrx]⟩

end Sys2Proof.Machine
end

section
/-! The step by the queue: the command at its front runs on the state with the queue's rest (log 26). -/

namespace Sys2Proof.Machine

/-- Where a command stands at the front of the queue, the step is that command's meaning on the state with the rest. -/
theorem step_of_pending_cons {s : State} {c : Instr} {rest : List Instr} (h : s.pending = c :: rest) :
    step s = exec c { s with pending := rest } := by
  rw [step, h]

/-- Settles O1: the queue's rest is the queue that `s` had, so the command runs on `s` itself. -/
theorem stepRunsFrontCommand : Obligations.StepRunsFrontCommand := fun c s =>
  calc step { s with pending := c :: s.pending }
      = exec c { s with pending := s.pending } := step_of_pending_cons rfl
    _ = exec c s := rfl

end Sys2Proof.Machine
end
